-- ==== Sys2Proof/Word.lean ====
section
/-! DEFINITION. The plain data types of the model: bytes and sparse tables. -/

namespace Sys2Proof

/-- One byte. -/
abbrev Byte := BitVec 8

/-- A sparse table: (key, value) pairs, keys strictly rising, no entry equal to the table's default.
The operations over it stand in Machine/Tables.lean. A table of bytes is a list of Host.Cell. -/
abbrev Tbl (α : Type) := List (Nat × α)

/-- Samples per tick (00_scope R10). -/
def tickSamples : Nat := 32

/-- Samples per slow tick (00_scope R10, 02 R34). -/
def slowSamples : Nat := 768

/-- The minimum lead of an APPLY_AT: 750 ticks (02 R53). -/
def leadSamples : Nat := 24000

end Sys2Proof
end

