-- ==== Sys2Proof/Syntax.lean ====
section
/-! DEFINITION. The commands of the block: one constructor per row of spec/opcode_table.json.
The table gives no operands; each constructor carries what the row's rule takes from outside the
block: the number of the object, the frame of a mailbox command, or the data that arrives. -/

namespace Sys2Proof

/-- One mailbox command frame (13 R335): the function it came from, the 16-byte header, the payload
bytes (bytes beyond the list are 0), and what a fetch of a host-space input reference delivers
(R337; none: host error, completion timeout or a poisoned completion). -/
structure Frame where
  func     : Fin 17
  header   : BitVec 128
  payload  : List Byte
  refBytes : Option (List Byte)
deriving DecidableEq, Repr

/-- The kinds of a TID (01 R19). -/
inductive Kind where
  | drive | readout | flux | bias
deriving DecidableEq, Repr

/-- A thread named by tile, kind and local index (01 R19). -/
structure ThreadRef where
  tile  : Fin 12
  kind  : Kind
  index : Fin 32
deriving DecidableEq, Repr

/-- The mailboxes whose consumer index the host drives (13 R333). -/
inductive HostRing where
  | rsp | evt | aud
deriving DecidableEq, Repr

/-- The four mailbox rings (13 R333). -/
inductive MbRing where
  | cmd | rsp | evt | aud
deriving DecidableEq, Repr

/-- Causes of a Gaffer halt (13 R328). -/
inductive HaltCause where
  | lockstep | sramWord | watchdog
deriving DecidableEq, Repr

/-- Consecutive ADC codes of one readout pair: code i carries label first + 2 * i (02 R55).
A label outside the trace reads code 0. -/
structure AdcTrace where
  first : Nat
  codes : List (BitVec 12)
deriving DecidableEq, Repr

/-- The events a Marver lane slot receives (06 R164). TRC names its sample j. -/
inductive MvEvent where
  | trc (j : Nat) | endw | int
deriving DecidableEq, Repr

/-- What training finds on a DDR channel (14 R359, R360): passed, modules, ranks, MT/s, GB per module. -/
structure DimmReport where
  passed  : Bool
  modules : Fin 3
  ranks   : Fin 3
  speed   : BitVec 16
  gbEach  : Nat
deriving DecidableEq, Repr

/-- What ends a DMA read early (12 R321): the host refuses it; it is not completed within the completion timeout; a
completion arrives with an ECRC error. -/
inductive HostError where
  | refused | timeout | ecrc
deriving DecidableEq, Repr

/-- The host's answer to the reads and writes of a DMA descriptor (11 R302, 12 R321): the bytes read,
the 8-byte words that came poisoned, and the 16-byte units done before an error stopped it, with that error. -/
structure HostReply where
  bytes    : List Byte
  poisoned : List Nat
  failAt   : Option Nat
  error    : HostError := .refused
deriving DecidableEq, Repr

/-- How a write TLP of the host arrives (12 R319, R321): sound, poisoned (EP = 1), or with an ECRC error. -/
inductive Tlp where
  | sound | poisoned | ecrc
deriving DecidableEq, Repr

/-- The fields of a received Announce message that master selection compares (16 R434). -/
structure Announce where
  priority1 : BitVec 8
  clockClass : BitVec 8
  accuracy  : BitVec 8
  variance  : BitVec 16
  priority2 : BitVec 8
  identity  : BitVec 64
  steps     : BitVec 16
  utcOffset : BitVec 16
  ptpScale  : Bool
deriving DecidableEq, Repr

/-- PTP messages a timing port passes on (16 R433, R434). An event message names the sample of its tick in which its start of
frame passes (R435). -/
inductive PtpMessage where
  | announce (a : Announce)
  | announceTimeout
  | sync (usable : Bool) (sample : Fin 32)
  /-- What ends an exchange: a Delay_Resp, or a Pdelay_Resp with the sample of its arrival. -/
  | delayExchange (sample : Fin 32)
  | pdelayReq (sample : Fin 32)
  | management
deriving DecidableEq, Repr

/-- Hardware that Nirdin marks for repair (20 R507): a row or column of a store, a Loom, a core. -/
inductive RepairItem where
  | array (store : BitVec 8) (address : Nat) (row : Bool)
  | loom (n : Fin 96)
  | core (n : Fin 24)
deriving DecidableEq, Repr

/-- The configuration-space fields a CONFIG_WRITE changes (12 R311, R314, R316, R321, R325), in PCI Express encodings. The
table has no row for a configuration read: `read` is one, of the 32-bit word at an offset (DESIGN CHOICE, log 124). -/
inductive CfgField where
  | busMaster (on : Bool) | vfEnable (on : Bool) | d3hot (on : Bool)
  /-- Max Payload Size and Max Read Request Size: 128 × 2^v bytes. -/
  | payload (v : Fin 6) | readRequest (v : Fin 6)
  | relaxed (on : Bool) | tag10 (on : Bool) | ecrcGen (on : Bool) | ecrcCheck (on : Bool)
  /-- Completion Timeout Value and Disable. -/
  | timeout (v : BitVec 4) (off : Bool)
  /-- Resizable BAR2 of PF0: 2^(30 + v) bytes. -/
  | barSize (v : Fin 7)
  | read (offset : BitVec 12)
deriving DecidableEq, Repr

/-- A host read of BAR0: function, offset, width. -/
structure BarRead where
  func   : Fin 17
  offset : Nat
  width  : Nat
deriving DecidableEq, Repr

/-- A host write of one entry of a function's MSI-X table (12 R318, R322). -/
structure VectorWrite where
  vector  : Fin 2048
  address : BitVec 64
  data    : BitVec 32
  masked  : Bool
deriving DecidableEq, Repr

/-- A delay request of a domain, and the sample of its tick in which its start of frame passes (16 R435, R445). -/
structure DelaySend where
  dom    : Fin 2
  sample : Fin 32
deriving DecidableEq, Repr

/-- One constructor per row of spec/opcode_table.json, in its order; the rows without operands stand last. -/
inductive Instr where
  /-- MB_CMD_PI_WRITE (R339). -/
  | mbCmdPiWrite (f : Fin 17) (v : BitVec 32)
  /-- MB_CI_WRITE (R334). -/
  | mbCiWrite (f : Fin 17) (ring : HostRing) (v : BitVec 32)
  /-- MB_FRAME_WRITE (R334). -/
  | mbFrameWrite (f : Fin 17) (ring : MbRing) (offset : Nat) (data : List Byte)
  /-- ST_NOW_LO_READ (R45): a host read of BAR0, which latches where it covers ST_NOW_LO (DESIGN CHOICE, log 124). -/
  | stNowLoRead (r : BarRead)
  /-- DEV_RESET_WRITE (R329). -/
  | devResetWrite (v : BitVec 32)
  /-- BAR2_BASE_WRITE (R320). -/
  | bar2BaseWrite (v : BitVec 64)
  /-- BAR2_READ (R320). -/
  | bar2Read (offset len : Nat)
  /-- BAR2_WRITE (R320). -/
  | bar2Write (offset : Nat) (data : List Byte) (tlp : Tlp)
  /-- DOORBELL (R292). -/
  | doorbell (f : Fin 17) (spool : Fin 65536) (wide : Bool) (v : BitVec 64)
  /-- REGISTER_WRITE (R567). -/
  | registerWrite (f : Fin 17) (offset : Nat) (width : Nat) (v : BitVec 64) (tlp : Tlp)
  /-- MSIX_UNMASK (R322): the host writes the vector's entry of the MSI-X table, with its mask bit. -/
  | msixUnmask (f : Fin 17) (entry : VectorWrite)
  /-- FLR (R314). -/
  | flr (f : Fin 17)
  /-- POWER_GOOD (R461). -/
  | powerGood (bootRec : Bool)
  /-- CORE_UNDERVOLTAGE (R480). -/
  | coreUndervoltage (rail : Fin 6)
  /-- CORE_OVERVOLTAGE (R480). -/
  | coreOvervoltage (rail : Fin 6)
  /-- VDDA_RF_SUPPLY_EVENT (R480). -/
  | vddaRfSupplyEvent (quad : Fin 4) (high : Bool) (isOver : Bool)
  /-- VDDA_BIAS_UNDERVOLTAGE (R202). -/
  | vddaBiasUndervoltage (negative : Bool) (isOver : Bool)
  /-- DROOP (R480). -/
  | droop (rail : Fin 17)
  /-- SUPPLY_COMPARATOR_CLEAR (R480). -/
  | supplyComparatorClear (rail : Fin 17)
  /-- PLL_LOSS (R457). -/
  | pllLoss (quad : Fin 4)
  /-- PLL_RELOCK (R457). -/
  | pllRelock (quad : Fin 4)
  /-- GAFFER_HALT (R328). -/
  | gafferHalt (cause : HaltCause)
  /-- IDENTIFY (R351). -/
  | identify (c : Frame)
  /-- VERSION (R352). -/
  | version (c : Frame)
  /-- RESET_WARM (R358). -/
  | resetWarm (c : Frame)
  /-- RESET_QUADRANT (R358). -/
  | resetQuadrant (c : Frame)
  /-- RESET_TILE (R358). -/
  | resetTile (c : Frame)
  /-- FW_STAGE (R353). -/
  | fwStage (c : Frame)
  /-- FW_STAGE_DONE (R353). -/
  | fwStageDone (verified : Bool)
  /-- FW_ACTIVATE (R353). -/
  | fwActivate (c : Frame)
  /-- FW_RUN_RAM (R353). -/
  | fwRunRam (c : Frame)
  /-- FW_COMMIT_FLOOR (R353). -/
  | fwCommitFloor (c : Frame)
  /-- TIME_EPOCH (R39). -/
  | timeEpoch (c : Frame)
  /-- TIME_RELEASE (R40). -/
  | timeRelease (c : Frame)
  /-- TIME_COUNT_CHECK (R44). -/
  | timeCountCheck (mismatch : List (Fin 4))
  /-- PORT_CFG (R83). -/
  | portCfg (c : Frame)
  /-- THREAD_CFG (R84). -/
  | threadCfg (c : Frame)
  /-- TSET_CFG (R85). -/
  | tsetCfg (c : Frame)
  /-- LIST_WRITE (R86). -/
  | listWrite (c : Frame)
  /-- PD_COEF (R87). -/
  | pdCoef (c : Frame)
  /-- PORT_STATUS (R88). -/
  | portStatus (c : Frame)
  /-- BOBBIN_ALLOC (R93). -/
  | bobbinAlloc (c : Frame)
  /-- BOBBIN_FREE (R93). -/
  | bobbinFree (c : Frame)
  /-- BOBBIN_WRITE (R94). -/
  | bobbinWrite (c : Frame)
  /-- SEGMENT_DESC (R96). -/
  | segmentDesc (c : Frame)
  /-- SEGMENT_DELETE (R96). -/
  | segmentDelete (c : Frame)
  /-- JUMP_CFG (R104). -/
  | jumpCfg (c : Frame)
  /-- BOBBIN_STATUS (R111). -/
  | bobbinStatus (c : Frame)
  /-- WINDOW_PROFILE (R144). -/
  | windowProfile (c : Frame)
  /-- WEIGHT_WRITE (R145). -/
  | weightWrite (c : Frame)
  /-- WEIGHT_SWAP (R146). -/
  | weightSwap (c : Frame)
  /-- WEIGHT_SWAP_EFFECT (R120). -/
  | weightSwapEffect (rt : Fin 384)
  /-- READPAIR_CFG (R147). -/
  | readpairCfg (c : Frame)
  /-- RD_FIR_COEF (R148). -/
  | rdFirCoef (c : Frame)
  /-- READ_STATUS (R149). -/
  | readStatus (c : Frame)
  /-- RAW_CAPTURE (R139). -/
  | rawCapture (c : Frame)
  /-- RAW_CAPTURE_ABORT (R139). -/
  | rawCaptureAbort (c : Frame)
  /-- CAPTURE_START (R138). -/
  | captureStart (quad : Fin 4)
  /-- CAPTURE_DONE (R140). -/
  | captureDone (quad : Fin 4) (codes : List (BitVec 12)) (overflow : Bool)
  /-- CAPTURE_STATUS (R140). -/
  | captureStatus (c : Frame)
  /-- MARVER_LOAD (R174). -/
  | marverLoad (c : Frame)
  /-- MARVER_START (R173). -/
  | marverStart (c : Frame)
  /-- MARVER_STOP (R173). -/
  | marverStop (c : Frame)
  /-- MV_THREAD_CFG (R175). -/
  | mvThreadCfg (c : Frame)
  /-- MARVER_STATUS (R176). -/
  | marverStatus (c : Frame)
  /-- FLUX_CFG (R186). -/
  | fluxCfg (c : Frame)
  /-- FLUX_PD (R187). -/
  | fluxPd (c : Frame)
  /-- FLUX_STATUS (R188). -/
  | fluxStatus (c : Frame)
  /-- BIAS_GROUP_CFG (R206). -/
  | biasGroupCfg (c : Frame)
  /-- BIAS_CFG (R207). -/
  | biasCfg (c : Frame)
  /-- BIAS_RUN (R203). -/
  | biasRun (c : Frame)
  /-- BIAS_TEST (R204). -/
  | biasTest (c : Frame)
  /-- BIAS_CLAMP (R203). -/
  | biasClamp (c : Frame)
  /-- BIAS_NV (R209). -/
  | biasNv (c : Frame)
  /-- BIAS_STATUS (R210). -/
  | biasStatus (c : Frame)
  /-- BIAS_UPDATE (R196). -/
  | biasUpdate (bc : Fin 384)
  /-- BIAS_SLEW_STEP (R199). -/
  | biasSlewStep (bc : Fin 384)
  /-- DEGLITCH_HOLD_END (R199). -/
  | deglitchHoldEnd (bc : Fin 384)
  /-- BIAS_CLAMP_ENGAGE (R203). -/
  | biasClampEngage (bc : Fin 384)
  /-- RANGE_CLAMP_RELEASE (R201). -/
  | rangeClampRelease (bc : Fin 384)
  /-- LOOM_LOAD (R231). -/
  | loomLoad (c : Frame)
  /-- LOOM_CFG (R235). -/
  | loomCfg (c : Frame)
  /-- LOOM_RUN (R236). -/
  | loomRun (c : Frame)
  /-- LOOM_STOP (R239). -/
  | loomStop (c : Frame)
  /-- LOOM_ABORT (R239). -/
  | loomAbort (c : Frame)
  /-- LOOM_STATUS (R242). -/
  | loomStatus (c : Frame)
  /-- SHOT_START (R237). -/
  | shotStart (loom : Fin 96)
  /-- MICROWORD (R211). -/
  | microword (loom : Fin 96)
  /-- EMIT_TSET (R74). -/
  | emitTset (thread : ThreadRef)
  /-- EMIT_PLAY (R98). -/
  | emitPlay (thread : ThreadRef)
  /-- EMIT_FREQ (R51). -/
  | emitFreq (thread : ThreadRef)
  /-- EMIT_PHASE (R51). -/
  | emitPhase (thread : ThreadRef)
  /-- EMIT_AMP (R72). -/
  | emitAmp (thread : ThreadRef)
  /-- EMIT_WINDOW (R122). -/
  | emitWindow (rt : Fin 384)
  /-- EMIT_FLUX (R180). -/
  | emitFlux (fp : Fin 192)
  /-- EMIT_BIAS (R197). -/
  | emitBias (bc : Fin 384)
  /-- EMIT_MARK (R229). -/
  | emitMark (marker : Fin 8)
  /-- SEGMENT_END (R99). -/
  | segmentEnd (thread : ThreadRef)
  /-- STREAM_FETCH_ISSUE (R106). -/
  | streamFetchIssue (tile : Fin 12)
  /-- STREAM_FETCH_DONE (R106). -/
  | streamFetchDone (tile : Fin 12)
  /-- UNDERRUN_FILL (R110). -/
  | underrunFill (thread : ThreadRef)
  /-- WINDOW_FIRST_SAMPLE (R123). -/
  | windowFirstSample (rt : Fin 384)
  /-- EARLY_DECISION (R131). -/
  | earlyDecision (rt : Fin 384) (adc : AdcTrace)
  /-- WINDOW_CLOSE (R128). -/
  | windowClose (rt : Fin 384) (adc : AdcTrace)
  /-- DUE_TICK (R245). -/
  | dueTick (bit : Fin 512)
  /-- MV_EVENT_ARRIVAL (R164). -/
  | mvEventArrival (rt : Fin 384) (kind : MvEvent) (adc : AdcTrace)
  /-- MV_DISPATCH (R165). -/
  | mvDispatch (core : Fin 24)
  /-- MV_OVERBUDGET (R168). -/
  | mvOverbudget (rt : Fin 384)
  /-- MV_NOP (R159). -/
  | mvNop (core : Fin 24)
  /-- MV_WAIT (R165). -/
  | mvWait (core : Fin 24)
  /-- MV_JMP (R159). -/
  | mvJmp (core : Fin 24)
  /-- MV_BRZ (R159). -/
  | mvBrz (core : Fin 24)
  /-- MV_DJNZ (R159). -/
  | mvDjnz (core : Fin 24)
  /-- MV_RPT (R161). -/
  | mvRpt (core : Fin 24)
  /-- MV_LDA (R159). -/
  | mvLda (core : Fin 24)
  /-- MV_LDM (R159). -/
  | mvLdm (core : Fin 24)
  /-- MV_ADDA (R159). -/
  | mvAdda (core : Fin 24)
  /-- MV_SETK (R159). -/
  | mvSetk (core : Fin 24)
  /-- MV_SETYS (R159). -/
  | mvSetys (core : Fin 24)
  /-- MV_IN (R164). -/
  | mvIn (core : Fin 24)
  /-- MV_LDI (R159). -/
  | mvLdi (core : Fin 24)
  /-- MV_MOV (R159). -/
  | mvMov (core : Fin 24)
  /-- MV_LDX (R159). -/
  | mvLdx (core : Fin 24)
  /-- MV_LDY (R159). -/
  | mvLdy (core : Fin 24)
  /-- MV_STX (R159). -/
  | mvStx (core : Fin 24)
  /-- MV_VADD (R155). -/
  | mvVadd (core : Fin 24)
  /-- MV_VSUB (R155). -/
  | mvVsub (core : Fin 24)
  /-- MV_VSHR (R155). -/
  | mvVshr (core : Fin 24)
  /-- MV_CMUL (R156). -/
  | mvCmul (core : Fin 24)
  /-- MV_CMAC (R156). -/
  | mvCmac (core : Fin 24)
  /-- MV_CMACY (R156). -/
  | mvCmacy (core : Fin 24)
  /-- MV_TAPM (R162). -/
  | mvTapm (core : Fin 24)
  /-- MV_CLRA (R159). -/
  | mvClra (core : Fin 24)
  /-- MV_CLRG (R156). -/
  | mvClrg (core : Fin 24)
  /-- MV_MOVA (R155). -/
  | mvMova (core : Fin 24)
  /-- MV_CLS3 (R163). -/
  | mvCls3 (core : Fin 24)
  /-- MV_STI (R159). -/
  | mvSti (core : Fin 24)
  /-- MV_PGE (R159). -/
  | mvPge (core : Fin 24)
  /-- MV_PRST (R157). -/
  | mvPrst (core : Fin 24)
  /-- MV_PUB (R166). -/
  | mvPub (core : Fin 24)
  /-- MV_REC (R167). -/
  | mvRec (core : Fin 24)
  /-- WARP_BIND (R257). -/
  | warpBind (c : Frame)
  /-- WARP_STATUS (R264). -/
  | warpStatus (c : Frame)
  /-- HARNESS_CFG (R279). -/
  | harnessCfg (c : Frame)
  /-- HARNESS_SINK (R280). -/
  | harnessSink (c : Frame)
  /-- HARNESS_FIRE (R281). -/
  | harnessFire (c : Frame)
  /-- HARNESS_STATUS (R282). -/
  | harnessStatus (c : Frame)
  /-- HARNESS_EVENT_DELIVERY (R271). -/
  | harnessEventDelivery (chan : Fin 1024)
  /-- MARKER_INPUT_EDGE (R270). -/
  | markerInputEdge (marker : Fin 8) (rising : Bool)
  /-- SPOOL_CREATE (R288). -/
  | spoolCreate (c : Frame)
  /-- SPOOL_RESIZE_EMPTY (R307). -/
  | spoolResizeEmpty (c : Frame)
  /-- SPOOL_RESIZE_DRAIN (R307). -/
  | spoolResizeDrain (c : Frame)
  /-- SPOOL_DRAIN_DONE (R307). -/
  | spoolDrainDone (spool : Fin 65536)
  /-- SPOOL_DRAIN_TIMEOUT (R307). -/
  | spoolDrainTimeout (spool : Fin 65536)
  /-- SPOOL_RESIZE_DISCARD (R307). -/
  | spoolResizeDiscard (c : Frame)
  /-- SPOOL_DELETE (R308). -/
  | spoolDelete (c : Frame)
  /-- SPOOL_STATUS (R309). -/
  | spoolStatus (c : Frame)
  /-- SPOOL_APPEND (R293). -/
  | spoolAppend (spool : Fin 65536) (producer : Nat) (canWait : Bool) (entry : List Byte)
  /-- TAG_ORDER_RELEASE (R297). -/
  | tagOrderRelease (spool : Fin 65536)
  /-- WAIT_PRODUCER_RESUME (R293). -/
  | waitProducerResume (spool : Fin 65536)
  /-- DMA_START (R301). -/
  | dmaStart (engine : Fin 32) (fetched : Option (BitVec 256))
  /-- DMA_COMPLETE (R303). -/
  | dmaComplete (engine : Fin 32) (host : HostReply)
  /-- SHUTTLE_SEND (R306). -/
  | shuttleSend (spool : Fin 65536) (fetched : Option (BitVec 512))
  /-- VF_BIND (R317). -/
  | vfBind (c : Frame)
  /-- VF_UNBIND (R317). -/
  | vfUnbind (c : Frame)
  /-- IC_CFG (R323). -/
  | icCfg (c : Frame)
  /-- MEM_INFO (R364). -/
  | memInfo (c : Frame)
  /-- SCRUB_START (R388). -/
  | scrubStart (c : Frame)
  /-- SCRUB_ABORT (R388). -/
  | scrubAbort (c : Frame)
  /-- SCRUB_PASS_END (R389). -/
  | scrubPassEnd (engine : Fin 5)
  /-- SCRUB_STATUS (R390). -/
  | scrubStatus (c : Frame)
  /-- HOTWORD_READ (R385). -/
  | hotwordRead (c : Frame)
  /-- LINK_CFG (R426). -/
  | linkCfg (c : Frame)
  /-- LINK_RETRAIN (R427). -/
  | linkRetrain (c : Frame)
  /-- LINK_SLEEP_LIGHT (R407). -/
  | linkSleepLight (c : Frame)
  /-- LINK_SLEEP_DEEP (R407). -/
  | linkSleepDeep (c : Frame)
  /-- LINK_WAKE (R407). -/
  | linkWake (c : Frame)
  /-- LINK_ADAPT_RESUME (R405). -/
  | linkAdaptResume (c : Frame)
  /-- LINK_SPARE (R410). -/
  | linkSpare (c : Frame)
  /-- LINK_UNSPARE (R410). -/
  | linkUnspare (c : Frame)
  /-- LINK_STATUS (R428). -/
  | linkStatus (c : Frame)
  /-- WEAVE_ADMIT_ROOT (R418). -/
  | weaveAdmitRoot (c : Frame)
  /-- WEAVE_ADMIT_MEMBER (R419). -/
  | weaveAdmitMember (c : Frame)
  /-- WEAVE_ADMIT_LEAVE (R424). -/
  | weaveAdmitLeave (c : Frame)
  /-- WEAVE_STATUS (R430). -/
  | weaveStatus (c : Frame)
  /-- FRAME_RECEIVE (R397). -/
  | frameReceive (link : Fin 4) (line : BitVec 600) (stamp : Int)
  /-- SHUTTLE_RESEND_TIMEOUT (R413). -/
  | shuttleResendTimeout (link : Fin 4)
  /-- SLEEP (R407). -/
  | sleep (link : Fin 4) (deep : Bool) (count : Fin 16)
  /-- SPARE_AT (R410). -/
  | spareAt (link : Fin 4) (pos : Fin 4) (unspare : Bool) (count : Fin 8)
  /-- SPARE_REQ (R410). -/
  | spareReq (link : Fin 4) (pos : Fin 4) (unspare : Bool)
  /-- TSTAMP (R417). -/
  | tstamp (link : Fin 4) (txt echo rxt : BitVec 64) (rxf : BitVec 6) (stamp : Int)
  /-- MEMBERS (R414). -/
  | members (link : Fin 4) (view : BitVec 64) (refdep : Bool) (hops : BitVec 6)
  /-- LINK_ACQUIRE_DONE (R401). -/
  | linkAcquireDone (link : Fin 4)
  /-- LANE_ALIGN_CHECK (R402). -/
  | laneAlignCheck (link : Fin 4) (lane : Fin 5) (found : Bool)
  /-- LINK_BRINGUP_TIMEOUT (R401). -/
  | linkBringupTimeout (link : Fin 4)
  /-- LANE_CDR_LOSS (R404). -/
  | laneCdrLoss (link : Fin 4) (pos : Fin 5)
  /-- LANE_ERROR_WINDOW (R410). -/
  | laneErrorWindow (link : Fin 4) (pos : Fin 5)
  /-- EYE_MEASURE (R405). -/
  | eyeMeasure (link : Fin 4) (pos : Fin 4) (margin : BitVec 8) (coeffs : BitVec 64)
  /-- TRIM_STEP (R423): a second has passed. The averaged θ stands in the state, so the operand tells nothing. -/
  | trimStep (due : Unit)
  /-- WALL_CFG_PORT (R444). -/
  | wallCfgPort (c : Frame)
  /-- WALL_CFG_DOMAIN (R445). -/
  | wallCfgDomain (c : Frame)
  /-- WALL_SWITCH (R446). -/
  | wallSwitch (c : Frame)
  /-- WALL_STATUS (R447). -/
  | wallStatus (c : Frame)
  /-- PTP_MESSAGE (R434). -/
  | ptpMessage (dom : Fin 2) (msg : PtpMessage)
  /-- ARP_REQUEST (R433). -/
  | arpRequest (port : Fin 2) (target : BitVec 32) (sender : BitVec 48)
  /-- NEIGHBOR_SOLICITATION (R433). -/
  | neighborSolicitation (port : Fin 2) (target : BitVec 128) (sender : BitVec 48)
  /-- WALL_HOLDOVER (R441). -/
  | wallHoldover (dom : Fin 2)
  /-- QUAD_POWER (R468). -/
  | quadPower (c : Frame)
  /-- QUAD_TRAINING_DONE (R453). -/
  | quadTrainingDone (quad : Fin 4) (modules : DimmReport)
  /-- QUAD_ENTRY (R453). -/
  | quadEntry (quad : Fin 4)
  /-- TILE_POWER (R469). -/
  | tilePower (c : Frame)
  /-- TILE_WAKE (R454). -/
  | tileWake (tile : Fin 12)
  /-- POWER_STATUS (R470). -/
  | powerStatus (c : Frame)
  /-- TILE_RESET_APPLY (R465). -/
  | tileResetApply (tile : Fin 12)
  /-- QUADRANT_RESET_APPLY (R466). -/
  | quadrantResetApply (quad : Fin 4)
  /-- LEHR_CFG (R483). -/
  | lehrCfg (c : Frame)
  /-- LEHR_RELEASE (R479). -/
  | lehrRelease (c : Frame)
  /-- LEHR_REINSTATE (R473). -/
  | lehrReinstate (c : Frame)
  /-- LEHR_STATUS (R484). -/
  | lehrStatus (c : Frame)
  /-- STOP_GRACE_END (R477). -/
  | stopGraceEnd (scope : Fin 5)
  /-- HK_CFG (R501). -/
  | hkCfg (c : Frame)
  /-- HK_CAL (R494). -/
  | hkCal (c : Frame)
  /-- HK_CAL_RESTORE (R495). -/
  | hkCalRestore (c : Frame)
  /-- HK_CAL_DONE (R494). -/
  | hkCalDone (unit : Fin 2)
  /-- HK_STATUS (R503). -/
  | hkStatus (c : Frame)
  /-- OPEN_WIRE (R499). -/
  | openWire (c : Frame)
  /-- HK_CONVERSION (R488). -/
  | hkConversion (raw0 raw1 : BitVec 18)
  /-- HK_REFOK (R492). -/
  | hkRefok (unit : Fin 2)
  /-- REPAIR_REPORT (R511). -/
  | repairReport (c : Frame)
  /-- REPAIR_REMAP (R508). -/
  | repairRemap (item : RepairItem)
  /-- LEDGER_READ (R518). -/
  | ledgerRead (c : Frame)
  /-- PART_CFG (R522). -/
  | partCfg (c : Frame)
  /-- OBJ_OWNER (R521). -/
  | objOwner (c : Frame)
  /-- KEY_INSTALL (R523). -/
  | keyInstall (c : Frame)
  /-- KEY_REVOKE (R523). -/
  | keyRevoke (c : Frame)
  /-- KEY_STATUS (R524). -/
  | keyStatus (c : Frame)
  /-- FRAME_TRANSMIT (R396). -/
  | frameTransmit (link : Fin 4)
  /-- CONFIG_WRITE (R316). -/
  | configWrite (f : Fin 17) (field : CfgField)
  /-- JTAG_WRITE (R512). -/
  | jtagWrite (objType : BitVec 8) (objId : BitVec 32)
  /-- DELAY_REQUEST_SEND (R445). -/
  | delayRequestSend (d : DelaySend)
  /-- BIAS_COMPLIANCE (R190). -/
  | biasCompliance (bc : Fin 384)
  /-- PERST_DEASSERT (R313). -/
  | perstDeassert
  /-- BOOT_COMPLETE (R330). -/
  | bootComplete
  /-- CORE_RAIL_RETURN (R462). -/
  | coreRailReturn
  /-- HOT_RESET (R314). -/
  | hotReset
  /-- PERST_ASSERT (R463). -/
  | perstAssert
  /-- POWER_ON_RESET (R463). -/
  | powerOnReset
  /-- VDD_AON_OVERVOLTAGE (R480). -/
  | vddAonOvervoltage
  /-- VDDA_BIAS_RETURN (R202). -/
  | vddaBiasReturn
  /-- NV_LOAD_DONE (R192). -/
  | nvLoadDone
  /-- REFCLK_LOSS (R42). -/
  | refclkLoss
  /-- REFCLK_RETURN (R42). -/
  | refclkReturn
  /-- ANALOGUE_TRIP (R481). -/
  | analogueTrip
  /-- WATCHDOG_EXPIRY (R326). -/
  | watchdogExpiry
  /-- EPOCH_LOAD (R39). -/
  | epochLoad
  /-- HARNESS_TABLE_CHECK (R283). -/
  | harnessTableCheck
  /-- MEMBER_VIEW_AGEOUT (R414). -/
  | memberViewAgeout
  /-- WALL_SET_UPDATE (R437). -/
  | wallSetUpdate
  /-- WALL_HOLD_MAX_EXPIRY (R441). -/
  | wallHoldMaxExpiry
  /-- STAGED_APPLY (R327). -/
  | stagedApply
  /-- LEHR_ROUND (R472). -/
  | lehrRound
  /-- LEHR_EVALUATE (R476). -/
  | lehrEvaluate
  /-- LEDGER_COMMIT (R482). -/
  | ledgerCommit
  /-- HK_INJECT_TRIGGER (R490). -/
  | hkInjectTrigger
deriving DecidableEq, Repr

end Sys2Proof
end

