-- ==== Sys2Proof/Decode.lean ====
section
/-! DEFINITION. Table words: spec/opcode_table.json gives no row any bits, so no word spells a command
(DESIGN CHOICE, log 3). A mailbox frame's opcode is read in Machine/Mailbox.lean (13 R335, R349). -/

namespace Sys2Proof

/-- The command that a word of the opcode table spells: none, for every word. -/
def decodeTableWord (_nbits _w : Nat) : Option Instr := none

end Sys2Proof
end

