-- ==== Sys2Proof/Config.lean ====
section
/-! DEFINITION. The values the spec leaves open: constants with no body, so that no proof can see one
(guide: free values). Each is named in a log entry. -/

namespace Sys2Proof.Config

/-- The unit serial number (13 R351; DESIGN CHOICE, log 10). -/
opaque serial : BitVec 64
/-- The ROM version (13 R352; DESIGN CHOICE, log 10). -/
opaque romVer : BitVec 16
/-- The factory-fused image (13 R352, R354; DESIGN CHOICE, log 10): PATCH, SVN, BUILD_ID, UCODE_VER of the image a
unit boots, and the SHA-384 of its manifest section. -/
opaque bootPatch : BitVec 16
opaque bootSvn : BitVec 16
opaque bootBuild : BitVec 64
opaque bootUcode : BitVec 16
opaque bootManifestHash : BitVec 384
/-- The Sorydom image key (13 R355; DESIGN CHOICE, log 10): x and y of a P-384 point. -/
opaque imageKeyX : BitVec 384
opaque imageKeyY : BitVec 384
/-- The coefficients of the drive interpolator's half-band stages (03 R66; DESIGN CHOICE, log 20), which are not
published: tap j + 1 of each odd phase, with 20 fraction bits. -/
opaque halfBand : Fin 4 → Nat → Int
/-- Those of the flux interpolator (07 R177; DESIGN CHOICE, log 20). -/
opaque fluxBand : Fin 2 → Nat → Int
/-- The taps of the skew trim beside its main tap, by the delay's fraction in 1/256 sample (03 R69; DESIGN CHOICE,
log 20), with 16 fraction bits. -/
opaque trimTap : Nat → Nat → Int
/-- What the skew trim presents where its sum leaves the range that R69 gives the code, and in the tick that is formed
from both trim values (03 R69, R83; DESIGN CHOICE, log 20). -/
opaque trimOver : Int → Nat
opaque trimBoth : Int → Int → Int
/-- The board data of the QSPI NOR (13 R332; DESIGN CHOICE, log 126): Subsystem Vendor ID, Subsystem ID, SMBus address. -/
opaque board : Option (BitVec 16 × BitVec 16 × BitVec 7)
/-- Ticks after PERST# within which configuration requests are retried, at most 80 ms (12 R313; DESIGN CHOICE, log 127). -/
opaque configWait : Nat
/-- Ticks that a boot step takes, at most those of R330's table (13 R330; DESIGN CHOICE, log 127). -/
opaque bootTicks : Nat → Nat
/-- What BIST finds in a boot's step 5 (13 R330; 20 R506; DESIGN CHOICE, log 95), by the counter State.freeCtr. -/
opaque bist : Nat → List RepairItem
/-- A fresh free value (guide: free values), by the counter State.freeCtr. -/
opaque freeBool : Nat → Bool
opaque freeNat : Nat → Nat
opaque freeInt : Nat → Int

/-- What IN delivers outside any dispatch (06 R159; DESIGN CHOICE, log 140): by core, occasion since START and component, so
that nothing but the program decides it (06 R169). -/
opaque mvDatum : Nat → Nat → Nat → Int

/-- Interconnect stop numbers of requesters (14 R391; DESIGN CHOICE, log 11). -/
opaque stop : Nat → BitVec 6
/-- The array geometry of the on-chip stores (20 R505, R507; DESIGN CHOICE, log 12): the row, the array bank and, for a
corrected syndrome, the column of an address. -/
opaque rowOf : Nat → Nat
opaque bankOf : Nat → Nat
opaque columnOf : Nat → Nat → Nat
/-- Where a list's entries lie in the parameter-list array, whose layout is not published (04 R89; DESIGN CHOICE, log 120),
by TID, list and index. -/
opaque listAt : Nat → Nat → Nat → BitVec 17
/-- Where a consumer's selection lies in the Harness tables, whose layout is not published (10 R283; DESIGN CHOICE, log 131). -/
opaque selAt : Nat → BitVec 15
/-- Spare rows and columns built, and used by the factory map (20 R511; DESIGN CHOICE, log 12). -/
opaque rowsBuilt : BitVec 32
opaque rowsFactory : BitVec 32
opaque colsBuilt : BitVec 32
opaque colsFactory : BitVec 32
opaque bankRows : Nat → Fin 3
opaque bankCols : Nat → Fin 3
/-- Banks whose spare rows and columns the factory map uses up (20 R511; DESIGN CHOICE, log 12). -/
opaque banksFactory : BitVec 16

/-- The code of a halt cause in the halt record (13 R328, R348; DESIGN CHOICE, log 15). -/
opaque haltCode : Nat → BitVec 16
/-- An MRAM write of the tick verifies (13 R350 NV_FAIL; DESIGN CHOICE, log 16). -/
opaque nvVerifies : Nat → Bool
/-- LOG2N, ESIZE and FULL of Nirdin's own Spools (11 R572; DESIGN CHOICE, log 24). -/
opaque ownLog2n : Nat → BitVec 5
opaque ownEsize : Nat → BitVec 3
opaque ownFull : Nat → Bool
/-- The factory constant TXC of a link's lanes, in 1/64 sample (15 R417; DESIGN CHOICE, log 31). -/
opaque txc : Nat → BitVec 16
/-- The skew that a bring-up finds between a link's lanes, in bits (15 R403; DESIGN CHOICE, log 33). -/
opaque laneSkew : Nat → Nat
/-- The factory coefficients that turn a thermal sensor's code into 1/16 °C (18 R471, 19 R487; DESIGN CHOICE, log 39). -/
opaque thermal : Nat → Int → Int

end Sys2Proof.Config
end

