-- ==== Sys2Proof/Machine/Tables.lean ====
section
/-! DEFINITION. Sparse tables, byte order and bit fields: the helpers every other file uses. -/

namespace Sys2Proof.Machine

/-- The value of key `i`, or the table's default `d`. -/
def tget {α : Type} (d : α) : Tbl α → Nat → α
  | [], _ => d
  | (k, v) :: r, i => if k = i then v else tget d r i

/-- Put `v` under `k`, keeping the keys rising. -/
def tput {α : Type} : Tbl α → Nat → α → Tbl α
  | [], k, v => [(k, v)]
  | (k', v') :: r, k, v =>
    if k < k' then (k, v) :: (k', v') :: r
    else if k = k' then (k, v) :: r
    else (k', v') :: tput r k v

/-- Take every entry of `k` out. -/
def tdel {α : Type} (t : Tbl α) (k : Nat) : Tbl α := t.filter (fun e => !(e.1 == k))

/-- Write `v` under `k`; the default value is not listed. -/
def tset {α : Type} [DecidableEq α] (d : α) (t : Tbl α) (k : Nat) (v : α) : Tbl α :=
  if v = d then tdel t k else tput t k v

/-- Change the value of `k`. -/
def tmod {α : Type} [DecidableEq α] (d : α) (t : Tbl α) (k : Nat) (f : α → α) : Tbl α :=
  tset d t k (f (tget d t k))

/-- The canonical form: keys strictly rising, no entry equal to the default. -/
def twf {α : Type} [DecidableEq α] (d : α) : Tbl α → Bool
  | [] => true
  | [(_, v)] => v ≠ d
  | (k, v) :: (k', v') :: r => v ≠ d && decide (k < k') && twf d ((k', v') :: r)

/-- The entries of keys that satisfy `p` return to the default. -/
def tclear {α : Type} (p : Nat → Bool) (t : Tbl α) : Tbl α := t.filter (fun e => !(p e.1))

/-- Bytes `a`, `a + 1`, … of a byte table (unlisted bytes read 0). -/
def readBytes (t : Tbl Byte) (a : Nat) : Nat → List Byte
  | 0 => []
  | n + 1 => tget 0 t a :: readBytes t (a + 1) n

/-- Write bytes from address `a` on. -/
def writeBytes (t : Tbl Byte) (a : Nat) : List Byte → Tbl Byte
  | [] => t
  | b :: r => writeBytes (tset 0 t a b) (a + 1) r

/-- Little-endian value of bytes (00 R7). -/
def leNat : List Byte → Nat
  | [] => 0
  | b :: r => b.toNat + 256 * leNat r

/-- The low `n` bytes of `v`, little-endian (00 R7). -/
def leBytes : Nat → Nat → List Byte
  | 0, _ => []
  | n + 1, v => BitVec.ofNat 8 v :: leBytes n (v / 256)

/-- Big-endian value of bytes (octet strings of FIPS 186-5, 20 R523). -/
def beNat (l : List Byte) : Nat := l.foldl (fun a b => 256 * a + b.toNat) 0

/-- Field of `w` bits from bit `lo` of a block. -/
def fld (blk lo w : Nat) : Nat := blk / 2 ^ lo % 2 ^ w

/-- One bit of a block. -/
def bit (blk lo : Nat) : Bool := fld blk lo 1 == 1

/-- Two's-complement reading of a `w`-bit value. -/
def sgn (w v : Nat) : Int := if v < 2 ^ (w - 1) then (v : Int) else (v : Int) - 2 ^ w

/-- The low `w` bits of an integer, as a field value. -/
def enc (w : Nat) (v : Int) : Nat := (v % (2 ^ w : Int)).toNat

/-- A container of `cw` bits holds the sign extension of its low `w` bits. -/
def extended (cw w v : Nat) : Bool := enc cw (sgn w (v % 2 ^ w)) == v

/-- Fields packed from bit 0 up: (value, width). -/
def pack : List (Nat × Nat) → Nat
  | [] => 0
  | (v, w) :: r => v % 2 ^ w + 2 ^ w * pack r

/-- Every listed reserved field (low bit, width) of a block is 0. -/
def rsvOk (blk : Nat) (r : List (Nat × Nat)) : Bool := r.all (fun f => fld blk f.1 f.2 == 0)

/-- A Bool as a field value. -/
def b2n (b : Bool) : Nat := if b then 1 else 0

/-- Round half to even of `v / 2^k` (convergent rounding, 03 R60). -/
def convRound (v : Int) (k : Nat) : Int :=
  let q := v / (2 ^ k : Int)
  let r := v % (2 ^ k : Int)
  if 2 * r < 2 ^ k then q
  else if 2 * r > 2 ^ k then q + 1
  else if q % 2 = 0 then q else q + 1

/-- Clip to [lo, hi]. -/
def clip (lo hi v : Int) : Int := if v < lo then lo else if v > hi then hi else v

/-- Count of `p` in positions 0 to n − 1. -/
def countBelow (n : Nat) (p : Nat → Bool) : Nat := ((List.range n).filter p).length

/-- The first position below `n` that satisfies `p`. -/
def firstBelow (n : Nat) (p : Nat → Bool) : Option Nat := (List.range n).find? p

end Sys2Proof.Machine
end

