-- ==== Sys2Proof/Machine/Crypto.lean ====
section
/-! DEFINITION. SHA-256, SHA-384 and ECDSA over P-384 (13 R354, R355; 20 R514, R515, R523).
The spec names these functions; their constants are those of FIPS 180-4 and FIPS 186-5 (PRESUMED, log 9). -/

namespace Sys2Proof.Machine

def k256 : List Nat :=
  [0x428a2f98, 0x71374491, 0xb5c0fbcf, 0xe9b5dba5, 0x3956c25b, 0x59f111f1, 0x923f82a4, 0xab1c5ed5]
  ++ [0xd807aa98, 0x12835b01, 0x243185be, 0x550c7dc3, 0x72be5d74, 0x80deb1fe, 0x9bdc06a7, 0xc19bf174]
  ++ [0xe49b69c1, 0xefbe4786, 0xfc19dc6, 0x240ca1cc, 0x2de92c6f, 0x4a7484aa, 0x5cb0a9dc, 0x76f988da]
  ++ [0x983e5152, 0xa831c66d, 0xb00327c8, 0xbf597fc7, 0xc6e00bf3, 0xd5a79147, 0x6ca6351, 0x14292967]
  ++ [0x27b70a85, 0x2e1b2138, 0x4d2c6dfc, 0x53380d13, 0x650a7354, 0x766a0abb, 0x81c2c92e, 0x92722c85]
  ++ [0xa2bfe8a1, 0xa81a664b, 0xc24b8b70, 0xc76c51a3, 0xd192e819, 0xd6990624, 0xf40e3585, 0x106aa070]
  ++ [0x19a4c116, 0x1e376c08, 0x2748774c, 0x34b0bcb5, 0x391c0cb3, 0x4ed8aa4a, 0x5b9cca4f, 0x682e6ff3]
  ++ [0x748f82ee, 0x78a5636f, 0x84c87814, 0x8cc70208, 0x90befffa, 0xa4506ceb, 0xbef9a3f7, 0xc67178f2]

def h256 : List Nat := [0x6a09e667, 0xbb67ae85, 0x3c6ef372, 0xa54ff53a, 0x510e527f, 0x9b05688c, 0x1f83d9ab, 0x5be0cd19]

def k512 : List Nat :=
  [0x428a2f98d728ae22, 0x7137449123ef65cd, 0xb5c0fbcfec4d3b2f, 0xe9b5dba58189dbbc]
  ++ [0x3956c25bf348b538, 0x59f111f1b605d019, 0x923f82a4af194f9b, 0xab1c5ed5da6d8118]
  ++ [0xd807aa98a3030242, 0x12835b0145706fbe, 0x243185be4ee4b28c, 0x550c7dc3d5ffb4e2]
  ++ [0x72be5d74f27b896f, 0x80deb1fe3b1696b1, 0x9bdc06a725c71235, 0xc19bf174cf692694]
  ++ [0xe49b69c19ef14ad2, 0xefbe4786384f25e3, 0xfc19dc68b8cd5b5, 0x240ca1cc77ac9c65]
  ++ [0x2de92c6f592b0275, 0x4a7484aa6ea6e483, 0x5cb0a9dcbd41fbd4, 0x76f988da831153b5]
  ++ [0x983e5152ee66dfab, 0xa831c66d2db43210, 0xb00327c898fb213f, 0xbf597fc7beef0ee4]
  ++ [0xc6e00bf33da88fc2, 0xd5a79147930aa725, 0x6ca6351e003826f, 0x142929670a0e6e70]
  ++ [0x27b70a8546d22ffc, 0x2e1b21385c26c926, 0x4d2c6dfc5ac42aed, 0x53380d139d95b3df]
  ++ [0x650a73548baf63de, 0x766a0abb3c77b2a8, 0x81c2c92e47edaee6, 0x92722c851482353b]
  ++ [0xa2bfe8a14cf10364, 0xa81a664bbc423001, 0xc24b8b70d0f89791, 0xc76c51a30654be30]
  ++ [0xd192e819d6ef5218, 0xd69906245565a910, 0xf40e35855771202a, 0x106aa07032bbd1b8]
  ++ [0x19a4c116b8d2d0c8, 0x1e376c085141ab53, 0x2748774cdf8eeb99, 0x34b0bcb5e19b48a8]
  ++ [0x391c0cb3c5c95a63, 0x4ed8aa4ae3418acb, 0x5b9cca4f7763e373, 0x682e6ff3d6b2b8a3]
  ++ [0x748f82ee5defb2fc, 0x78a5636f43172f60, 0x84c87814a1f0ab72, 0x8cc702081a6439ec]
  ++ [0x90befffa23631e28, 0xa4506cebde82bde9, 0xbef9a3f7b2c67915, 0xc67178f2e372532b]
  ++ [0xca273eceea26619c, 0xd186b8c721c0c207, 0xeada7dd6cde0eb1e, 0xf57d4f7fee6ed178]
  ++ [0x6f067aa72176fba, 0xa637dc5a2c898a6, 0x113f9804bef90dae, 0x1b710b35131c471b]
  ++ [0x28db77f523047d84, 0x32caab7b40c72493, 0x3c9ebe0a15c9bebc, 0x431d67c49c100d4c]
  ++ [0x4cc5d4becb3e42b6, 0x597f299cfc657e2a, 0x5fcb6fab3ad6faec, 0x6c44198c4a475817]

def h384 : List Nat := [0xcbbb9d5dc1059ed8, 0x629a292a367cd507, 0x9159015a3070dd17, 0x152fecd8f70e5939, 0x67332667ffc00b31, 0x8eb44a8768581511, 0xdb0c2e0d64f98fa7, 0x47b5481dbefa4fa4]

/-- Rotate right of a `w`-bit value. -/
def rotr (w x n : Nat) : Nat := x / 2 ^ n + x % 2 ^ n * 2 ^ (w - n)

/-- The round functions' rotations and shifts, per word width. -/
structure ShaPar where
  w : Nat
  rounds : Nat
  s0 : Nat × Nat × Nat
  s1 : Nat × Nat × Nat
  e0 : Nat × Nat × Nat
  e1 : Nat × Nat × Nat

def par256 : ShaPar := ⟨32, 64, (7, 18, 3), (17, 19, 10), (2, 13, 22), (6, 11, 25)⟩
def par512 : ShaPar := ⟨64, 80, (1, 8, 7), (19, 61, 6), (28, 34, 39), (14, 18, 41)⟩

/-- σ: two rotations and a shift. -/
def shaSmall (w : Nat) (r : Nat × Nat × Nat) (x : Nat) : Nat :=
  (rotr w x r.1 ^^^ rotr w x r.2.1) ^^^ (x / 2 ^ r.2.2)

/-- Σ: three rotations. -/
def shaBig (w : Nat) (r : Nat × Nat × Nat) (x : Nat) : Nat :=
  (rotr w x r.1 ^^^ rotr w x r.2.1) ^^^ rotr w x r.2.2

/-- The message schedule, newest word first. -/
def shaSched (p : ShaPar) : Nat → List Nat → List Nat
  | 0, ws => ws
  | n + 1, ws =>
    let g (i : Nat) := ws.getD i 0
    shaSched p n
      (((shaSmall p.w p.s1 (g 1) + g 6 + shaSmall p.w p.s0 (g 14) + g 15) % 2 ^ p.w) :: ws)

/-- One round on the eight working variables. -/
def shaRound (p : ShaPar) (v : List Nat) (kw : Nat) : List Nat :=
  match v with
  | [a, b, c, d, e, f, g, h] =>
    let ch := (e &&& f) ^^^ ((2 ^ p.w - 1 - e) &&& g)
    let maj := ((a &&& b) ^^^ (a &&& c)) ^^^ (b &&& c)
    let t1 := h + shaBig p.w p.e1 e + ch + kw
    let t2 := shaBig p.w p.e0 a + maj
    [(t1 + t2) % 2 ^ p.w, a, b, c, (d + t1) % 2 ^ p.w, e, f, g]
  | _ => v

/-- One block (16 words, newest first in the schedule). -/
def shaBlock (p : ShaPar) (k : List Nat) (h : List Nat) (ws : List Nat) : List Nat :=
  let sched := (shaSched p (p.rounds - 16) ws.reverse).reverse
  let v := (List.zipWith (fun a b => a + b) k sched).foldl (shaRound p) h
  List.zipWith (fun a b => (a + b) % 2 ^ p.w) h v

/-- Words of `n` bytes, big-endian. -/
def beWords (n : Nat) : Nat → List Byte → List Nat
  | 0, _ => []
  | k + 1, l => beNat (l.take n) :: beWords n k (l.drop n)

/-- The padded message (FIPS 180-4): `blk` bytes a block, `len` bytes of length. -/
def shaPad (blk len : Nat) (m : List Byte) : List Byte :=
  let z := (blk - (m.length + 1 + len) % blk) % blk
  m ++ [0x80#8] ++ List.replicate z 0#8 ++ (leBytes len (8 * m.length)).reverse

/-- All blocks. -/
def shaAll (p : ShaPar) (k : List Nat) : Nat → List Nat → List Byte → List Nat
  | 0, h, _ => h
  | n + 1, h, m =>
    shaAll p k n (shaBlock p k h (beWords (p.w / 8) 16 (m.take (2 * p.w)))) (m.drop (2 * p.w))

/-- SHA-256: the 32 digest bytes. -/
def sha256 (m : List Byte) : List Byte :=
  let q := shaPad 64 8 m
  (shaAll par256 k256 (q.length / 64) h256 q).flatMap (fun x => (leBytes 4 x).reverse)

/-- SHA-384: the 48 digest bytes. -/
def sha384 (m : List Byte) : List Byte :=
  let q := shaPad 128 16 m
  ((shaAll par512 k512 (q.length / 128) h384 q).take 6).flatMap (fun x => (leBytes 8 x).reverse)

/-- The first 8 bytes of SHA-256, as the little-endian field that stores them (00 R7, 20 R514). -/
def digest8 (m : List Byte) : Nat := leNat ((sha256 m).take 8)

/-! ### P-384 -/

def p384 : Nat := 2 ^ 384 - 2 ^ 128 - 2 ^ 96 + 2 ^ 32 - 1
def n384 : Nat := 0xffffffffffffffffffffffffffffffffffffffffffffffffc7634d81f4372ddf581a0db248b0a77aecec196accc52973
def b384 : Nat := 0xb3312fa7e23ee7e4988e056be3f82d19181d9c6efe8141120314088f5013875ac656398d8a2ed19d2a85c8edd3ec2aef
def gx384 : Nat := 0xaa87ca22be8b05378eb1c71ef320ad746e1d3b628ba79b9859f741e082542a385502f25dbf55296c3a545e3872760ab7
def gy384 : Nat := 0x3617de4a96262c6f5d9e98bf9292dc29f8f41dbd289a147ce9da3113b5f0b8c00a60b1ce1d7e819d7a431d7c90ea0e5f

/-- a^e mod m by the bits of e. -/
def powMod (m a e : Nat) : Nat :=
  (List.range 384).foldl
    (fun (acc : Nat × Nat) i =>
      (if e / 2 ^ i % 2 = 1 then acc.1 * acc.2 % m else acc.1, acc.2 * acc.2 % m)) (1 % m, a % m) |>.1

/-- A point on P-384 (20 R523: INSTALL). -/
def onCurve (x y : Nat) : Bool :=
  x < p384 && y < p384 && (y * y) % p384 == (x * x * x + (p384 - 3) * x + b384) % p384

/-- A point as (X, Y, Z), standing for (X / Z², Y / Z³); Z = 0: the point at infinity. -/
abbrev Point := Nat × Nat × Nat

/-- Difference modulo p of two reduced values. -/
def subP (a b : Nat) : Nat := (a + p384 - b) % p384

/-- Twice a point. -/
def dblPoint (a : Point) : Point :=
  let (x, y, z) := a
  let yy := y * y % p384
  let s := 4 * x * yy % p384
  let zz := z * z % p384
  let m := 3 * (subP x zz) * (x + zz) % p384
  let x3 := subP (m * m % p384) (2 * s % p384)
  (x3, subP (m * subP s x3 % p384) (8 * yy * yy % p384), 2 * y * z % p384)

/-- Sum of two points. -/
def addPoint (a b : Point) : Point :=
  let (x1, y1, z1) := a
  let (x2, y2, z2) := b
  if z1 = 0 then b else if z2 = 0 then a
  else
    let z1z := z1 * z1 % p384
    let z2z := z2 * z2 % p384
    let u1 := x1 * z2z % p384
    let s1 := y1 * z2z * z2 % p384
    let h := subP (x2 * z1z % p384) u1
    let r := subP (y2 * z1z * z1 % p384) s1
    if h = 0 then (if r = 0 then dblPoint a else (1, 1, 0))
    else
      let hh := h * h % p384
      let v := u1 * hh % p384
      let x3 := subP (subP (r * r % p384) (h * hh % p384)) (2 * v % p384)
      (x3, subP (r * subP v x3 % p384) (s1 * h * hh % p384), z1 * z2 * h % p384)

/-- Multiple of a point. -/
def mulPoint (k : Nat) (q : Point) : Point :=
  (List.range 384).foldl
    (fun (acc : Point × Point) i =>
      (if k / 2 ^ i % 2 = 1 then addPoint acc.1 acc.2 else acc.1, dblPoint acc.2)) ((1, 1, 0), q) |>.1

/-- ECDSA P-384 over SHA-384: the 96-byte signature (r then s, octet strings) verifies (13 R354, R355). -/
def ecdsaOk (x y : Nat) (msg sig : List Byte) : Bool :=
  let r := beNat (sig.take 48)
  let s := beNat ((sig.drop 48).take 48)
  if r = 0 || s = 0 || r ≥ n384 || s ≥ n384 then false
  else
    let w := powMod n384 s (n384 - 2)
    let e := beNat (sha384 msg)
    let q := addPoint (mulPoint (e * w % n384) (gx384, gy384, 1)) (mulPoint (r * w % n384) (x, y, 1))
    if q.2.2 = 0 then false
    else
      let z := powMod p384 q.2.2 (p384 - 2)
      q.1 * (z * z % p384) % p384 % n384 == r

end Sys2Proof.Machine
end

