-- ==== Sys2Proof/Machine/State.lean ====
section
/-! DEFINITION. The state of the ASK7384: plain data, every piece of state the spec names.
Sparse tables hold the numbered objects; an object that is not listed has its reset value.
Times are Sample Times (ST, in samples) or device ticks, as each field's comment says. -/

namespace Sys2Proof.Machine

/-! ### Outcomes -/

/-- Why a command stops the block. No command of this block stops it with a fault: errors are status
codes, flags, records and notices (13 R350, 00 R13, 11 R304). -/
inductive Fault where
  /-- Raised by nobody: the spec describes no stuck state of the block. Safe. -/
  | none
deriving DecidableEq, Repr

/-- Why a command has no meaning. -/
inductive Refusal where
  /-- An arm of Dispatch that has no meaning yet. Safe. -/
  | notModelled (mnemonic : String)
deriving DecidableEq, Repr

/-- What a command answers. -/
abbrev Out (σ : Type) := Host.Outcome σ Fault Refusal

/-! ### Shared forms -/

/-- The status codes (13 R350). -/
inductive Status where
  | ok | busy | badParam | badOpcode | badFrame | badTid | badTime | tooLate | lenExceeds | noSpace
  | partDenied | noEpoch | epochHeld | tagDup | sealed | recoveryOnly | sigFail | incompatible | rollback
  | badDraft | badProg | badImage | nvTempInhibit | nvFail | refFault | notActive | linkDown | internal
  | hostErr | poisoned
deriving DecidableEq, Repr

/-- A sticky flag and its companion counter (00 R13), and the device tick of its last occurrence, plus 1
(00 R12). -/
structure Flag where
  on  : Bool := false
  cnt : Nat := 0
  at_ : Nat := 0
deriving DecidableEq, Repr

/-- The flags of one object, keyed by the flag's bit position in its status block. -/
abbrev Flags := Tbl Flag

/-- The owner of an object (20 R519). -/
structure Owner where
  part   : Nat := 0
  secure : Bool := false
deriving DecidableEq, Repr

/-! ### Time (02) -/

/-- ST states (02 R38). -/
inductive TimeMode where
  | free | set | lost
deriving DecidableEq, Repr

/-- The timekeeper (02 R36 to R46). -/
structure TimeSt where
  /-- Device ticks since power-on, the model's own clock (DESIGN CHOICE, log 2). -/
  tick    : Nat := 0
  /-- Sample Time of the current tick boundary. -/
  st      : Nat := 0
  mode    : TimeMode := .free
  root    : Bool := false
  gen     : Nat := 0
  /-- Device tick at which an accepted TIME_EPOCH loads (R39). -/
  epochAt : Option Nat := none
  /-- Slow-tick boundaries are the device ticks that are multiples of 24 after this shift (15 R419; DESIGN CHOICE, log 2). -/
  slowPhase : Nat := 0
  /-- The always-on island finds REFCLK present (R42). -/
  refclk  : Bool := true
  /-- ST stands at 0 until the first slow-tick boundary after REFCLK is valid (R38). -/
  wait    : Bool := false
  /-- Device tick of the last load of ST, plus 1 (R39). -/
  loadedAt : Nat := 0
  /-- NCOCONF 6, REFLOSS 5, TIME_FAULT 4, by their TIME_STATUS bits. -/
  flags   : Flags := []
deriving DecidableEq, Repr

/-! ### Host functions (12, 13, 23) -/

/-- An outstanding command (13 R339): its tag, and its response's MB_RSP index once posted. -/
structure Outst where
  tag    : Nat
  opcode : Nat
  part   : Nat
  accept : Nat
  /-- Where a waiting response's output goes (R338). -/
  outRef : Option (BitVec 128)
  resp   : Option Nat
deriving DecidableEq, Repr

/-- An entry of a function's MSI-X table (12 R318, R322); every vector is masked at reset (PRESUMED, log 6). -/
structure Vector_ where
  address  : Nat := 0
  data     : Nat := 0
  unmasked : Bool := false
deriving DecidableEq, Repr

/-- One PCI Express function: PF0 is 0, VF n is n (12 R311 to R324, 13 R333 to R347). -/
structure Fn where
  busMaster : Bool := false
  vfEnable  : Bool := false
  d3hot     : Bool := false
  /-- Max Payload Size and Max Read Request Size as 128 × 2^v bytes; Enable Relaxed Ordering; 10-Bit Tag Requester Enable;
  ECRC Generation and Check Enable; Completion Timeout Value and Disable; PF0's BAR2 as 2^(30 + v) bytes (12 R311, R318,
  R321, R325). Their reset values are PCI Express's (PRESUMED, log 125). -/
  payload   : Nat := 0
  readReq   : Nat := 2
  relaxed   : Bool := true
  tag10     : Bool := false
  ecrcGen   : Bool := false
  ecrcCheck : Bool := false
  timeout   : Nat := 0
  timeoutOff : Bool := false
  barSize   : Nat := 4
  /-- The MSI-X table and its pending bits. -/
  table     : Tbl Vector_ := []
  vecPend   : Tbl Bool := []
  /-- Mailbox frames, by BAR0 offset 0x0001_0000 to 0x0001_BFFF. -/
  mbox      : Tbl Byte := []
  cmdPi : Nat := 0
  cmdCi : Nat := 0
  rspPi : Nat := 0
  rspCi : Nat := 0
  evtPi : Nat := 0
  evtCi : Nat := 0
  audPi : Nat := 0
  audCi : Nat := 0
  mberr     : Flag := {}
  outst     : List Outst := []
  /-- Sequence of the next notice (TAG) and notices dropped since the last one posted (LOST). -/
  evtSeq : Nat := 0
  evtLost : Nat := 0
  audSeq : Nat := 0
  audLost : Nat := 0
  deny      : Flag := {}
  /-- IC_STATUS and IC_CNT, by cause (12 R324). -/
  ic        : Flags := []
  /-- Latches of ST_NOW_HI and the wall-time registers (02 R45, 16 R438). -/
  stHi  : Nat := 0
  wallFx : Nat := 0
  wallLo : Nat := 0
  wallHi : Nat := 0
  /-- VF_BIND (12 R317). -/
  bound  : Bool := false
  part   : Nat := 0
  secure : Bool := false
deriving DecidableEq, Repr

/-- IC_CFG of one cause (12 R323). -/
structure IcCfg where
  en     : Bool := false
  func   : Nat := 0
  vector : Nat := 0
deriving DecidableEq, Repr

/-! ### Gaffer (13) -/

/-- MB_STATE.STATE (13 R334). -/
inductive MbState where
  | initialising | ready | sealed | recovery | halted
deriving DecidableEq, Repr

/-- A firmware image's identity (13 R352, R354). -/
structure Image where
  major : Nat
  minor : Nat
  patch : Nat
  ucode : Nat
  svn   : Nat
  build : Nat
  /-- The manifest entries, 16 bytes each (R356). -/
  manifest : List Nat
  manHash  : Nat
deriving DecidableEq, Repr

/-- What the board data hold (12 R312, 22 R556), with the values that stand where the area is absent. -/
structure Board where
  subVendor : Nat := 0
  subsystem : Nat := 0
  smbus     : Nat := 0x4C
deriving DecidableEq, Repr

/-- The Gaffer and its firmware (13 R326 to R358). -/
structure Gaffer where
  state    : MbState := .initialising
  bootStep : Nat := 0
  /-- BOOT_REC as the last boot sampled it (R331). -/
  bootRec  : Bool := false
  /-- A boot is in progress (POWER_GOOD seen), and the device tick in which its present step began (R330). -/
  booting  : Bool := false
  stepAt   : Nat := 0
  running  : Option Image := none
  /-- The boot in progress runs the image of RUN_RAM (R331). -/
  fromRam  : Bool := false
  slotB    : Bool := false
  /-- QSPI slots A and B; none: the slot passes no image check. -/
  slotA    : Option Image := none
  slotBImg : Option Image := none
  /-- Directory: slot B is active (R332). -/
  activeB  : Bool := false
  /-- An image was staged into the inactive slot since the last boot (R353). -/
  staged   : Bool := false
  /-- A STAGE in progress: the caller's function, its tag, and the image. -/
  staging  : Option (Nat × Nat × Image) := none
  floor    : Nat := 0
  /-- Halt record: cause and ST (R328). -/
  halt     : Option (Nat × Nat) := none
  /-- Function served last (R340). -/
  last     : Nat := 16
  /-- The Sorydom image key that the fused digest names (R355): x, y. -/
  imageKey : Nat × Nat := (0, 0)
  /-- The board-data area of the QSPI NOR (R332), and what the last boot read from it (12 R312; 22 R556). -/
  board    : Option Board := none
  read     : Board := {}
  /-- The level of the BOOT_REC ball, which step 1 of a boot samples (R330, R331; DESIGN CHOICE, log 46). -/
  recBall  : Bool := false
deriving DecidableEq, Repr

/-! ### Ledger, partitions, keys (20) -/

/-- A Ledger entry (20 R513). -/
structure Entry where
  seq : Nat
  st : Nat
  wallNs : Nat
  wallV : Bool
  origin : Nat
  originId : Nat
  part : Nat
  secure : Bool
  objType : Nat
  objId : Nat
  action : Nat
  status : Nat
  oldDig : Nat
  newDig : Nat
  boot : Nat
  gen : Nat
  chain : Nat
  /-- Owner of the object at the append, for LEDGER_READ from a VF (R518). -/
  owner : Option Nat
deriving DecidableEq, Repr

/-- The Ledger (20 R512 to R518). -/
structure Ledger where
  /-- SEQ of the next entry: HEAD_SEQ + 1. -/
  next     : Nat := 0
  /-- The buffer, newest first, at most 8,192 entries. -/
  entries  : List Entry := []
  spill    : Nat := 0
  retain   : Bool := false
  lossCnt  : Nat := 0
  uncommitted : Nat := 0
  chain    : Nat := 0
  boot     : Nat := 0
deriving DecidableEq, Repr

/-- PART_CFG of one partition (20 R522). -/
structure PartCfg where
  keymask : Nat := 0
  label   : Nat := 0
deriving DecidableEq, Repr

/-- A scheduled block that waits for its APPLY_AT (13 R327): the kinds of block, the object, the block
image, the ST and the caller's function. -/
inductive StagedKind where
  | portCfg | threadCfg | jumpCfg | readpairCfg | marverCtl | fluxCfg | biasCfg | biasCtl | biasGroup
  | harnessCfg | harnessSink | harnessFire | hkCfg | warpBind
deriving DecidableEq, Repr

/-- See StagedKind. -/
structure Staged where
  kind : StagedKind
  obj  : Nat
  blk  : Nat
  at_  : Nat
  func : Nat
  tag  : Nat := 0
deriving DecidableEq, Repr

/-! ### Ports and threads (03, 04, 05, 07) -/

/-- A drive port, a readout pair's DAC side or a flux port (03 R82 to R88, 07 R186 to R188). -/
structure Port where
  outEn   : Bool := false
  mode    : Bool := false
  fsLevel : Nat := 0
  carrier : BitVec 48 := 0
  skew    : Int := 0
  /-- Predistortion banks 0 and 1 (03 R68; flux: 07 R183), as the entries that differ from identity. -/
  pd0     : Tbl Int := []
  pd1     : Tbl Int := []
  pdB     : Bool := false
  /-- ST label at which a level change's SETTLE ends (R78). -/
  settle  : Nat := 0
  /-- Timing sets: entry of set k, slot i at 16 k + i (R85): COARSE + 16 FINE. -/
  tset    : Tbl Nat := []
  flags   : Flags := []
  /-- Carriers in force: (label from which, F_c), newest first (R53, R56). -/
  carriers : List (Nat × BitVec 48) := []
  /-- The data path, newest first: sums of the last envelope samples; by tick, the sum of |G| and whether every
  envelope sample read lay in the unit disc; y of the last output samples (R65 to R68, 07 R182, R183). -/
  sums    : List (Int × Int) := []
  gains   : List Int := []
  discs   : List Bool := []
  ys      : List Int := []
  /-- Flux IIR states with 38 fraction bits (07 R182). -/
  iir     : List Int := []
  /-- What enters the skew trim, newest first: y' and whether OUT_EN or SETTLE mutes its label (R69, R80). -/
  zs      : List (Int × Bool) := []
  /-- USER_SKEW before its last change, and the device tick of the change (R83). -/
  trims   : Option (Int × Nat) := none
  /-- Samples on their way to the ball, by the device tick in which they leave it: codes, none where muted; a tick of
  equal samples holds one, a tick that is not listed is muted (R58, R80). -/
  out     : List (Nat × List (Option Int)) := []
  /-- Device tick from which a mute that no label carries cuts the output at the ball (R80). -/
  cutAt   : Option Nat := none
  /-- Flags on their way: device tick, bit, occurrences (R57). -/
  due     : List (Nat × Nat × Nat) := []
deriving DecidableEq, Repr

/-- A segment that a thread plays (04 R98): the descriptor's fields as latched at the start. -/
structure Play where
  seg    : Nat
  /-- Device ticks: first and final tick of the segment. -/
  first  : Nat
  final  : Nat
  desc   : Nat
  /-- Taken while its ring plays for another thread (R107). -/
  busy   : Bool := false
  /-- Ring position of its tick word 0 (R106). -/
  base   : Nat := 0
  /-- Started on an idle thread by a Loom (1) or a Harness event (2); else at a boundary (R102, R228). -/
  src    : Nat := 0
deriving DecidableEq, Repr

/-- A pending jump request (04 R102): target segment, registration tick, from a Loom. -/
structure Jump where
  seg  : Nat
  reg  : Nat
  loom : Bool
deriving DecidableEq, Repr

/-- A thread player with its frame (02 R47 to R54, 03 R61 to R76, 04 R98 to R104). -/
structure Thread where
  en      : Bool := false
  freqIdx : Nat := 0
  ampIdx  : Nat := 0
  lvlIdx  : Nat := 0
  /-- Pending timing set (R74, R76). -/
  pendSet : Nat := 0
  fo      : BitVec 48 := 0
  zacc    : BitVec 32 := 0
  amp     : Int := 0
  lvl     : Int := 0
  placeC  : Nat := 0
  placeF  : Nat := 0
  freqs   : Tbl (BitVec 48) := []
  phases  : Tbl (BitVec 32) := []
  amps    : Tbl Int := []
  lvls    : Tbl Int := []
  play    : Option Play := none
  /-- Final tick of the idle gap of R101 in progress. -/
  gap     : Option Nat := none
  now_    : Option Jump := none
  next_   : Option Jump := none
  /-- Device tick of the last envelope read (R74). -/
  lastRead : Option Nat := none
  /-- Samples fed in the newest tick, and the last real samples of this play, newest first (R108). -/
  feed    : List (BitVec 32) := []
  real    : List (BitVec 32) := []
  fillPos : Nat := 0
  /-- Device tick whose fill has been counted (R110). -/
  filled  : Option Nat := none
  /-- Gained samples, newest first: the delay stage's history (R63). -/
  hist    : List (Int × Int) := []
  /-- The two samples that the newest tick delayed and mixed, older first, and the phase of the sample that the next
  tick forms first (R63, R64). -/
  mixed   : List (Int × Int) := []
  late    : Nat := 0
  /-- JUMP_CFG (R104). -/
  jumpEn  : Bool := false
  jumpCand : Nat := 0
  jumpTarget : Nat := 0
  /-- Frames in force: (label from which, F_o, P), newest first (R51, R56). -/
  frames  : List (Nat × BitVec 48 × BitVec 48) := []
deriving DecidableEq, Repr

/-! ### Bobbin (04) -/

/-- An allocated run of envelope memory (04 R93): blocks and owner. -/
structure Run where
  blocks : Nat := 0
  owner  : Nat := 0
deriving DecidableEq, Repr

/-- A stream ring (04 R105 to R108). Positions count the tick words of the present play, or of the priming,
from 0. -/
structure Ring where
  primed  : Bool := false
  /-- The thread (TID) it plays for. -/
  playing : Option Nat := none
  /-- Fetches of an earlier generation are discarded when they end. -/
  gen     : Nat := 0
  /-- Words asked for, and words that have arrived or failed. -/
  issued  : Nat := 0
  arrived : Nat := 0
  /-- Words read or passed by the play. -/
  used    : Nat := 0
  /-- The words held, by position: the word and the device tick of its arrival. -/
  words   : Tbl (Nat × Nat) := []
  /-- Words whose fetch faulted. -/
  bad     : Tbl Bool := []
deriving DecidableEq, Repr

/-- One tile's Bobbin (04 R89 to R112). -/
structure Bobbin where
  env    : Tbl (BitVec 64) := []
  runs   : Tbl Run := []
  /-- Descriptors by SEG, as their 256-bit images; 0: none (VALID = 0). -/
  segs   : Tbl Nat := []
  rings  : Tbl Ring := []
  flags  : Flags := []
  underrunSt : Nat := 0
deriving DecidableEq, Repr

/-! ### Harness (10) -/

/-- The lines a Harness producer input is wired to (10 R266 to R268). -/
inductive Line where
  | rtDec (rt : Nat) | rtEarly (rt : Nat) | loom (g : Nat) | warpLate (tile : Nat) | underrun (tile : Nat)
  | marker (m : Nat) | dmaDone (e : Nat) | hook (h : Nat) | uncore (n : Nat) | fire (chan : Nat)
deriving DecidableEq, Repr

/-- One assertion of a line (10 R265, R272): the device tick and the hop number it contributes. -/
structure Assertion where
  line : Line
  tick : Nat
  hop  : Nat
deriving DecidableEq, Repr

/-- What a channel carried in a tick (10 R265), and what of it is done: delivered to consumers of its own
segment and to the others (R271); discarded by a tile reset as carried in its tick, and as relays in flight
(R284). -/
structure Carry where
  chan  : Nat
  tick  : Nat
  count : Nat
  hop   : Nat
  async : Bool
  near  : Bool := false
  far   : Bool := false
  lost  : Bool := false
  cut   : Bool := false
deriving DecidableEq, Repr

/-- A Harness channel (10 R279, R282): the enables in the registers beside the wiring, and their stored
copy (R283). -/
structure Channel where
  pen    : Nat := 0
  stored : Nat := 0
  flags  : Flags := []
  assertCnt : Nat := 0
deriving DecidableEq, Repr

/-- An uncore consumer input (10 R280). -/
structure Sink where
  en     : Bool := false
  cand   : Nat := 0
  action : Nat := 0
deriving DecidableEq, Repr

/-- The Harness. -/
structure Harness where
  chans    : Tbl Channel := []
  sinks    : Tbl Sink := []
  asserts  : List Assertion := []
  /-- The carries of the last three ticks. -/
  carried  : List Carry := []
  /-- Device tick of a tile's last reset, plus 1. -/
  resets   : Tbl Nat := []
  /-- Stored copies of consumer selections that differ from their registers, by consumer (R283). -/
  sels     : Tbl (Option Nat) := []
deriving DecidableEq, Repr

/-! ### Markers (08 R229, 10 R270) -/

/-- A marker input: its samples at the last tick boundaries, newest first, and the level at the ball. -/
structure MarkerIn where
  level   : Bool := false
  samples : List Bool := []
deriving DecidableEq, Repr

/-- A marker output. -/
structure MarkerOut where
  level : Bool := false
  /-- Device tick at which the running pulse ends. -/
  pulseEnd : Nat := 0
  /-- Actions on their way: device tick, action (1 SET, 2 CLEAR, 3 PULSE of length), from a Loom. -/
  due : List (Nat × Nat × Nat × Bool) := []
deriving DecidableEq, Repr

/-! ### Spools and DMA (11) -/

/-- A tag reservation of a tag-order Spool (11 R297). -/
structure Resv where
  /-- The reservation counter's value; its low 8 bits are the tag of R297. -/
  tag  : Nat
  /-- The device tick of the reservation, its producer's row in R297 and its number. -/
  tick : Nat := 0
  row  : Nat := 4
  prod : Nat := 0
  /-- The tile of the producer, for resets (R310); none: no tile. -/
  tile : Option Nat
  /-- The entry handed on, waiting in the reorder window. -/
  entry : Option (List Byte) := none
  cancelled : Bool := false
deriving DecidableEq, Repr

/-- The geometry a SPOOL_RESIZE asks for (11 R307). -/
structure Resize where
  log2n : Nat
  target : Nat
  base  : Nat
  func  : Nat
  tag   : Nat
  deadline : Nat
deriving DecidableEq, Repr

/-- A Spool: its descriptor (11 R287) and its live state. -/
structure Spool where
  base : Nat := 0
  target : Nat := 0
  log2n : Nat := 0
  esize : Nat := 0
  cls : Nat := 0
  order : Bool := false
  full : Bool := false
  valid : Bool := false
  owner : Nat := 0
  secure : Bool := false
  notify : Nat := 0
  irqEn : Bool := false
  vector : Nat := 0
  hookEn : Bool := false
  hook : Nat := 0
  kick : Bool := false
  engine : Nat := 0
  pi : Nat := 0
  ci : Nat := 0
  thresh : Nat := 0
  fault : Bool := false
  armed : Bool := false
  /-- OVERFLOW 24, DBERR 25, ORDOVF 26, DESCERR 27, KICKOVF 28. -/
  flags : Flags := []
  resCtr : Nat := 0
  resv : List Resv := []
  /-- Entries held while draining, oldest first: (producer, it can wait, entry). -/
  held : List (Nat × Bool × List Byte) := []
  /-- Entries of WAIT producers, oldest first: (producer, entry). -/
  waiting : List (Nat × List Byte) := []
  resize : Option Resize := none
  /-- PI at the end of the last tick that began at a slow-tick boundary: what a bias queue sees (07 R195). -/
  seen : Nat := 0
deriving DecidableEq, Repr

/-- What a tag reservation answered (11 R297, R298): arrival order, a tag, or refused. -/
inductive Reserved where
  | arrival | tag (t : Nat) | refused
deriving DecidableEq, Repr

/-- A descriptor in progress (11 R299): its Spool, image, what its checks found (R301), its completion
record's reservation, and the hop of the kick that started it (0: none). `noRecord`: the descriptor names no
Spool that takes a completion record. -/
structure DmaRun where
  spool : Nat
  desc  : Nat
  status : Status
  resv  : Reserved
  hop   : Nat
  noRecord : Bool
  /-- The descriptor's slot was discarded while it ran (R307). -/
  gone  : Bool := false
  /-- The completion record waits for a slot (R293). -/
  waits : Bool := false
deriving DecidableEq, Repr

/-- A DMA engine (11 R299). -/
structure DmaEngine where
  run     : Option DmaRun := none
  /-- Kick credits: the hop of each kick, oldest first. -/
  credits : List Nat := []
  /-- Spool visited last. -/
  last    : Nat := 0
deriving DecidableEq, Repr

/-! ### Memory (14) -/

/-- A DDR channel (14 R360 to R364). -/
structure Chan where
  failed   : Bool := false
  modules  : Nat := 0
  ranks    : Nat := 0
  speed    : Nat := 0
  capacity : Nat := 0
  ceCnt : Nat := 0
  ueCnt : Nat := 0
  poisonCnt : Nat := 0
  mergeCnt : Nat := 0
deriving DecidableEq, Repr

/-- An entry of the hot-word tracker (14 R384); COUNT 0: free. -/
structure HotEntry where
  addr : Nat := 0
  store : Nat := 0
  count : Nat := 0
  hot  : Bool := false
  synd : Nat := 0
deriving DecidableEq, Repr

/-- The counts of a pass's summary (14 R389). -/
structure Tally where
  words  : Nat := 0
  ce     : Nat := 0
  ue     : Nat := 0
  poison : Nat := 0
  found  : Nat := 0
  hot    : Nat := 0
  firstUe : Nat := 0
  skipped : Nat := 0
deriving DecidableEq, Repr

/-- A pass (14 R388). -/
structure ScrubRun where
  func : Nat
  tag  : Nat
  part : Nat
  mode : Nat
  rate : Nat
  start : Nat
  lines : Nat
  accept : Nat
  /-- Device tick of acceptance; lines done so far, and their counts. -/
  begun : Nat := 0
  done  : Nat := 0
  tally : Tally := {}
  /-- Ended early (R388). -/
  aborted : Bool := false
deriving DecidableEq, Repr

/-- A scrub engine (14 R386, R390). -/
structure Scrub where
  run   : Option ScrubRun := none
  owner : Nat := 0
  last  : Nat := 0
deriving DecidableEq, Repr

/-- DDR and the integrity functions. -/
structure Mem where
  /-- DDR bytes by internal address; the valid-bit area holds level 2 (R374). Unlisted bytes are 0. -/
  ddr  : List Host.Cell := []
  /-- Level-1 bits by a[39:20] (R373). -/
  l1   : Tbl Bool := []
  /-- Stored words that differ from their code word, by internal address of the word: the XOR of the
  80 stored bits with the code word of the data (R365); byte-sliced stores: the 13 stored bits (R369). -/
  errs : Tbl (BitVec 80) := []
  chans : Tbl Chan := []
  hot  : Tbl HotEntry := []
  thresh : Nat := 16
  /-- HOTWORD 26, HOTOVF 27. -/
  flags : Flags := []
  scrubs : Tbl Scrub := []
  /-- Errors in the headers of the next interconnect transfers, in their order: bits in error of each (01 R28; DESIGN CHOICE,
  log 144). -/
  hdrs : List Nat := []
  /-- Corrected headers (01 R28). -/
  hdrCe : Nat := 0
deriving DecidableEq, Repr

/-! ### Wall time, the active set (16) -/

/-- The wall-time set in force (16 R436). -/
structure WallSet where
  offset : Nat := 0
  base   : Nat := 0
  rate   : Int := 0
  dom    : Nat := 0
  valid  : Bool := false
deriving DecidableEq, Repr

/-- A timing port (16 R444). -/
structure TimePort where
  en    : Bool := false
  speed : Nat := 0
  fec   : Nat := 0
  vlan  : Bool := false
  vid   : Nat := 0
  pcp   : Nat := 0
  mac   : BitVec 48 := 0
  ipv4  : BitVec 32 := 0
  ipv6  : BitVec 128 := 0
deriving DecidableEq, Repr

/-- Domain states (16 R441). -/
inductive DomState where
  | unused | listen | acquire | locked | holdover
deriving DecidableEq, Repr

/-- A wall-time domain (16 R441, R445): its configuration, the masters heard, the servo's estimate of its time
and rate, and the consecutive exchanges. -/
structure Domain where
  en     : Bool := false
  port   : Nat := 0
  transport : Nat := 0
  peer   : Bool := false
  auto   : Bool := false
  number : Nat := 0
  slew   : Nat := 1000
  holdMax : Nat := 60
  stepLimit : Nat := 1000
  logDreq : Int := 0
  asym   : Int := 0
  state  : DomState := .unused
  masters : List Announce := []
  master : Option Announce := none
  est    : WallSet := {}
  syncs  : Nat := 0
  delays : Nat := 0
  /-- ST, at the device ball, of the last Sync received, of the last delay request sent, and of the peer's last response
  (R435). -/
  syncAt : Option Int := none
  reqAt  : Option Int := none
  respAt : Option Int := none
deriving DecidableEq, Repr

/-- Wall time beside the active set (16 R437 to R442). -/
structure WallTime where
  ports   : Tbl TimePort := []
  doms    : Tbl Domain := []
  /-- WSTEP 8, WLOSS 9, WSWITCH 10. -/
  flags   : Flags := []
  /-- Device tick from which the active domain is in HOLDOVER, or unused after a reset (R441, R443). -/
  hold    : Option Nat := none
  /-- What the next slow-tick boundary applies: a rate update, a step, a switch (domain, automatic). -/
  update  : Bool := false
  step    : Bool := false
  switch  : Option (Nat × Bool) := none
deriving DecidableEq, Repr

/-! ### What leaves the block -/

/-- What a function reports through AER (12 R319, R321). -/
inductive AerError where
  | unsupported | poisoned | ecrc | timeout
deriving DecidableEq, Repr

/-- What the block has sent to the outside. -/
inductive Sent where
  /-- An MSI-X message of a vector: its address and data (12 R322). -/
  | msix (func vector address data : Nat)
  /-- A posted write to the host, with its EP and Relaxed Ordering bits; a read request (12 R325). -/
  | hostWrite (func addr : Nat) (data : List Byte) (poisoned relaxed : Bool)
  | hostRead (func addr len : Nat)
  | aer (func : Nat) (error : AerError)
  /-- Completions of configuration requests: the word read; Configuration Request Retry Status (12 R312, R313). -/
  | configData (func value : Nat)
  | configRetry (func : Nat)
  | readData (func : Nat) (data : List Byte) (ep : List Nat)
  | readUr (func : Nat)
  /-- A tick of a link's transmit direction (15 R393, R395, R400): the line bits of the four positions, frame bit
  j at position j mod 4, and the 150 bits of the lane that serves no position. -/
  | frame (link : Nat) (line idle : Nat)
  | arpReply (port : Nat) (mac dest : BitVec 48) | neighborAdvert (port : Nat) (mac dest : BitVec 48)
  /-- A Delay_Req or Pdelay_Req with its stamp; a Pdelay_Resp with its stamp and its correctionField (16 R434, R435). -/
  | delayReq (dom stamp : Nat)
  | pdelayResp (port stamp : Nat) (correction : Int)
deriving DecidableEq, Repr

/-! ### Power (17) -/

/-- Quadrant power states (17 R470). -/
inductive QState where
  | off | standby | active | transition
deriving DecidableEq, Repr

/-- Tile power states (17 R470). -/
inductive TState where
  | off | standby | active | waking
deriving DecidableEq, Repr

/-- A pending command of R459: target (0 OFF, 1 STANDBY, 2 ACTIVE, 3 reset), APPLY_AT, caller, and the
entry instant once it is known. -/
structure PowerCmd where
  target : Nat
  force  : Bool
  at_    : Nat
  func   : Nat
  tag    : Nat
  begun  : Bool := false
  entry  : Option Nat := none
deriving DecidableEq, Repr

/-- A quadrant (17 R452 to R470). -/
structure Quad where
  state : QState := .off
  pll   : Bool := false
  conv  : Bool := false
  /-- A TRANSITION that left OFF (R460). -/
  fromOff : Bool := false
  pend  : Option PowerCmd := none
  /-- A reset of the quadrant waits for its APPLY_AT (R459). -/
  resetAt : Option Nat := none
  /-- An orderly stop of R457 waits for the PLL to lock again. -/
  pllStop : Bool := false
deriving DecidableEq, Repr

/-- A tile (17 R452 to R470). -/
structure Tile where
  state : TState := .off
  pend  : Option PowerCmd := none
  /-- E of a wake that no command is pending for (R458, R465). -/
  entry : Option Nat := none
  resetAt : Option Nat := none
  everActive : Bool := false
  /-- The quadrant has been OFF since the tile was last ACTIVE (R454). -/
  wasOff : Bool := true
  /-- The E of a reset is awaited (R459, R465). -/
  rst : Bool := false
deriving DecidableEq, Repr

/-- Power and supplies. -/
structure Power where
  quads : Tbl Quad := []
  tiles : Tbl Tile := []
  lastSt : Nat := 0
  /-- PLL_LOSS 41. -/
  flags : Flags := []
  aon   : Bool := true
  core  : Bool := true
  perst : Bool := false
  /-- Device tick in which PERST# was last deasserted (12 R313). -/
  perstAt : Nat := 0
  /-- Power-good since the power-on reset (R461). -/
  good  : Bool := false
  /-- VDDA_RF of quadrant k is not valid (R461). -/
  rfBad : Tbl Bool := []
  biasBad : Bool := false
  /-- No supply-valid since the power-on reset (07 R192), and an NV record load in progress. -/
  biasFirst : Bool := true
  biasLoad : Bool := false
deriving DecidableEq, Repr

/-! ### Repair (20) -/

/-- What a mark names (20 R507). -/
inductive MarkKind where
  | row | column | loom | core
deriving DecidableEq, Repr

/-- Hardware marked for repair (20 R507): a row's or column's address in its store, or a unit's number. -/
structure Mark where
  kind  : MarkKind
  store : Nat
  addr  : Nat
deriving DecidableEq, Repr

/-- The field map as MRAM holds it (20 R506). -/
structure FieldMap where
  loomSpare : Tbl Bool := []
  mvSpare   : Tbl Bool := []
  loomFailed : Tbl Bool := []
  mvFailed  : Tbl Bool := []
  marks     : List Mark := []
  rowsUsed : Tbl Nat := []
  colsUsed : Tbl Nat := []
  unrepaired : Nat := 0
deriving DecidableEq, Repr

/-- The repair map and the marks (20 R505 to R511). -/
structure Repair where
  /-- Spare Loom or Marver core of a tile in use. -/
  loomSpare : Tbl Bool := []
  mvSpare   : Tbl Bool := []
  loomFailed : Tbl Bool := []
  mvFailed  : Tbl Bool := []
  marks     : List Mark := []
  /-- UE reads per row, and rows with corrections per column, in this power cycle (R507). -/
  ueRows : Tbl Nat := []
  ceCols : Tbl (List Nat) := []
  /-- Spare rows and columns the field map uses, per bank. -/
  rowsUsed : Tbl Nat := []
  colsUsed : Tbl Nat := []
  unrepaired : Nat := 0
  /-- What MRAM holds of it: a write refused under 18 R482 is deferred (R506). -/
  stored : FieldMap := {}
deriving DecidableEq, Repr

/-! ### Weave (15) -/

/-- TX_STATE (15 R428). -/
inductive TxState where
  | off | train | up | sleepLight | sleepDeep | wake
deriving DecidableEq, Repr

/-- RX_STATE (15 R428). -/
inductive RxState where
  | off | acquire | align | deskew | up | aligned | sleep | down
deriving DecidableEq, Repr

/-- A receive lane (15 R402 to R405): marker search, bits corrected in the present 1 ms and in all, and its
equaliser. -/
structure Lane where
  found  : Bool := false
  slips  : Nat := 0
  window : Nat := 0
  count  : Nat := 0
  margin : Nat := 0
  frozen : Bool := false
  coeffs : BitVec 64 := 0
  good   : BitVec 64 := 0
deriving DecidableEq, Repr

/-- A SLEEP of a transmit direction in progress (15 R407): level, the device tick at which the wait for
acknowledgements ends, and the COUNT of the next notice frame once it is sent. -/
structure SleepReq where
  deep  : Bool
  until_ : Nat
  count : Option Nat := none
deriving DecidableEq, Repr

/-- A SPARE_AT countdown of a transmit direction (15 R406, R410). -/
structure SpareReq where
  pos   : Nat
  unspare : Bool
  count : Nat := 7
deriving DecidableEq, Repr

/-- What a MEMBERS message of the link's peer brought (15 R414), with its device tick. -/
structure View where
  tick   : Nat
  mask   : Nat
  refdep : Bool
  hops   : Nat
deriving DecidableEq, Repr

/-- A Weave link (15 R393 to R428). -/
structure Link where
  /-- LINK_CFG (R426). -/
  en        : Bool := false
  spareEn   : Bool := false
  autoSpare : Bool := true
  adapt     : Bool := true
  eyeMin    : Nat := 15
  laneErr   : Nat := 1000
  asym      : Int := 0
  tx : TxState := .off
  rx : RxState := .off
  /-- Device tick of the last start from step 1 of R401. -/
  startAt : Nat := 0
  /-- Position the spare carries, on receive and on transmit. -/
  sparePos : Option Nat := none
  txSpare  : Option Nat := none
  peerDev   : Nat := 0
  peerLink  : Nat := 0
  peerProto : Nat := 0
  peerAdm   : Bool := false
  /-- FRAME_UE 32 … SPARED 40. -/
  flags    : Flags := []
  corrBits : Nat := 0
  /-- DELAY into this device in 1/64 sample, once an exchange has given it, and the pad. -/
  delay    : Option Nat := none
  pad      : Nat := 0
  /-- Receive lanes 0 to 3 by position, and the claimed spare as 4; the skew between them, in bits. -/
  lanes    : Tbl Lane := []
  skew     : Nat := 0
  /-- Step 3 of R401 is passed; consecutive training frames of the peer with RXOK = 1. -/
  rxok     : Bool := false
  okRun    : Nat := 0
  /-- Scrambler and descrambler states, by lane (4: the spare). -/
  scr      : Tbl Nat := []
  descr    : Tbl Nat := []
  wasAligned : Bool := false
  /-- Uncorrectable frames in a row, and since the last FRAME_UE record; device tick of that record, plus 1;
  frames in a row of a wrong FSEQ. -/
  ueRun    : Nat := 0
  ueSince  : Nat := 0
  ueAt     : Nat := 0
  alignRun : Nat := 0
  /-- Transmit side of R413: next SSEQ, Shuttles sent and not acknowledged, oldest first, the place of the next
  to resend, resends without progress, the device tick of the last progress. -/
  sseq     : Nat := 0
  unacked  : List (Nat × Nat) := []
  cursor   : Nat := 0
  resends  : Nat := 0
  progress : Nat := 0
  transit  : List Nat := []
  local_   : Option Nat := none
  /-- Receive side of R413: the SSEQ expected, and NAK. -/
  expected : Nat := 0
  nak      : Bool := false
  sleepReq : Option SleepReq := none
  spareAt  : Option SpareReq := none
  spareReq : Option (Nat × Bool) := none
  tstampDue  : Bool := false
  membersDue : Bool := false
  /-- Device tick at which a wake ends. -/
  wakeAt   : Nat := 0
  /-- The last TSTAMP received: its TXT and its arrival stamp (R417). -/
  stamped  : Option (Nat × Int) := none
  view     : Option View := none
deriving DecidableEq, Repr

/-- ROLE (15 R430). -/
inductive Role where
  | none | root | member
deriving DecidableEq, Repr

/-- An admission in progress (15 R419): caller, the block, and the periods of the load once θ is averaged. -/
structure Admit where
  func : Nat
  tag  : Nat
  blk  : Nat
  load : Option Int := none
  /-- REFSRC, REF_TRIM and the slow-tick divider before it: a failed admission has no effect (13 R342). -/
  oldSrc : Bool := false
  oldTrim : Nat := 0
  oldPhase : Nat := 0
deriving DecidableEq, Repr

/-- The device's place in the Weave (15 R414 to R430). -/
structure Weave where
  device  : Nat := 0
  role    : Role := .none
  /-- Bits [28:8] of the accepted WEAVE_ADMIT. -/
  config  : Nat := 0
  members : Nat := 0
  hops    : Nat := 0
  reason  : Nat := 0
  offset  : Int := 0
  refTrim : Nat := 0
  /-- REFSRC (17 R470). -/
  refSrc  : Bool := false
  /-- TRIM_LIMIT 192, ALIGN_LOST 193. -/
  flags   : Flags := []
  /-- θ of the uplink's last exchanges, newest first, at most 256. -/
  thetas  : List Int := []
  admission : Option Admit := none
  /-- The uplink may not become ALIGNED until the device is admitted again (R423). -/
  lost    : Bool := false
  /-- Device tick at which the loss of the reference recovered from the uplink is noticed (02 R42). -/
  refLoss : Option Nat := none
deriving DecidableEq, Repr

/-! ### Lehr (18) -/

/-- An orderly stop of a scope (18 R477): device tick and ST of its begin, its causes still present, its
grace end once known, and the step reached (0 grace, 1 past G, 2 past G + 16, 3 past G + 32 and held). -/
structure StopRun where
  begin_ : Nat
  st     : Nat
  causes : List Nat
  grace  : Option Nat := none
  step   : Nat := 0
  /-- Bias channels have entered SAFE. -/
  safe   : Bool := false
deriving DecidableEq, Repr

/-- Lehr (18 R471 to R485). -/
structure Lehr where
  /-- LEHR_CFG (R483). -/
  warn : Nat := 2000
  stop : Nat := 2240
  graceCut : Nat := 2320
  hyst : Nat := 80
  rateAlarm : Nat := 16
  rateStop : Nat := 64
  stopGrace : Nat := 5000
  /-- READING of each sensor, in 1/16 °C. -/
  reading : Tbl Int := []
  suspects : Tbl Bool := []
  /-- Consecutive evaluated rounds in which a sensor deviated (R473). -/
  deviant : Tbl Nat := []
  /-- Evaluated rounds since a sensor changed between suspect and not, plus 1 (R475). -/
  changed : Tbl Nat := []
  /-- Region readings of the last 100 evaluated rounds, newest first. -/
  history : List (List Int) := []
  maximum : Int := 0
  maxSensor : Nat := 0
  /-- Actions of R476 that are not armed: WARN, RATE, STOP, rate stop. -/
  disarmed : Tbl Bool := []
  /-- The device stop, and quadrant stops, in progress or held (R477 to R479). -/
  dev  : Option StopRun := none
  quads : Tbl (Option StopRun) := []
  tripped : Bool := false
  cause : Nat := 0
  /-- WARN 64 … STOPFLAG 71. -/
  flags : Flags := []
  uv : Nat := 0
  ov : Nat := 0
  /-- A round in progress: the device tick of its begin (R472), its conversions done, and their codes. -/
  round : Option Nat := none
  taken : Nat := 0
  codes : Tbl Int := []
  /-- Device tick of the last droop record of a rail, plus 1 (R480). -/
  droopAt : Tbl Nat := []
deriving DecidableEq, Repr

/-! ### Readout (05) -/

/-- The discrimination fields of a readout THREAD_CFG (05 R141). -/
structure Disc where
  l3 : Bool := false
  eloEn : Bool := false
  ehiEn : Bool := false
  estLo : Nat := 0
  estHi : Nat := 1
  confShift : Nat := 0
  shCic : Nat := 20
  shFir : Nat := 16
  shInt : Nat := 15
  axI : Int := 0x1FFFF
  axQ : Int := 0
  p0  : Int := 0
  thA : Int := 0
  thB : Int := 0
  eLo : Int := 0
  eHi : Int := 0
deriving DecidableEq, Repr

/-- A window in flight (05 R122 to R127): the tick k of its emission, its profile image, and what it latches. -/
structure Window where
  k     : Nat
  prof  : Nat
  num   : Nat
  loom  : Nat
  shot  : Nat
  /-- ST of the shot's start: the shot's identity for R260 to R262. -/
  start : Nat
  meas  : Nat
  resv  : Reserved
  dropped : Bool := false
  /-- Latched at the first sample (R123): F, P, discrimination, privileged. -/
  latched : Option (BitVec 48 × BitVec 48 × Disc × Bool) := none
  /-- Weights in force for samples before T, where a swap came at T (R120). -/
  oldW  : List (Nat × Tbl Nat) := []
  muted : Bool := false
  frameChg : Bool := false
  firMid : Bool := false
  swapMid : Bool := false
  /-- Early state and its sample (R131). -/
  early : Option (Nat × Nat) := none
  /-- MV_THREAD_CFG as it stood at the emission (06 R175). -/
  mv    : Nat := 0
  /-- Samples handed to a Marver lane (06 R164). -/
  fed   : Nat := 0
  /-- The window has been closed: its decision and record are formed, or its END or INT is delivered. -/
  closed : Bool := false
  /-- The state to write and the tick, T_last + 65 or that of an early state, and the tick in which a decision was written
  (R122, R131, R132). -/
  verdict : Option (Nat × Nat) := none
  wrote : Option Nat := none
  /-- A weight could not be read (R121). -/
  badW : Bool := false
  /-- The record's image at the close, without what its hand-on adds (R136). -/
  record : Nat := 0
deriving DecidableEq, Repr

/-- A pending WEIGHT_SWAP (05 R146). -/
structure Swap where
  at_  : Nat
  now_ : Bool
  func : Nat
  tag  : Nat
deriving DecidableEq, Repr

/-- A readout thread's demodulator (05 R113 to R136, 06 R175). -/
structure RThread where
  disc : Disc := {}
  /-- Discrimination fields that apply to windows from a label on, newest first (R142). -/
  profiles : Tbl Nat := []
  bankA : Tbl Nat := []
  bankB : Tbl Nat := []
  activeB : Bool := false
  swap : Option Swap := none
  windows : List Window := []
  /-- Closed windows whose frame their samples were mixed with: first label, last label, F, P (R56). -/
  past : List (Nat × Nat × BitVec 48 × BitVec 48) := []
  /-- MV_THREAD_CFG (06 R175), and registration in Warp. -/
  mvCfg : Nat := 0
deriving DecidableEq, Repr

/-- A readout pair's input chain (05 R117, R147 to R149). -/
structure Pair where
  priv0 : Nat := 0
  priv1 : Nat := 1
  fir0 : Tbl Int := []
  fir1 : Tbl Int := []
  firB : Bool := false
  /-- Banks in force for decimated samples before T, newest first (R127). -/
  firOld : List (Nat × Tbl Int) := []
  flags : Flags := []
  /-- ADC labels whose samples have been looked at for READ_STATUS.ADCOVR: first and last (R149). -/
  seen : List (Nat × Nat) := []
deriving DecidableEq, Repr

/-- CAPTURE_STATUS.STATE (05 R140). -/
inductive CapState where
  | idle | armed | running | done
deriving DecidableEq, Repr

/-- A quadrant's raw capture (05 R137 to R140). -/
structure Capture where
  state : CapState := .idle
  pair  : Nat := 0
  trig  : Bool := false
  cand  : Nat := 0
  length : Nat := 0
  addr  : Nat := 0
  /-- First ADC label, once known. -/
  label : Nat := 0
  written : Nat := 0
  func  : Nat := 0
  part  : Nat := 0
  /-- Hop number of the event that started it; 0: START_AT (10 R272). -/
  hop   : Nat := 0
  /-- Device tick in which an ABORT was taken (R139). -/
  abort : Option Nat := none
  flags : Flags := []
deriving DecidableEq, Repr

/-! ### Emissions (08 R225, 03 R59) -/

/-- An emission on its way to its target. -/
structure Emission where
  /-- Device tick in which it reaches the target. -/
  tick  : Nat
  loom  : Nat
  slot  : Nat
  op    : Nat
  kind  : Nat
  index : Nat
  param : Nat
  ts    : Option Nat
  /-- ST of the start of its shot, its shot number, and MEAS of a window (05 R135). -/
  start : Nat
  shot  : Nat
  meas  : Nat
deriving DecidableEq, Repr

/-! ### Looms (08) -/

/-- LOOM_STATUS.STATE (08 R242). -/
inductive LoomState where
  | empty | loaded | armed | running | fault | failed
deriving DecidableEq, Repr

/-- A mark of a shot (09 R261): the shot's start, its number, the tick (ST / 32) of its earliest mark, the
causes as bits STOP 0, UNDERRUN 1, MEMERR 2, TAINT 3, HALT 4 with the tick of each, and its notice. -/
structure ShotMark where
  start  : Nat
  shot   : Nat
  tick   : Nat
  causes : Tbl Nat
  /-- Device tick in which the shot ended. -/
  ended  : Option Nat := none
  sent   : Bool := false
deriving DecidableEq, Repr

/-- A Loom record on its way to the Spool engine (08 R224): device tick, Spool, reservation (11 R297), image,
and ST of the shot's start. -/
structure Push where
  tick  : Nat
  spool : Nat
  resv  : Reserved
  image : Nat
  start : Nat
deriving DecidableEq, Repr

/-- An accepted run (08 R236). -/
structure LoomRun where
  first  : Nat
  at_    : Nat
  shots  : Nat
  period : Nat
  /-- Index s of the next shot. -/
  next   : Nat := 0
  /-- STOP was accepted (R239). -/
  stop   : Bool := false
deriving DecidableEq, Repr

/-- A Loom (08 R211 to R243). -/
structure Loom where
  state  : LoomState := .empty
  /-- The 512-bit header and the microwords of the Draft held; header 0: none. -/
  header : Nat := 0
  words  : Tbl Nat := []
  /-- LOOM_CFG's image above its LOOM field (R235). -/
  cfg    : Nat := 0
  counters : Tbl Nat := []
  index  : Tbl Nat := []
  latches : Tbl Bool := []
  /-- Device ticks of the last event delivered to Harness input i, plus 1, at key i, and of the one before at
  key 4 + i. -/
  events : Tbl Nat := []
  /-- Index registers before the operation of the word presented (R219). -/
  ixPre  : Tbl Nat := []
  /-- Records on their way to the Spool engine (R224). -/
  pushes : List Push := []
  run    : Option LoomRun := none
  /-- The word presented, and its ticks presented so far; none: nothing is presented. -/
  word   : Option (Nat × Nat) := none
  pc     : Nat := 0
  /-- Device tick of the last presentation, plus 1. -/
  last   : Nat := 0
  /-- An ABORT takes effect from this device tick (R239). -/
  abort  : Option Nat := none
  shot   : Nat := 0
  lastStart : Nat := 0
  /-- Open-readout-window emissions presented in this shot: the next MEAS (05 R135). -/
  meas   : Nat := 0
  /-- A shot of the present run has started (R237). -/
  started : Bool := false
  /-- The publication of the word of tick x: (x, bit, state, start of its shot), armed in x + 1 (09 R244). -/
  pub    : Option (Nat × Nat × Nat × Nat) := none
  /-- The condition samples a tainted presentation in the present tick (09 R261). -/
  tainted : Bool := false
  marks  : List ShotMark := []
  flags  : Flags := []
deriving DecidableEq, Repr

/-! ### Warp (09) -/

/-- An armed decision (09 R244 to R248). Ticks are ST / 32. -/
structure Decision where
  due   : Nat
  /-- Producer kind (0 threshold path, 1 Marver path, 2 Loom) and number; its tile. -/
  kind  : Nat
  id    : Nat
  tile  : Nat
  /-- The Loom and the shot it belongs to (R260). -/
  loom  : Nat
  start : Nat
  /-- Tick k of the window that armed it. -/
  k     : Nat
  written : Option (Nat × Nat) := none
  /-- Tick of the end of its producer Loom, from which TAINT holds (R260). -/
  taintAt : Option Nat := none
  /-- Tick from which its producer's tile has not been ACTIVE: it never becomes valid (01 R25). -/
  dead  : Option Nat := none
deriving DecidableEq, Repr

/-- A local decision bit (09 R244 to R246, R264): its decisions in the order of their arming. -/
structure DecBit where
  armed : List Decision := []
deriving DecidableEq, Repr

/-- Warp: the bits, their flags by bit number (DUECONF 176 to DUEOVF 180), slot bindings by
(link × 2 + direction) × 32 + slot as DB + 1, and the slot values received, by link: (tick shown, field). -/
structure Warp where
  bits  : Tbl DecBit := []
  flags : Tbl Flags := []
  binds : Tbl Nat := []
  /-- The bindings of the tick before (R257). -/
  bindsWas : Tbl Nat := []
  imports : Tbl (List (Nat × Nat)) := []
  /-- Lost frames on their way to the import table: (device tick in which they are shown, link) (R258). -/
  losses : List (Nat × Nat) := []
deriving DecidableEq, Repr

/-! ### Marver cores (06) -/

/-- MARVER_STATUS.STATE (06 R176). -/
inductive CoreState where
  | empty | stopped | running | fault | failed
deriving DecidableEq, Repr

/-- A window on a Marver path, with the metadata that its events carry (06 R164, R166). -/
structure MvWindow where
  rt    : Nat
  k     : Nat
  prof  : Nat
  num   : Nat
  loom  : Nat
  shot  : Nat
  start : Nat
  meas  : Nat
  /-- MV_THREAD_CFG as it stood at the emission (R175). -/
  cfg   : Nat
  /-- FLAGS of R135 that the chain sets, and the arrival tick (ST / 32) of the event that made it current
  (09 R262). -/
  chain : Nat := 0
  arrival : Nat := 0
  /-- Its END or INT has been delivered. -/
  ended : Bool := false
  /-- Sample of its last TRC dispatched. -/
  trc   : Nat := 0
  /-- Its decision: tick written and state; and before its END, with the sample. -/
  pub   : Option (Nat × Nat) := none
  early : Option Nat := none
  /-- OVERBUDGET has been set for it (R168). -/
  overdue : Bool := false
  /-- An event of it was discarded: it publishes nothing (R165). -/
  lost  : Bool := false
deriving DecidableEq, Repr

/-- A queued event (06 R164, R165): device tick of arrival and ST tick, kind 0 TRC, 1 END, 2 INT. -/
structure MvQueued where
  tick  : Nat
  at_   : Nat
  kind  : Nat
  lane  : Nat
  slot  : Nat
  rt    : Nat
  k     : Nat
  j     : Nat
  chain : Nat
  datum : Int × Int
deriving DecidableEq, Repr

/-- A record on its way to the Spool engine (06 R167): device tick, thread, Spool, reservation, image. -/
structure MvRecord where
  tick  : Nat
  rt    : Nat
  spool : Nat
  resv  : Reserved
  image : Nat
deriving DecidableEq, Repr

/-- A Marver core (06 R150 to R176). -/
structure Core where
  state : CoreState := .empty
  header : Nat := 0
  prog  : Tbl Nat := []
  /-- X by lane × 2,048 + word; Y by word. -/
  x     : Tbl Nat := []
  y     : Tbl Nat := []
  /-- V registers by lane × 16 + r; accumulators and their holds by lane × 4 + a. -/
  v     : Tbl (Int × Int) := []
  acc   : Tbl (Int × Int) := []
  hold  : Tbl Bool := []
  a     : Tbl Nat := []
  m     : Tbl Nat := []
  k     : Tbl Nat := []
  ystride : Nat := 0
  lp    : Nat := 255
  /-- The lane mask of the dispatch (R157). -/
  mask  : Nat := 255
  stateL : Tbl Nat := []
  confL : Tbl Nat := []
  govl  : Nat := 0
  satl  : Nat := 0
  ffl   : Nat := 0
  pc    : Nat := 0
  /-- Repetitions left of the instruction at pc (R161); 0: none. -/
  rpt   : Nat := 0
  /-- In WAIT: no handler runs. -/
  wait  : Bool := false
  /-- Core cycle (2 × device tick + cycle) of the next instruction. -/
  cycle : Nat := 0
  queue : List MvQueued := []
  /-- The windows of the core's threads that may still need it. -/
  wins  : List MvWindow := []
  /-- Current window (thread, k) and datum of each lane. -/
  cur   : Tbl (Option (Nat × Nat)) := []
  datum : Tbl (Option (Int × Int)) := []
  records : List MvRecord := []
  /-- A STOP waits for the end of a repeat (R161). -/
  stop  : Bool := false
  /-- Data that IN has taken outside any dispatch since START (R159). -/
  ins   : Nat := 0
  flags : Flags := []
deriving DecidableEq, Repr

/-! ### Bias (07) -/

/-- BIAS_STATUS.STATE (07 R191). -/
inductive BiasState where
  | clamped | ramp | run | ranging | test | safe | held
deriving DecidableEq, Repr

/-- A bias channel (07 R189 to R210). -/
structure Bias where
  state : BiasState := .clamped
  range : Nat := 0
  /-- MRAM record (R209); the factory record holds range 0, codes 0 and slew 1,000. -/
  puRange : Nat := 0
  puCode : Int := 0
  safeCode : Int := 0
  nvSlew : Nat := 1000
  /-- NV_SLEW as the last power-up or SAFE entry took it (R209). -/
  rampSlew : Nat := 1000
  /-- Clamped by an undervoltage: only BIAS_CTL RUN releases the channel (R202). -/
  uvClamp : Bool := false
  target : Int := 0
  /-- Slew accumulator A in 1/256 codes (R199). -/
  accum  : Int := 0
  present : Int := 0
  trig   : Bool := false
  stepEn : Bool := false
  cand   : Nat := 0
  qspool : Nat := 0
  dgWin  : Nat := 100
  slew   : Nat := 1000
  steps  : Nat := 0
  /-- Events on their way into STEPS: the device tick from which, and the count (R198). -/
  stepsDue : List (Nat × Nat) := []
  repcnt : Nat := 0
  presets : Tbl Int := []
  /-- Device tick before which the limiter does not move (R199). -/
  moveAt : Nat := 0
  /-- Device tick at which the track-and-hold releases (R199, R200). -/
  holdEnd : Option Nat := none
  /-- Code at the output, and codes on their way to it: (device tick, code) (R200). -/
  output : Int := 0
  path   : List (Nat × Int) := []
  /-- The clamp engages at this device tick (R201, R203). -/
  clampAt : Option Nat := none
  /-- BIAS_CTL CLAMP ramps to 0 (R203). -/
  clamping : Bool := false
  /-- A range change: new range, CODE, and the device tick at which the clamp releases once engaged (R201). -/
  ranging : Option (Nat × Option Int × Option Nat) := none
  /-- Test currents: pull-up, pull-down (R204). -/
  pullUp : Bool := false
  pullDown : Bool := false
  /-- Device tick of the last update instant, plus 1. -/
  updated : Nat := 0
  /-- BQLATE 24 to SUPPLY 31. -/
  flags  : Flags := []
deriving DecidableEq, Repr

/-! ### Housekeeping (19) -/

/-- What a conversion is for, by the order of R488: Lehr round, open-wire test, injected (the last of its
sequence), calibration, regular. -/
inductive ConvKind where
  | lehr | wire | inj (last : Bool) | cal | reg
deriving DecidableEq, Repr

/-- A conversion in its slot (19 R486): channel, the device tick and ST of the slot's start, REFOK and UNCAL. -/
structure Conv where
  kind  : ConvKind
  chan  : Nat
  tick  : Nat
  st    : Nat
  refnok : Bool
deriving DecidableEq, Repr

/-- A housekeeping unit (19 R486 to R504). -/
structure HkUnit where
  /-- HK_CFG in force: its image from EN up (R501). -/
  cfg    : Nat := 2 ^ 8 + 2 ^ 32
  refok  : Bool := false
  /-- Device tick of the last reference change (R492). -/
  refAt  : Nat := 0
  /-- Calibration values in force, and the NV values (R493). -/
  offset : Int := 0
  gain   : Nat := 2 ^ 22
  nvOffset : Int := 0
  nvGain : Nat := 2 ^ 22
  uncal  : Bool := false
  /-- HK_CAL pending or running: caller, tag and STORE; the conversions done (R494). -/
  cal    : Option (Nat × Nat × Bool) := none
  calRun : Option Nat := none
  /-- Sums of the raw codes of channels 460, 463 and 464. -/
  sum0   : Int := 0
  sumP   : Int := 0
  sumM   : Int := 0
  /-- Regular sequence: the entry that falls due next, and the channel that is pending (R489). -/
  seq    : Nat := 0
  regular : Option Nat := none
  /-- Injected sequence: next entry, and whether it waits for a calibration; ST of the next trigger (R490). -/
  inj    : Option Nat := none
  injHeld : Bool := false
  injNext : Option Nat := none
  running : Option Conv := none
  /-- Records on their way to the Spool, oldest first (R496). -/
  fifo   : List (List Byte) := []
  /-- OVR 5 to CALFAIL 9. -/
  flags  : Flags := []
  convCnt : Nat := 0
deriving DecidableEq, Repr

/-- An open-wire test on HK0 (19 R499): caller, tag, TID, S, RLIMIT, the step (0 V0, 1 VUP, 2 VDN), the slots
still to wait, the codes with their OVR, and whether it waits for a calibration. -/
structure OpenWire where
  func   : Nat
  tag    : Nat
  tid    : Nat
  settle : Nat
  rlimit : Nat
  step   : Nat := 0
  wait   : Nat := 0
  v0     : Int := 0
  vup    : Int := 0
  vdn    : Int := 0
  ovr    : Bool := false
  held   : Bool := false
deriving DecidableEq, Repr

/-- The housekeeping converters; `roundHeld`: the Lehr round waits for a calibration of HK1 (R494). -/
structure Hk where
  units : Tbl HkUnit := []
  wire  : Option OpenWire := none
  roundHeld : Bool := false
deriving DecidableEq, Repr

-- PARTS END

/-! ### The block -/

/-- The state of the device. -/
structure State where
  time   : TimeSt := {}
  fns    : Tbl Fn := []
  ics    : Tbl IcCfg := []
  bar2   : Nat := 0
  gaf    : Gaffer := {}
  ledger : Ledger := {}
  /-- Owners by OBJ_TYPE × 2^32 + OBJ_ID (20 R519). -/
  owners : Tbl Owner := []
  parts  : Tbl PartCfg := [(0, { keymask := 15 })]
  /-- Key slots: x + 2^384 y + 2^768 (20 R523); 0: EMPTY. -/
  keys   : Tbl Nat := []
  /-- Stored block images for the Ledger's digests, by opcode × 2^40 + OBJ_TYPE × 2^32 + OBJ_ID (20 R514). -/
  images : Tbl Nat := []
  staged : List Staged := []
  ports  : Tbl Port := []
  threads : Tbl Thread := []
  bobbins : Tbl Bobbin := []
  harness : Harness := {}
  markIn  : Tbl MarkerIn := []
  markOut : Tbl MarkerOut := []
  spools  : Tbl Spool := []
  /-- Spool ring memory, by offset from 0x8000_4100_0000 (11 R289). -/
  ringMem : List Host.Cell := []
  dma     : Tbl DmaEngine := []
  mem     : Mem := {}
  wall    : WallSet := {}
  wallTime : WallTime := {}
  power   : Power := {}
  lehr    : Lehr := {}
  repair  : Repair := {}
  weave   : Weave := {}
  links   : Tbl Link := []
  /-- Readout threads, pairs (by port identifier) and captures (by quadrant). -/
  rts     : Tbl RThread := []
  pairs   : Tbl Pair := []
  caps    : Tbl Capture := []
  emits   : List Emission := []
  looms   : Tbl Loom := []
  warp    : Warp := {}
  cores   : Tbl Core := []
  bias    : Tbl Bias := []
  /-- Group dividers N by tile; 32 after power-on (07 R206). -/
  biasN   : Tbl Nat := []
  hk      : Hk := {}
  -- FIELDS
  /-- What the block has sent, newest first. -/
  sent    : List Sent := []
  /-- Counter of the free values (the model's own). -/
  freeCtr : Nat := 0
  /-- Phase of the present tick that the idle step comes to next (the model's own; DESIGN CHOICE, log 2). -/
  phase   : Nat := 0
  /-- Commands waiting, first in first out (the model's own). -/
  pending : List Instr := []
deriving DecidableEq, Repr


/-! ### The state after reset -/

/-- The image of Nirdin 3.2 that QSPI slot A holds (13 R332, R356; DESIGN CHOICE, log 10). -/
def factoryImage : Image where
  major := 3
  minor := 2
  patch := Config.bootPatch.toNat
  ucode := Config.bootUcode.toNat
  svn   := Config.bootSvn.toNat
  build := Config.bootBuild.toNat
  manifest := [0xB0 + 3 * 2 ^ 8 + 2 * 2 ^ 16 + Config.bootUcode.toNat * 2 ^ 24 + 0x0020 * 2 ^ 40 + 0x0004 * 2 ^ 56
    + 0x0008 * 2 ^ 72]
  manHash := Config.bootManifestHash.toNat

/-- Entry 0 of the Ledger, written at manufacture, with its CHAIN (20 R515; DESIGN CHOICE, log 43). -/
def firstEntry : Entry where
  seq := 0
  st := 0
  wallNs := 0
  wallV := false
  origin := 6
  originId := 0
  part := 0
  secure := false
  objType := 0
  objId := 0
  action := 0x8001
  status := 0
  oldDig := 0
  newDig := 0
  boot := 0
  gen := 0
  chain := 5502019838327914168
  owner := none

/-- The device after a power-on reset, before power-good: VDD_AON, the core rail group and REFCLK are present,
VDDA_BIAS is not valid yet (17 R461, R463, R464; DESIGN CHOICE, logs 4, 42). -/
def State.reset : State :=
  { gaf := { slotA := some factoryImage, imageKey := (Config.imageKeyX.toNat, Config.imageKeyY.toNat)
             board := Config.board.map (fun b => { subVendor := b.1.toNat, subsystem := b.2.1.toNat, smbus := b.2.2.toNat }) }
    ledger := { next := 1, entries := [firstEntry], chain := firstEntry.chain }
    power := { biasBad := true } }


end Sys2Proof.Machine
end

