-- ==== Sys2Proof/Machine/Flags.lean ====
section
/-! DEFINITION. Sticky flags with counters (00 R12, R13) and the clear mask of status commands (13 R344). -/

namespace Sys2Proof.Machine

/-- An occurrence in the device tick `now`: the flag is set and its counter advances, saturating at 0xFFFF
(00 R13). -/
def flagRaise (now : Nat) (f : Flag) : Flag := { on := true, cnt := min (f.cnt + 1) 0xFFFF, at_ := now + 1 }

/-- An occurrence of the flag at bit `b`. -/
def hit (now : Nat) (f : Flags) (b : Nat) : Flags := tmod {} f b (flagRaise now)

/-- An occurrence when `c` holds. -/
def hitIf (now : Nat) (c : Bool) (f : Flags) (b : Nat) : Flags := if c then hit now f b else f

/-- The flag at bit `b` is set. -/
def isOn (f : Flags) (b : Nat) : Bool := (tget {} f b).on

/-- A 1 written to a W1C bit in the tick `now` clears the flag, unless hardware sets it in that tick (00 R11, R12). -/
def w1c (now : Nat) (b : Bool) (f : Flag) : Flag :=
  if b && f.at_ != now + 1 then { f with on := false, at_ := 0 } else f

/-- A clear mask's effect on one flag: a W1C bit of 1 clears the flag, a counter field of 0 clears the
counter (00 R11 to R13; 13 R344). -/
def flagMask (now : Nat) (b : Bool) (cnt : Nat) (f : Flag) : Flag :=
  { w1c now b f with cnt := if cnt = 0 then 0 else f.cnt }

/-- A status block's flags: (bit of the flag, bit of its counter). -/
abbrev FlagMap := List (Nat × Nat)

/-- Clear by a request image. -/
def clearFlags (now : Nat) (m : FlagMap) (req : Nat) (f : Flags) : Flags :=
  m.foldl (fun g p => tmod {} g p.1 (flagMask now (bit req p.1) (fld req p.2 16))) f

/-- Every counter field of a clear mask is 0x0000 or 0xFFFF (13 R344). -/
def maskOk (m : FlagMap) (req : Nat) : Bool :=
  m.all (fun p => fld req p.2 16 == 0 || fld req p.2 16 == 0xFFFF)

/-- The flags and counters as they stand in the status block. -/
def flagImage (m : FlagMap) (f : Flags) : Nat :=
  m.foldl (fun a p => a + b2n (isOn f p.1) * 2 ^ p.1 + (tget {} f p.1).cnt * 2 ^ p.2) 0

end Sys2Proof.Machine
end

