-- ==== Sys2Proof/Machine/Ops.lean ====
section
/-! DEFINITION. The named operations over the state that every command uses: objects, functions and
partitions, interrupts, Harness lines, and what the block sends. -/

namespace Sys2Proof.Machine

/-! ### Objects -/

def State.fn (s : State) (f : Nat) : Fn := tget {} s.fns f
def State.setFn (s : State) (f : Nat) (x : Fn) : State := { s with fns := tset {} s.fns f x }
def State.modFn (s : State) (f : Nat) (g : Fn → Fn) : State := s.setFn f (g (s.fn f))
def State.port (s : State) (p : Nat) : Port := tget {} s.ports p
def State.modPort (s : State) (p : Nat) (g : Port → Port) : State := { s with ports := tmod {} s.ports p g }
def State.thread (s : State) (t : Nat) : Thread := tget {} s.threads t
def State.modThread (s : State) (t : Nat) (g : Thread → Thread) : State :=
  { s with threads := tmod {} s.threads t g }
def State.bobbin (s : State) (t : Nat) : Bobbin := tget {} s.bobbins t
def State.modBobbin (s : State) (t : Nat) (g : Bobbin → Bobbin) : State :=
  { s with bobbins := tmod {} s.bobbins t g }
def State.spool (s : State) (n : Nat) : Spool := tget {} s.spools n
def State.modSpool (s : State) (n : Nat) (g : Spool → Spool) : State := { s with spools := tmod {} s.spools n g }
def State.chan (s : State) (c : Nat) : Channel := tget {} s.harness.chans c
def State.modChan (s : State) (c : Nat) (g : Channel → Channel) : State :=
  { s with harness := { s.harness with chans := tmod {} s.harness.chans c g } }
def State.quad (s : State) (q : Nat) : Quad := tget {} s.power.quads q
def State.modQuad (s : State) (q : Nat) (g : Quad → Quad) : State :=
  { s with power := { s.power with quads := tmod {} s.power.quads q g } }
def State.tile (s : State) (t : Nat) : Tile := tget {} s.power.tiles t
def State.modTile (s : State) (t : Nat) (g : Tile → Tile) : State :=
  { s with power := { s.power with tiles := tmod {} s.power.tiles t g } }

/-- The ST of the current tick boundary. -/
def State.st (s : State) : Nat := s.time.st

/-- The device tick. -/
def State.now (s : State) : Nat := s.time.tick

/-- A fresh index for a free value. -/
def State.fresh (s : State) : Nat × State := (s.freeCtr, { s with freeCtr := s.freeCtr + 1 })

/-- A payload whose length and bytes the spec does not give. -/
def freePayload (s : State) : State × List Byte :=
  ({ s with freeCtr := s.freeCtr + 2 },
   (leBytes 240 (Config.freeNat s.freeCtr)).take (Config.freeNat (s.freeCtr + 1) % 241))

/-- Send something out. -/
def State.send (s : State) (x : Sent) : State := { s with sent := x :: s.sent }

/-- The tile is ACTIVE (17 R452; 01 R25). -/
def tileActive (s : State) (t : Nat) : Bool := (s.tile t).state == .active

/-- The quadrant is OFF or on its way out of OFF (17 R460). -/
def quadOff (s : State) (q : Nat) : Bool :=
  (s.quad q).state == .off || ((s.quad q).state == .transition && (s.quad q).fromOff)

/-! ### Identifiers (01 R19, R20; 03 R82) -/

def tidTile (t : Nat) : Nat := fld t 12 4
def tidKind (t : Nat) : Nat := fld t 10 2
def tidIndex (t : Nat) : Nat := fld t 0 10
def mkTid (tile kind index : Nat) : Nat := tile * 4096 + kind * 1024 + index

/-- A legal TID (01 R19, R20). -/
def tidOk (t : Nat) : Bool :=
  tidTile t < 12 && tidIndex t < (if tidKind t = 2 then 16 else 32)

/-- A legal port identifier of drive ports and readout pairs (03 R82) and flux ports (07 R186). -/
def portOk (p : Nat) : Bool :=
  tidTile p < 12 && tidIndex p < (match tidKind p with | 0 => 8 | 1 => 2 | 2 => 16 | _ => 0)

/-- The port of a thread (01 R19). -/
def portOfTid (t : Nat) : Nat :=
  mkTid (tidTile t) (tidKind t)
    (match tidKind t with | 0 => tidIndex t / 4 | 1 => tidIndex t / 16 | _ => tidIndex t)

/-- The slot of a thread on its port (01 R19). -/
def slotOfTid (t : Nat) : Nat :=
  match tidKind t with | 0 => tidIndex t % 4 | 1 => tidIndex t % 16 | _ => 0

/-- The readout thread number of a readout TID, and back (01 R19). -/
def rtOfTid (t : Nat) : Nat := 32 * tidTile t + tidIndex t
def tidOfRt (r : Nat) : Nat := mkTid (r / 32) 1 (r % 32)
def tidOfBc (b : Nat) : Nat := mkTid (b / 32) 3 (b % 32)

/-! ### Owners and partitions (12 R315, 20 R519, R520) -/

/-- OBJ_TYPEs (20 R519). -/
def oDrive : Nat := 0x01
def oPort : Nat := 0x05
def oPair : Nat := 0x06
def oFluxPort : Nat := 0x07
def oLoom : Nat := 0x08
def oMarver : Nat := 0x09
def oChan : Nat := 0x0A
def oBit : Nat := 0x0B
def oDdr : Nat := 0x0C
def oMarkOut : Nat := 0x0D
def oMarkIn : Nat := 0x0E
def oDma : Nat := 0x0F
def oHook : Nat := 0x10
def oHk : Nat := 0x11
def oSpool : Nat := 0x12
def oRun : Nat := 0x13
def oSeg : Nat := 0x14
def oCause : Nat := 0x15

/-- A table key of an object; a flux thread has its flux port's entry (20 R519). -/
def objKey (ty id : Nat) : Nat := (if ty = 3 then 7 else ty) * 2 ^ 32 + id

/-- The owner of an object of OBJ_OWNER. -/
def ownerOf (s : State) (ty id : Nat) : Owner := tget {} s.owners (objKey ty id)

/-- OBJ_TYPE of a thread and of a port (20 R519). -/
def tidType (t : Nat) : Nat := 1 + tidKind t
def portType (p : Nat) : Nat := 5 + tidKind p

def threadOwner (s : State) (t : Nat) : Owner := ownerOf s (tidType t) t
def portOwner (s : State) (p : Nat) : Owner := ownerOf s (portType p) p

/-- The partition and secure attribute of a function's requests (12 R315); none: an unbound VF. -/
def fnPart (s : State) (f : Nat) : Option Owner :=
  if f = 0 then some { part := 0, secure := true }
  else if (s.fn f).bound then some { part := (s.fn f).part, secure := (s.fn f).secure } else none

/-- The function of a partition (12 R315). -/
def fnOfPart (s : State) (p : Nat) : Option Nat :=
  if p = 0 then some 0
  else ((List.range 17).find? (fun f => f != 0 && (s.fn f).bound && (s.fn f).part == p))

/-- The rights of a partition's own requests (12 R315). -/
def partWho (s : State) (p : Nat) : Owner :=
  { part := p, secure := p == 0 || (match fnOfPart s p with | some f => (s.fn f).secure | none => false) }

/-- The caller `c` may change an object of owner `o` (20 R520). -/
def mayChange (c o : Owner) : Bool := c.part == o.part && (!o.secure || c.secure)

/-- The owner of a tile (20 R519). -/
def tileOwner (s : State) (t : Nat) : Nat :=
  let os := (List.range 8).map (fun i => (ownerOf s oLoom (8 * t + i)).part)
    ++ (List.range 2).map (fun i => (ownerOf s oMarver (2 * t + i)).part)
    ++ (List.range 32).map (fun i => (ownerOf s 1 (mkTid t 0 i)).part)
    ++ (List.range 32).map (fun i => (ownerOf s 2 (mkTid t 1 i)).part)
    ++ (List.range 16).map (fun i => (ownerOf s 3 (mkTid t 2 i)).part)
  match os with
  | [] => 0
  | p :: r => if r.all (fun q => q == p) then p else 0

/-! ### Interrupts (12 R316, R322) -/

/-- The vectors of a function (12 R318, R322). -/
def vectorCount (f : Nat) : Nat := if f = 0 then 2048 else 64

/-- The function exists on the bus: a VF while PF0's VF Enable is set (12 R314), and none in RECOVERY (13 R331). -/
def fnPresent (s : State) (f : Nat) : Bool := f = 0 || ((s.fn 0).vfEnable && s.gaf.state != .recovery)

/-- Host requests are issued for a function (12 R316). -/
def mayRequest (s : State) (f : Nat) : Bool := fnPresent s f && (s.fn f).busMaster

/-- Host requests are issued on behalf of a partition (12 R316). -/
def partRequests (s : State) (p : Nat) : Bool :=
  match fnOfPart s p with | some f => mayRequest s f | none => false

/-- The entry of a vector in its function's MSI-X table. -/
def vectorOf (x : Fn) (v : Nat) : Vector_ := tget {} x.table v

/-- The message of a vector leaves (12 R322). -/
def sendVector (s : State) (f v : Nat) : State :=
  s.send (.msix f v (vectorOf (s.fn f) v).address (vectorOf (s.fn f) v).data)

/-- Send a vector of a function: a removed or unbound VF sends nothing (R314, R315); a masked vector, or one of a function
whose Bus Master Enable is 0, becomes pending (R322, R316). -/
def msix (s : State) (f v : Nat) : State :=
  if !fnPresent s f || (f ≠ 0 && !(s.fn f).bound) then s
  else if (vectorOf (s.fn f) v).unmasked && (s.fn f).busMaster then sendVector s f v
  else s.modFn f (fun x => { x with vecPend := tset false x.vecPend v true })

/-! ### Host requests (12 R321, R325) -/

/-- The largest payload that a function's write carries: its Max Payload Size, at most 512 bytes (12 R311, R325). -/
def payloadBytes (x : Fn) : Nat := min 512 (128 * 2 ^ x.payload)

/-- The largest read that a function requests (12 R311, R325). -/
def readBytesMax (x : Fn) : Nat := min 4096 (128 * 2 ^ x.readReq)

/-- Writes to the host, split at multiples of `u`, which divides 4 KiB; each is poisoned if it holds a word of `bad`, by
fuel. `off` is the offset of `d` in the whole (11 R302; 12 R325). -/
def hostWrites (u : Nat) (relaxed : Bool) : Nat → State → Nat → Nat → List Byte → List Nat → Nat → State
  | 0, s, _, _, _, _, _ => s
  | k + 1, s, f, a, d, bad, off =>
    if d.isEmpty then s
    else
      let m := u - a % u
      let here := bad.any (fun o => decide (off ≤ o) && decide (o < off + m))
      hostWrites u relaxed k (s.send (.hostWrite f a (d.take m) here relaxed)) f (a + m) (d.drop m) bad (off + m)

/-- Read requests to the host, split at multiples of `u`, by fuel (12 R325). -/
def hostReads (u : Nat) : Nat → State → Nat → Nat → Nat → State
  | 0, s, _, _, _ => s
  | k + 1, s, f, a, n =>
    if n = 0 then s
    else
      let m := min n (u - a % u)
      hostReads u k (s.send (.hostRead f a m)) f (a + m) (n - m)

/-- A function reads bytes of the host. -/
def hostFetch (s : State) (f a n : Nat) : State := hostReads (readBytesMax (s.fn f)) (n / 128 + 2) s f a n

/-- A function writes bytes to the host, Relaxed Ordering clear (12 R322, R325). -/
def hostStore (s : State) (f a : Nat) (d : List Byte) : State :=
  hostWrites (payloadBytes (s.fn f)) false (d.length / 128 + 2) s f a d [] 0

/-! ### Harness producers (10 R265, R268) -/

/-- A line asserts in device tick `t` with hop number `h`. -/
def assertAt (s : State) (l : Line) (t h : Nat) : State :=
  { s with harness := { s.harness with
      asserts := { line := l, tick := t, hop := h } :: s.harness.asserts } }

/-- A line asserts in the present tick with hop number 1. -/
def assertLine (s : State) (l : Line) : State := assertAt s l s.now 1

/-- An uncore line asserts (10 R268). -/
def uncore (s : State) (n : Nat) : State := assertLine s (.uncore n)

/-- Keys of consumer inputs: tile consumer `u` of tile `t`, and uncore consumer `v` (10 R275). -/
def tileConsumer (t u : Nat) : Nat := 176 * t + u
def uncoreConsumer (v : Nat) : Nat := 2112 + v

/-- The stored copy of a selection is written with its register (10 R283). -/
def storeSel (s : State) (key : Nat) : State :=
  { s with harness := { s.harness with sels := tdel s.harness.sels key } }

/-! ### Notices (13 R335, R346 to R348) -/

/-- The header of a response or notice (13 R335). -/
def mkHeader (op tag len part : Nat) (rsp dup : Bool) (lost status : Nat) : Nat :=
  pack [(op, 16), (tag, 16), (len, 8), (part, 4), (0, 4), (0, 3), (b2n rsp, 1), (b2n dup, 1), (0, 3),
        (lost, 8), (status, 16)]

/-- The 256 bytes of a frame. -/
def frameBytes (header : Nat) (payload : List Byte) : List Byte :=
  leBytes 16 header ++ (payload ++ List.replicate (240 - payload.length) 0).take 240

/-- Nirdin runs: the Gaffer is not halted (13 R328). What Nirdin alone does waits while it is (DEDUCED, log 133). -/
def nirdinRuns (s : State) : Bool := s.gaf.state != .halted

/-- Post a notice to MB_EVT (`aud` false) or MB_AUD of a function: never waits; a full ring drops it and
counts it in LOST; TAG counts every notice (13 R346). A halted Gaffer posts nothing (R328). -/
def notice (s : State) (f : Nat) (aud : Bool) (kind : Nat) (payload : List Byte) : State :=
  if s.gaf.state = .halted then s
  else
    let x := s.fn f
    let part := match fnPart s f with | some o => o.part | none => 0
    if aud then
      if (x.audPi + 65536 - x.audCi) % 65536 ≥ 64 then
        s.setFn f { x with audSeq := (x.audSeq + 1) % 65536, audLost := x.audLost + 1 }
      else
        let h := mkHeader kind x.audSeq payload.length part false false (min x.audLost 255) 0
        msix (s.setFn f { x with
          mbox := writeBytes x.mbox (0x18000 + 256 * (x.audPi % 64)) (frameBytes h payload)
          audPi := (x.audPi + 1) % 65536, audSeq := (x.audSeq + 1) % 65536, audLost := 0 }) f 2
    else
      if (x.evtPi + 65536 - x.evtCi) % 65536 ≥ 64 then
        s.setFn f { x with evtSeq := (x.evtSeq + 1) % 65536, evtLost := x.evtLost + 1 }
      else
        let h := mkHeader kind x.evtSeq payload.length part false false (min x.evtLost 255) 0
        msix (s.setFn f { x with
          mbox := writeBytes x.mbox (0x14000 + 256 * (x.evtPi % 64)) (frameBytes h payload)
          evtPi := (x.evtPi + 1) % 65536, evtSeq := (x.evtSeq + 1) % 65536, evtLost := 0 }) f 1

/-- An MB_EVT notice goes to PF0 and to the function of the owner (13 R348). -/
def event (s : State) (owner kind : Nat) (payload : List Byte) : State :=
  let s := notice s 0 false kind payload
  match (if owner = 0 then none else fnOfPart s owner) with
  | some f => notice s f false kind payload
  | none => s

/-! ### Scheduling (02 R35, R53) -/

/-- The ST at which a block with APPLY_AT `a` applies when accepted at `acc` (02 R53). -/
def applyAt (a acc : Nat) : Nat := if a = 0 then acc + leadSamples else a

/-- What is wrong with an APPLY_AT (02 R35, R53). -/
def badTime (a acc : Nat) : Option Status :=
  if a = 0 then none
  else if a % 32 ≠ 0 then some .badTime
  else if a < acc + leadSamples then some .tooLate
  else none

/-- The first slow-tick boundary at or after `t` (02 R34). -/
def slowCeil (t : Nat) : Nat := (t + slowSamples - 1) / slowSamples * slowSamples

/-- A staged block waits. -/
def stage (s : State) (x : Staged) : State := { s with staged := s.staged ++ [x] }

/-- A staged block of this kind waits for this object. -/
def isStaged (s : State) (k : StagedKind) (obj : Nat) : Bool :=
  s.staged.any (fun x => x.kind == k && x.obj == obj)

/-- The present tick begins at a slow-tick boundary (02 R34; DESIGN CHOICE, log 2). -/
def slowNow (s : State) : Bool := s.time.refclk && (s.now + s.time.slowPhase) % 24 == 0

/-- ST counts (02 R38, R42). -/
def counting (s : State) : Bool := s.time.refclk && s.time.mode != .lost && !s.time.wait

/-- Ticks to the next slow-tick boundary after the present tick. -/
def toSlow (s : State) : Nat := 24 - (s.now + s.time.slowPhase) % 24

/-- The ST after `d` ticks, in the count in force. -/
def stAfter (s : State) (d : Nat) : Nat := if counting s then s.st + 32 * d else s.st

/-- ST of the first slow-tick boundary after the present tick. -/
def nextSlow (s : State) : Nat := stAfter s (toSlow s)

/-! ### Regions (18 R471, R474, R482) -/

/-- The neighbours of a sensor (18 R471). -/
def neighbours (i : Nat) : List Nat :=
  if i < 12 then
    ([3 * (i / 3), 3 * (i / 3) + 1, 3 * (i / 3) + 2].filter (fun j => j != i)) ++ [12 + 2 * (i / 3)]
  else if i < 20 then
    (if i % 2 = 0 then [i + 1, 3 * ((i - 12) / 2) + 1] else [i - 1, 3 * ((i - 13) / 2) + 2])
  else if i < 24 then [3 * (i - 20), 24 + (i - 20) / 2]
  else if i = 24 then [20, 21]
  else if i = 25 then [22, 23]
  else if i = 26 then [27, 24]
  else [26, 25]

/-- The largest of some readings. -/
def maxOf : List Int → Option Int
  | [] => none
  | x :: r => some (r.foldl max x)

def isSuspect (s : State) (i : Nat) : Bool := tget false s.lehr.suspects i
def sensor (s : State) (i : Nat) : Int := tget 0 s.lehr.reading i

/-- The region reading of a sensor (18 R474). -/
def regionReading (s : State) (i : Nat) : Int :=
  if !isSuspect s i then sensor s i
  else match maxOf (((neighbours i).filter (fun j => !isSuspect s j)).map (sensor s)) with
    | some m => m + 80
    | none => (maxOf (((List.range 28).filter (fun j => !isSuspect s j)).map (sensor s))).getD 0 + 80

/-- NV writes are refused: the larger region reading of TH26 and TH27 lies outside −40 °C to +125 °C (18 R482). -/
def nvInhibit (s : State) : Bool :=
  let m := max (regionReading s 26) (regionReading s 27)
  m < -640 || m > 2000

/-- A refused or deferred MRAM write sets NVINH (18 R482). -/
def nvInhibited (s : State) : State := { s with lehr := { s.lehr with flags := hit s.now s.lehr.flags 70 } }

end Sys2Proof.Machine
end

