-- ==== Sys2Proof/Machine/Bindings.lean ====
section
/-! DEFINITION. Which configuration blocks name a Spool (11 R286, R308) or produce a decision bit (01 R18). -/

namespace Sys2Proof.Machine

/-- The result Spool of a housekeeping unit: RSPOOL 0 is SP 44 + u (11 R286; 19 R501). -/
def rspoolOf (rspool u : Nat) : Nat := if rspool = 0 then 44 + u else rspool

/-- A block of another chapter binds a device producer to Spool `n` (11 R286). -/
def State.blocksProduce (s : State) (n : Nat) : Bool :=
  n != 0 && (s.rts.any (fun e => e.2.profiles.any (fun p => bit p.2 20 && bit p.2 25 && fld p.2 112 16 == n)
      || (bit e.2.mvCfg 16 && bit e.2.mvCfg 18 && fld e.2.mvCfg 48 16 == n))
    || s.looms.any (fun e => (List.range 4).any (fun i => fld e.2.cfg (32 + 16 * i) 16 == n))
    || (List.range 2).any (fun u => rspoolOf (fld (tget ({} : HkUnit) s.hk.units u).cfg 48 16) u == n))

/-- A BIAS_CFG names Spool `n` in QSPOOL (11 R286). -/
def State.blocksConsume (s : State) (n : Nat) : Bool := n ≠ 0 && s.bias.any (fun e => e.2.qspool == n)

/-- A block names Spool `n`, one that has not applied yet among them (11 R308). -/
def State.blocksName (s : State) (n : Nat) : Bool :=
  s.blocksProduce n || s.blocksConsume n
    || (n != 0 && s.staged.any (fun x => (x.kind == .hkCfg && fld x.blk 48 16 == n) || (x.kind == .biasCfg && fld x.blk 64 16 == n)))

/-- The core that serves a readout thread (06 R151). -/
def coreOfRt (r : Nat) : Nat := 2 * (r / 32) + r % 32 / 16

/-- Producers of a local decision bit: (0, readout thread) by a valid profile, (1, readout thread) by its
Marver lane, (2, Loom) by a loaded draft (01 R18, 05 R132, 06 R175, 08 R234). -/
def State.producers (s : State) (db : Nat) : List (Nat × Nat) :=
  s.rts.filterMap (fun e =>
    if e.2.profiles.any (fun p => bit p.2 20 && bit p.2 24 && fld p.2 32 9 == db) then some (0, e.1) else none)
  ++ s.rts.filterMap (fun e =>
    if bit e.2.mvCfg 16 && bit e.2.mvCfg 17 && fld e.2.mvCfg 32 9 == db
        && (tget ({} : Core) s.cores (coreOfRt e.1)).state != .failed then some (1, e.1) else none)
  ++ s.looms.filterMap (fun e =>
    if e.2.state != .failed && e.2.words.any (fun w => bit w.2 101 && fld w.2 102 9 == db) then some (2, e.1) else none)

end Sys2Proof.Machine
end

