-- ==== Sys2Proof/Machine/Codes.lean ====
section
/-! DEFINITION. The error-correcting codes of 14_memory_integrity. -/

namespace Sys2Proof.Machine

/-- Remainder of the low `n` bits of `v`, as a polynomial over GF(2), by `g` of degree `deg`. -/
def polyRem (g deg n v : Nat) : Nat :=
  (List.range n).reverse.foldl
    (fun r i =>
      let r' := 2 * r + v / 2 ^ i % 2
      if r' / 2 ^ deg % 2 = 1 then r' ^^^ g else r') 0

/-- The generator of the 80/64 code (14 R365). -/
def genWord : Nat := 0x14EAB

/-- The syndrome of a stored 80-bit word (14 R366). -/
def syndrome (w : Nat) : Nat := polyRem genWord 16 80 w

/-- The stored word of 64 data bits (14 R365). -/
def encodeWord (d : Nat) : Nat := d % 2 ^ 64 * 65536 + polyRem genWord 16 80 (d % 2 ^ 64 * 65536)

/-- The syndrome of poison (14 R366, R371). -/
def poisonSyn : Nat := 0xC599

/-- The classes a decoder reports (14 R366, R370). -/
inductive WordClass where
  | clean | poisoned | corrected (mask : Nat) | ue
deriving DecidableEq, Repr

/-- Syndromes of the 80 positions. -/
def posSyn (j : Nat) : Nat := polyRem genWord 16 80 (2 ^ j)

/-- The class of a syndrome; `corrected m` carries the bits put right (14 R366). -/
def classSyn (s : Nat) : WordClass :=
  if s = 0 then .clean
  else if s = poisonSyn then .poisoned
  else
    let syns := (List.range 80).map (fun j => (j, posSyn j))
    match syns.find? (fun p => p.2 == s) with
    | some (j, _) => .corrected (2 ^ j)
    | none =>
      match syns.findSome? (fun p =>
        (syns.find? (fun q => p.1 < q.1 && (p.2 ^^^ q.2) == s)).map (fun q => 2 ^ p.1 + 2 ^ q.1)) with
      | some m => .corrected m
      | none => .ue

/-- What a read of a word delivers: its data with the stored error pattern `mask`. -/
def readClass (mask : Nat) : WordClass := if mask = 0 then .clean else classSyn (syndrome mask)

/-- The data delivered for data `d` stored with error pattern `mask`. -/
def delivered (d mask : Nat) : Nat :=
  match readClass mask with
  | .corrected m => (d ^^^ (mask / 65536)) ^^^ (m / 65536)
  | _ => d ^^^ (mask / 65536)

/-- Check bits c0 to c3 of a byte (14 R369). -/
def byteChecks (b : Nat) : Nat :=
  let x (i : Nat) := b / 2 ^ i % 2
  (x 0 + x 1 + x 3 + x 4 + x 6) % 2 + 2 * ((x 0 + x 2 + x 3 + x 5 + x 6) % 2)
    + 4 * ((x 1 + x 2 + x 3 + x 7) % 2) + 8 * ((x 4 + x 5 + x 6 + x 7) % 2)

/-- Parity of the low `n` bits. -/
def parity (n v : Nat) : Nat := (countBelow n (fun i => v / 2 ^ i % 2 == 1)) % 2

/-- The 13 stored bits of a byte: b7-b0 in [7:0], c0-c3 in [11:8], c4 in [12] (14 R369). -/
def encodeByte (b : Nat) : Nat :=
  let c := byteChecks (b % 256)
  b % 256 + 256 * c + 4096 * ((parity 8 b + parity 4 c) % 2)

/-- Parity-check columns of b0 to b7 (14 R369). -/
def byteCols : List Nat := [0x3, 0x5, 0x6, 0x7, 0x9, 0xA, 0xB, 0xC]

/-- s[3:0] and p of 13 stored bits (14 R370). -/
def byteSyn (w : Nat) : Nat × Nat := (byteChecks (w % 256) ^^^ (w / 256 % 16), parity 13 w)

/-- The class of 13 stored bits (14 R370). -/
def byteClass (w : Nat) : WordClass :=
  match byteSyn w with
  | (0, 0) => .clean
  | (s, 1) =>
    if s = 0 then .corrected 4096
    else match [1, 2, 4, 8].idxOf? s with
      | some k => .corrected (256 * 2 ^ k)
      | none => match byteCols.idxOf? s with
        | some i => .corrected (2 ^ i)
        | none => .ue
  | _ => .ue

/-- A byte-sliced byte is uncorrectable. -/
def byteBad (mask : Nat) : Bool :=
  match byteClass mask with
  | .ue => true
  | .poisoned => true
  | _ => false

end Sys2Proof.Machine
end

