-- ==== Sys2Proof/Machine/MemOps.lean ====
section
/-! DEFINITION. Reads and writes of DDR: lines, valid bits, merges and stored errors (14 R359 to R381).
What an access meets comes back as a list of events, which MemErr.lean turns into records. -/

namespace Sys2Proof.Machine

/-- What an access meets (14 R383, R384, R391). -/
inductive MemEvt where
  | readUe (addr synd : Nat) | poisonRead (addr synd : Nat) | mergeUe (addr synd : Nat)
  | bitmapUe (addr synd : Nat) | corrected (addr synd : Nat) | freed (addr : Nat) | merge (addr : Nat)
  | coveredUe (addr synd : Nat)
deriving DecidableEq, Repr

/-- The channel whose window holds `a` (01 R26). -/
def chanOf (a : Nat) : Nat := a / 2 ^ 38
def chanBase (k : Nat) : Nat := k * 2 ^ 38

def State.ddrChan (s : State) (k : Nat) : Chan := tget {} s.mem.chans k

/-- Installed capacity: a FAILED or empty channel has none (14 R360). -/
def capacity (s : State) (k : Nat) : Nat := if (s.ddrChan k).failed then 0 else (s.ddrChan k).capacity

/-- B_k: the end of usable DDR (14 R362). -/
def bitmapBase (s : State) (k : Nat) : Nat := chanBase k + capacity s k - capacity s k / 1024

/-- The channel serves requests: its quadrant is neither OFF nor on its way out of OFF (17 R456). -/
def chanActive (s : State) (k : Nat) : Bool := capacity s k != 0 && !quadOff s k

/-- A range wholly in the usable DDR of one channel window (14 R362). -/
def inDdr (s : State) (a n : Nat) : Bool :=
  n != 0 && chanOf a < 4 && chanBase (chanOf a) ≤ a && decide (a + n ≤ bitmapBase s (chanOf a))

/-- Every 1 GiB region a range touches is owned by partition `p` (20 R519). -/
def ddrOwned (s : State) (p a n : Nat) : Bool :=
  (List.range ((a + n - 1) / 2 ^ 30 + 1 - a / 2 ^ 30)).all
    (fun i => (ownerOf s oDdr (a / 2 ^ 30 + i)).part == p)

/-- As ddrOwned, with the secure attribute of each region (20 R520). -/
def ddrMayChange (s : State) (c : Owner) (a n : Nat) : Bool :=
  (List.range ((a + n - 1) / 2 ^ 30 + 1 - a / 2 ^ 30)).all
    (fun i => mayChange c (ownerOf s oDdr (a / 2 ^ 30 + i)))

/-! ### Stored errors of words -/

def maskOf (m : Mem) (w : Nat) : Nat := (tget 0 m.errs w).toNat

/-- A word with stored error `m` yields no data: it is uncorrectable or poisoned (14 R383). -/
def badWord (m : Nat) : Bool :=
  match readClass m with | .ue => true | .poisoned => true | _ => false

/-- The memory events of a word read at `a` with stored error `m`. -/
def wordEvents (a m : Nat) : List MemEvt :=
  match readClass m with
  | .clean => []
  | .corrected _ => [.corrected a (syndrome m)]
  | .poisoned => [.poisonRead a (syndrome m), .freed a]
  | .ue => [.readUe a (syndrome m), .freed a]

/-- The addresses of the `n` words from `a` on. -/
def wordsFrom (a n : Nat) : List Nat := (List.range n).map (fun j => a + 8 * j)

/-- The words of a range of internal addresses are rewritten: their stored errors are gone, and their entries of the hot-word
tracker free (14 R368, R384). -/
def clearErrs (s : State) (a n : Nat) : State :=
  { s with mem := { s.mem with
      errs := tclear (fun i => decide (a ≤ i) && decide (i < a + n)) s.mem.errs
      hot := s.mem.hot.filter (fun e => !(decide (a ≤ e.2.addr) && decide (e.2.addr < a + n))) } }

/-- The events of words that are rewritten whole (14 R384). -/
def freedWords (a n : Nat) : List MemEvt := (wordsFrom a n).map .freed

/-! ### Valid bits -/

/-- The line's level-2 bit: byte address and bit (14 R374). -/
def l2Pos (s : State) (a : Nat) : Nat × Nat :=
  let l := (a - chanBase (chanOf a)) / 128
  (bitmapBase s (chanOf a) + l / 8, l % 8)

/-- The bitmap word of a line (14 R374). -/
def bitmapWord (s : State) (a : Nat) : Nat := (l2Pos s a).1 / 8 * 8

/-- A bitmap word read as UE or poisoned is rewritten as ones (14 R378). Whether a word that needs correction is read or stands
in the controller's cache is open (DESIGN CHOICE, log 134). -/
def bitmapFix (s : State) (a : Nat) : State × List MemEvt :=
  if tget false s.mem.l1 (a / 2 ^ 20) then
    let w := bitmapWord s a
    match readClass (maskOf s.mem w) with
    | .clean => (s, [])
    | .corrected _ =>
      ({ s with freeCtr := s.freeCtr + 1 },
        if Config.freeNat s.freeCtr % 2 = 0 then [] else [.corrected w (syndrome (maskOf s.mem w))])
    | _ =>
      ({ s with mem := { s.mem with
          ddr := writeBytes s.mem.ddr w (List.replicate 8 0xFF), errs := tset 0 s.mem.errs w 0 } },
        [.bitmapUe w (syndrome (maskOf s.mem w)), .freed w])
  else (s, [])

/-- A line is valid (14 R373, R374); the lines of a bitmap word that is UE are (R378). -/
def lineValid (s : State) (a : Nat) : Bool :=
  tget false s.mem.l1 (a / 2 ^ 20) &&
    (badWord (maskOf s.mem (bitmapWord s a))
      || (tget 0 s.mem.ddr (l2Pos s a).1).toNat / 2 ^ (l2Pos s a).2 % 2 == 1)

/-! ### Reads -/

/-- The stored data of the word at `w`. -/
def wordAt (m : Mem) (w : Nat) : Nat := leNat (readBytes m.ddr w 8)

/-- A demand read of the word at `w`: data, whether it is bad, events (14 R366, R375, R383). -/
def readWord (s : State) (w : Nat) : Nat × Bool × List MemEvt :=
  if lineValid s w then
    let m := maskOf s.mem w
    match readClass m with
    | .clean => (delivered (wordAt s.mem w) m, false, [])
    | .corrected _ => (delivered (wordAt s.mem w) m, false, [.corrected w (syndrome m)])
    | .poisoned => (0, true, [.poisonRead w (syndrome m), .freed w])
    | .ue => (0, true, [.readUe w (syndrome m), .freed w])
  else (0, false, [])

/-- Words from `w` on. -/
def readWords (s : State) (w : Nat) : Nat → List (Nat × Bool) × List MemEvt
  | 0 => ([], [])
  | n + 1 =>
    let r := readWord s w
    let t := readWords s (w + 8) n
    ((r.1, r.2.1) :: t.1, r.2.2 ++ t.2)

/-- A read of `n` bytes at `a`: the bytes, the bad words' addresses, events. -/
def ddrRead (s : State) (a n : Nat) : List Byte × List Nat × List MemEvt :=
  let w := a / 8 * 8
  let k := (a + n + 7) / 8 - a / 8
  let r := readWords s w k
  let bytes := r.1.flatMap (fun p => leBytes 8 p.1)
  ((bytes.drop (a - w)).take n,
   ((List.range k).filter (fun i => (r.1.getD i (0, false)).2)).map (fun i => w + 8 * i), r.2)

/-- Every bitmap word that a range needs is readable (14 R378). -/
def bitmapFixAll (s : State) (a n : Nat) : State × List MemEvt :=
  (List.range ((a + n - 1) / 8192 + 1 - a / 8192)).foldl
    (fun (p : State × List MemEvt) i =>
      let r := bitmapFix p.1 ((a / 8192 + i) * 8192)
      (r.1, p.2 ++ r.2)) (s, [])

/-! ### Writes -/

/-- The first write into a region clears its level-2 bits and sets its level-1 bit (14 R376). -/
def openRegion (s : State) (a : Nat) : State :=
  if tget false s.mem.l1 (a / 2 ^ 20) then s
  else
    let b := (l2Pos s (a / 2 ^ 20 * 2 ^ 20)).1
    let s := clearErrs s b 1024
    { s with mem := { s.mem with
        ddr := tclear (fun i => b ≤ i && decide (i < b + 1024)) s.mem.ddr
        l1 := tset false s.mem.l1 (a / 2 ^ 20) true } }

/-- Set or clear a line's level-2 bit. -/
def setLine (s : State) (a : Nat) (v : Bool) : State :=
  let p := l2Pos s a
  let o := (tget 0 s.mem.ddr p.1).toNat
  let n := if v then o ||| 2 ^ p.2 else o &&& (255 - 2 ^ p.2)
  { s with mem := { s.mem with
      ddr := tset 0 s.mem.ddr p.1 (BitVec.ofNat 8 n), errs := tset 0 s.mem.errs (p.1 / 8 * 8) 0 } }

/-- A merge's effect on one word of the line (14 R380, R381): `cov` of its 8 bytes are written. A UE or poisoned word that the
new data do not cover whole gets the poison pattern, one that they do not touch too (R372; DEDUCED, log 135). -/
def mergeWord (m : Mem) (w cov : Nat) : Mem × List MemEvt :=
  let k := maskOf m w
  match readClass k with
  | .clean =>
    ({ m with ddr := if k = 0 then m.ddr else writeBytes m.ddr w (leBytes 8 (delivered (wordAt m w) k))
              errs := tset 0 m.errs w 0 }, [.freed w])
  | .corrected _ =>
    ({ m with ddr := writeBytes m.ddr w (leBytes 8 (delivered (wordAt m w) k))
              errs := tset 0 m.errs w 0 }, [.corrected w (syndrome k), .freed w])
  | _ =>
    if cov = 8 then ({ m with errs := tset 0 m.errs w 0 }, [.coveredUe w (syndrome k), .freed w])
    else ({ m with errs := tset 0 m.errs w (BitVec.ofNat 80 poisonSyn) },
          [.mergeUe w (syndrome k), .freed w])

/-- Bytes of [a, a + n) in the word at `w`. -/
def cover (a n w : Nat) : Nat := min (a + n) (w + 8) - max a w

/-- A write within one line (14 R376, R379). -/
def writeLine (s : State) (a : Nat) (bs : List Byte) : State × List MemEvt :=
  let line := a / 128 * 128
  let f := bitmapFix s a
  let s := openRegion f.1 a
  if lineValid s a then
    if bs.length = 128 then
      ({ s with mem := { s.mem with
          ddr := writeBytes s.mem.ddr a bs
          errs := tclear (fun i => line ≤ i && decide (i < line + 128)) s.mem.errs } },
        f.2 ++ freedWords line 16)
    else
      let r := (List.range 16).foldl
        (fun (p : Mem × List MemEvt) j =>
          let q := mergeWord p.1 (line + 8 * j) (cover a bs.length (line + 8 * j))
          (q.1, p.2 ++ q.2)) (s.mem, [])
      ({ s with mem := { r.1 with ddr := writeBytes r.1.ddr a bs } }, f.2 ++ r.2 ++ [.merge line])
  else
    let inLine := fun i => line ≤ i && decide (i < line + 128)
    (setLine { s with mem := { s.mem with
        ddr := writeBytes (tclear inLine s.mem.ddr) a bs, errs := tclear inLine s.mem.errs } } a true,
      f.2 ++ freedWords line 16 ++ [.freed (bitmapWord s a)])

/-- A write split at line boundaries (14 R379), by fuel. -/
def ddrWriteAux : Nat → State → Nat → List Byte → State × List MemEvt
  | 0, s, _, _ => (s, [])
  | n + 1, s, a, bs =>
    if bs.isEmpty then (s, [])
    else
      let m := 128 - a % 128
      let r := writeLine s a (bs.take m)
      let t := ddrWriteAux n r.1 (a + m) (bs.drop m)
      (t.1, r.2 ++ t.2)

/-- A write of bytes at `a`. -/
def ddrWrite (s : State) (a : Nat) (bs : List Byte) : State × List MemEvt :=
  ddrWriteAux (bs.length / 128 + 2) s a bs

/-- Words written with the poison pattern: data 0 with check bits 0xC599 (14 R371). -/
def poisonWords (s : State) (ws : List Nat) : State :=
  ws.foldl (fun s w => { s with mem := { s.mem with
      ddr := writeBytes s.mem.ddr w (List.replicate 8 0)
      errs := tset 0 s.mem.errs w (BitVec.ofNat 80 poisonSyn) } }) s

/-- ZERO of a whole line: its level-2 bit is cleared (14 R377). -/
def zeroLine (s : State) (a : Nat) : State × List MemEvt :=
  if tget false s.mem.l1 (a / 2 ^ 20) then
    let f := bitmapFix s a
    (setLine f.1 a false, f.2 ++ [.freed (bitmapWord s a)])
  else (s, [])

/-- DMA ZERO of a range (14 R377), by fuel: whole regions, whole lines, parts of lines. -/
def ddrZeroAux : Nat → State → Nat → Nat → State × List MemEvt
  | 0, s, _, _ => (s, [])
  | n + 1, s, a, len =>
    if len = 0 then (s, [])
    else if a % 2 ^ 20 = 0 && 2 ^ 20 ≤ len then
      ddrZeroAux n { s with mem := { s.mem with l1 := tset false s.mem.l1 (a / 2 ^ 20) false } }
        (a + 2 ^ 20) (len - 2 ^ 20)
    else if a % 128 = 0 && 128 ≤ len then
      let r := zeroLine s a
      let t := ddrZeroAux n r.1 (a + 128) (len - 128)
      (t.1, r.2 ++ t.2)
    else
      let m := min len (128 - a % 128)
      let r := writeLine s a (List.replicate m 0)
      let t := ddrZeroAux n r.1 (a + m) (len - m)
      (t.1, r.2 ++ t.2)

def ddrZero (s : State) (a len : Nat) : State × List MemEvt := ddrZeroAux (len / 16 + 2) s a len

end Sys2Proof.Machine
end

