-- ==== Sys2Proof/Machine/SpoolOps.lean ====
section
/-! DEFINITION. Spools: slots, full rings, notification, tag order and error records (11 R285 to R305). -/

namespace Sys2Proof.Machine

/-- Index modulus (11 R290). -/
def idxMod : Nat := 2 ^ 25

def entryBytes (p : Spool) : Nat := 16 * 2 ^ p.esize
def ringSize (p : Spool) : Nat := 2 ^ p.log2n
def occupancy (p : Spool) : Nat := (p.pi + idxMod - p.ci) % idxMod
def slotAddr (p : Spool) (i : Nat) : Nat := p.base + entryBytes p * (i % ringSize p)

/-- Base of the Spool ring memory (23 R560). -/
def ringBase : Nat := 0x800041000000

/-- The Spool exists and moves entries (11 R308). -/
def spoolLive (p : Spool) : Bool := p.valid && !p.fault

/-- The ring's memory takes and gives entries: Bus Master Enable for a host ring (12 R316), an active
channel for a DDR ring (17 R456). -/
def ringReady (s : State) (p : Spool) : Bool :=
  match p.target with
  | 0 => partRequests s p.owner
  | 1 => chanActive s (chanOf p.base)
  | _ => true

/-- A ring lies in memory that only waits, and does not drop, for a producer that can wait (17 R456). -/
def ringHeld (s : State) (p : Spool) : Bool := p.target == 1 && !chanActive s (chanOf p.base)

/-- Bytes of an entry of the ring (device-side read of DDR and on-chip rings): bytes, a bad word, events. -/
def ringRead (s : State) (p : Spool) (i : Nat) : List Byte × Bool × List MemEvt :=
  let a := slotAddr p i
  if p.target = 1 then
    let r := ddrRead s a (entryBytes p)
    (r.1, !r.2.1.isEmpty, r.2.2)
  else
    let bs := readBytes s.ringMem (a - ringBase) (entryBytes p)
    let ws := wordsFrom a (entryBytes p / 8)
    (bs, ws.any (fun w => badWord (maskOf s.mem w)), ws.flatMap (fun w => wordEvents w (maskOf s.mem w)))

/-- Write an entry into slot i; events of a DDR ring's merge. -/
def ringWrite (s : State) (p : Spool) (i : Nat) (e : List Byte) : State × List MemEvt :=
  let a := slotAddr p i
  match p.target with
  | 0 => (hostStore s ((fnOfPart s p.owner).getD 0) a e, [])
  | 1 => ddrWrite s a e
  | _ => (clearErrs { s with ringMem := writeBytes s.ringMem (a - ringBase) e } a e.length, [])

/-- An entry as the ring stores it: its size in bytes, zeros after the data. -/
def fitEntry (p : Spool) (e : List Byte) : List Byte :=
  (e ++ List.replicate (entryBytes p - e.length) 0).take (entryBytes p)

/-! ### Sides (11 R286) -/

/-- A block binds a device producer to an Internal Spool. -/
def producerBound (s : State) (n : Nat) : Bool :=
  (32 ≤ n && decide (n ≤ 43)) || s.blocksProduce n

/-- A block binds a device consumer to an Internal Spool. -/
def consumerBound (s : State) (n : Nat) : Bool :=
  (32 ≤ n && decide (n ≤ 43)) || s.blocksConsume n

/-- The producer side is driven by the device. -/
def deviceProduces (s : State) (n : Nat) : Bool :=
  match (s.spool n).cls with
  | 1 => true | 4 => true | 2 => producerBound s n | _ => false

/-- The consumer side is driven by the device. -/
def deviceConsumes (s : State) (n : Nat) : Bool :=
  match (s.spool n).cls with
  | 0 => true | 3 => true | 2 => consumerBound s n | _ => false

/-! ### Notification (11 R287, R295) -/

/-- The notify condition occurs as the occupancy goes from `o` to `o'` (11 R287). -/
def notifyMet (byProducer : Bool) (p : Spool) (o o' : Nat) : Bool :=
  match p.notify with
  | 1 => if byProducer then o < o' else o' < o
  | 2 => if byProducer then o < p.thresh && decide (p.thresh ≤ o') else p.thresh < o && decide (o' ≤ p.thresh)
  | 3 => 0 < o && o' == 0
  | _ => false

/-- Send the Spool's vector (11 R295). -/
def spoolVector (s : State) (p : Spool) : State :=
  match fnOfPart s p.owner with
  | some f => msix s f p.vector
  | none => s

/-- After an index of Spool `n` moved from occupancy `o`. -/
def notify (s : State) (n o : Nat) : State :=
  let p := s.spool n
  if notifyMet (deviceProduces s n || !deviceConsumes s n) p o (occupancy p) then
    let s := if p.hookEn then assertLine s (.hook p.hook) else s
    if p.irqEn && p.armed then spoolVector (s.modSpool n (fun q => { q with armed := false })) p else s
  else s

/-! ### Device producers (11 R293, R294) -/

/-- Put an entry at PI and advance PI (11 R290). -/
def putEntryE (s : State) (n : Nat) (e : List Byte) : State × List MemEvt :=
  let p := s.spool n
  let r := ringWrite s p p.pi (fitEntry p e)
  (notify (r.1.modSpool n (fun q => { q with pi := (q.pi + 1) % idxMod })) n (occupancy p), r.2)

def putEntry (s : State) (n : Nat) (e : List Byte) : State := (putEntryE s n e).1

/-- A slot is free and reachable. -/
def canPut (s : State) (p : Spool) : Bool := spoolLive p && ringReady s p && occupancy p < ringSize p

/-- Kinds of Spool-engine records (11 R305). -/
def spoolRecord (kind obj detail st data : Nat) : List Byte :=
  leBytes 32 (pack [(kind, 16), (obj, 16), (detail, 32), (st, 64), (data, 64)])

/-- Internal address of byte `j` of a Spool's descriptor (23 R560). -/
def descAddr (n j : Nat) : Nat := 0x800040000000 + 32 * n + j

/-- The first uncorrectable byte of a Spool's descriptor. -/
def descBad (s : State) (n : Nat) : Option Nat := firstBelow 32 (fun j => byteBad (maskOf s.mem (descAddr n j)))

/-- A Spool goes into FAULT (11 R308). -/
def faultSpool (s : State) (n : Nat) : State :=
  s.modSpool n (fun q => { q with fault := true, flags := hit s.now q.flags 27 })

/-- OVERFLOW of `k` entries dropped. -/
def overflow (s : State) (n k : Nat) : State :=
  s.modSpool n (fun q => { q with flags := (List.range k).foldl (fun f _ => hit s.now f 24) q.flags })

/-- An error record enters SP 16 + p, or is dropped; UL22 asserts for a record written (11 R304). A drop
that raises OVERFLOW from 0 asks for a SPOOL_OVF record, which the same full ring drops (R294); so does a DESCERR record
of the error Spool itself (R308). -/
def errRecord (s : State) (part : Nat) (r : List Byte) : State :=
  let n := 16 + part
  let p := s.spool n
  let lost := p.valid && !p.fault && (descBad s n).isSome
  let s := if lost then overflow (faultSpool s n) n 1 else s
  if canPut s (s.spool n) && (s.spool n).resize.isNone then uncore (putEntry s n r) 22
  else if !p.fault && !lost && p.resize.isSome && p.held.length < 256 then
    s.modSpool n (fun q => { q with held := q.held ++ [(0, false, r)] })
  else overflow s n (if isOn (s.spool n).flags 24 then 1 else 2)

/-- The engine reads the descriptor of Spool `n`: an uncorrectable byte puts it into FAULT (11 R308). -/
def readDesc (s : State) (n : Nat) : State :=
  let p := s.spool n
  if !p.valid || p.fault then s
  else match descBad s n with
    | none => s
    | some j => errRecord (faultSpool s n) p.owner (spoolRecord 3 n j s.st 0)

/-- A producer drops an entry: OVERFLOW, and one SPOOL_OVF record when it goes from 0 to 1 (11 R293, R294). -/
def dropEntry (s : State) (n : Nat) : State :=
  let p := s.spool n
  let s := overflow s n 1
  if isOn p.flags 24 then s else errRecord s p.owner (spoolRecord 1 n 0 s.st 0)

/-- A WAIT entry of the Ledger spill writer (11 R293; 20 R516): put it when a slot is free. -/
def spillEntry (s : State) (e : List Byte) : Option State :=
  let s := readDesc s 46
  if canPut s (s.spool 46) && (s.spool 46).resize.isNone then some (putEntry s 46 e) else none

end Sys2Proof.Machine
end

