-- ==== Sys2Proof/Machine/LedgerOps.lean ====
section
/-! DEFINITION. Wall time at an ST (16 R436) and appending to the Ledger (20 R512 to R516). -/

namespace Sys2Proof.Machine

/-- num / den rounded half to even (16 R436), den positive. -/
def roundEven (num den : Int) : Int :=
  let q := num / den
  let r := num % den
  if 2 * r < den then q else if 2 * r > den then q + 1 else if q % 2 = 0 then q else q + 1

/-- W(n) in units of 2^-16 ns under a set (16 R436). -/
def wallAt (w : WallSet) (n : Nat) : Nat :=
  enc 80 ((w.offset : Int) + roundEven (sgn 64 (enc 64 ((n : Int) - w.base)) * 125 * (2 ^ 48 + w.rate)) (3 * 2 ^ 32))

/-- The integer nanoseconds of W (16 R439). -/
def wallNs (w : WallSet) (n : Nat) : Nat := wallAt w n / 65536

/-- Who caused an entry (20 R513). -/
structure Origin where
  kind   : Nat
  id     : Nat := 0
  part   : Nat := 0
  secure : Bool := false

def fromPeer (d : Nat) : Origin := { kind := 2, id := d }
def fromJtag : Origin := { kind := 3 }
def fromNirdin : Origin := { kind := 4 }
def fromLehr : Origin := { kind := 5 }
def fromRom : Origin := { kind := 6 }

/-- The origin of a function's command. -/
def fromFn (f : Nat) (o : Owner) : Origin :=
  { kind := if f = 0 then 0 else 1, id := f, part := o.part, secure := o.secure }

/-- What an entry says (20 R513, R514). -/
structure LedgerItem where
  objType : Nat
  objId   : Nat
  action  : Nat
  status  : Nat := 0
  oldDig  : Nat := 0
  newDig  : Nat := 0

/-- The partition that owns the object of an entry; none: not owned (20 R519). -/
def itemOwner (s : State) (ty id : Nat) : Option Nat :=
  if 1 ≤ ty && ty ≤ 0x11 then some (ownerOf s ty id).part
  else if ty = oSpool then some (s.spool id).owner
  else if ty = oRun then some (tget {} (s.bobbin (id / 2 ^ 28)).runs (id % 2 ^ 28)).owner
  else if ty = oSeg then some (fld (tget 0 (s.bobbin (id / 2 ^ 28)).segs (id % 2 ^ 28)) 192 4)
  else if ty = oCause then some (s.fn (tget {} s.ics id).func).part
  else none

/-- The first 448 bits of an entry's image, and the whole of it (20 R513). -/
def entryBody (e : Entry) : Nat :=
  pack [(e.seq, 64), (e.st, 64), (e.wallNs, 64), (b2n e.wallV, 1), (e.origin, 3), (e.originId, 6),
        (e.part, 4), (b2n e.secure, 1), (0, 1), (e.objType, 8), (0, 8), (e.objId, 32), (e.action, 16),
        (e.status, 16), (e.oldDig, 64), (e.newDig, 64), (e.boot, 16), (e.gen, 8), (0, 8)]

def entryImage (e : Entry) : Nat := entryBody e + e.chain * 2 ^ 448

/-- CHAIN of an entry from its predecessor's (20 R515). -/
def chainOf (prev : Nat) (body : Nat) : Nat := digest8 (leBytes 8 prev ++ leBytes 56 body)

/-- SEQ of the last entry appended (20 R517). -/
def headSeq (l : Ledger) : Nat := l.next - 1

/-- Entry SEQ n as the buffer holds it. -/
def entryAt (l : Ledger) (n : Nat) : Option Entry := l.entries.find? (fun e => e.seq == n)

/-- Hand unspilled entries to SP46 while it takes them, by fuel (20 R516). -/
def spillAux : Nat → State → State
  | 0, s => s
  | k + 1, s =>
    if s.ledger.spill < s.ledger.next then
      match entryAt s.ledger s.ledger.spill with
      | none => spillAux k { s with ledger := { s.ledger with spill := s.ledger.spill + 1 } }
      | some e =>
        match spillEntry s (leBytes 64 (entryImage e)) with
        | some s' => spillAux k { s' with ledger := { s'.ledger with spill := s'.ledger.spill + 1 } }
        | none => s
    else s

def spill (s : State) : State := spillAux (s.ledger.next - s.ledger.spill) s

/-- One entry enters the buffer (20 R516). -/
def appendOne (s : State) (o : Origin) (st : Nat) (x : LedgerItem) : State :=
  let l := s.ledger
  let e : Entry :=
    { seq := l.next, st := st, wallNs := wallNs s.wall st % 2 ^ 64, wallV := s.wall.valid,
      origin := o.kind, originId := o.id, part := o.part, secure := o.secure,
      objType := x.objType, objId := x.objId, action := x.action, status := x.status,
      oldDig := x.oldDig, newDig := x.newDig, boot := l.boot % 65536, gen := s.time.gen, chain := 0,
      owner := itemOwner s x.objType x.objId }
  let c := chainOf l.chain (entryBody e)
  let s := if nvInhibit s then nvInhibited s else s
  { s with ledger := { l with
      next := l.next + 1, chain := c
      entries := { e with chain := c } :: l.entries.filter (fun x => x.seq % 8192 != e.seq % 8192)
      uncommitted := if nvInhibit s then min (l.uncommitted + 1) 1024 else l.uncommitted } }

/-- The notices of an entry (13 R347): PF0, and the VFs whose partition is its origin's or object's owner. -/
def auditNotices (s : State) (o : Origin) (e : Entry) : State :=
  let s := notice s 0 true 0x9001 (leBytes 64 (entryImage e))
  (List.range 17).foldl (fun s f =>
    if f ≠ 0 && (s.fn f).bound && (o.part == (s.fn f).part || e.owner == some (s.fn f).part)
    then notice s f true 0x9001 (leBytes 64 (entryImage e)) else s) s

/-- Entries not yet handed to SP46 (20 R516). -/
def unspilled (l : Ledger) : Nat := (l.entries.filter (fun e => decide (l.spill ≤ e.seq))).length

/-- The next append overwrites an entry that has not been spilled, under RETAIN = 1 (20 R516). -/
def losesEntry (l : Ledger) : Bool :=
  l.retain && l.entries.any (fun e => e.seq % 8192 == l.next % 8192 && decide (l.spill ≤ e.seq))

/-- Append an entry whose ST is `st` (20 R512 to R516): SEQ, CHAIN, the buffer, the spill path, MB_AUD, and
UL23. An unspilled entry that the append overwrites under RETAIN = 1 advances LOSS_CNT, and one
LEDGER_LOSS entry follows (DESIGN CHOICE, log 14). -/
def ledgerAppend (s : State) (o : Origin) (st : Nat) (x : LedgerItem) : State :=
  let add (s : State) (o : Origin) (st : Nat) (x : LedgerItem) : State :=
    let s := uncore (appendOne s o st x) 23
    match s.ledger.entries.head? with
    | some e => spill (auditNotices s o e)
    | none => s
  let count (s : State) : State :=
    if losesEntry s.ledger then { s with ledger := { s.ledger with lossCnt := min (s.ledger.lossCnt + 1) 0xFFFF } } else s
  let lost := losesEntry s.ledger
  let s := add (count s) o st x
  if lost then
    add (count s) fromNirdin s.st
      { objType := 0, objId := if losesEntry s.ledger then 2 else 1, action := 0x800C }
  else s

/-- Host commands that would append an entry fail with BUSY (20 R516). -/
def ledgerBlocked (s : State) : Bool :=
  s.ledger.uncommitted ≥ 1024 || (s.ledger.retain && decide (unspilled s.ledger ≥ 7680))

/-- An internal action of Nirdin or another agent at the present ST (20 R514). -/
def ledgerNote (s : State) (o : Origin) (ty id action : Nat) (newDig : Nat := 0) : State :=
  ledgerAppend s o s.st { objType := ty, objId := id, action := action, newDig := newDig }

/-- A status code (13 R350). -/
def Status.code : Status → Nat
  | .ok => 0 | .busy => 1 | .badParam => 2 | .badOpcode => 3 | .badFrame => 4 | .badTid => 5 | .badTime => 6
  | .tooLate => 7 | .lenExceeds => 8 | .noSpace => 9 | .partDenied => 0xA | .noEpoch => 0xB | .epochHeld => 0xC
  | .tagDup => 0xD | .sealed => 0xE | .recoveryOnly => 0xF | .sigFail => 0x10 | .incompatible => 0x11
  | .rollback => 0x12 | .badDraft => 0x13 | .badProg => 0x14 | .badImage => 0x15 | .nvTempInhibit => 0x16
  | .nvFail => 0x17 | .refFault => 0x18 | .notActive => 0x19 | .linkDown => 0x1A | .internal => 0x1B
  | .hostErr => 0x20 | .poisoned => 0x21

end Sys2Proof.Machine
end

