-- ==== Sys2Proof/Machine/MemErr.lean ====
section
/-! DEFINITION. What reads and writes of stores report: counters, records, hot words, repair marks
(14 R383, R384, R391; 20 R507, R510). -/

namespace Sys2Proof.Machine

/-! ### Byte-sliced values (14 R369, R370) -/

/-- A byte-sliced byte as a read delivers it. -/
def deliveredByte (b m : Nat) : Nat :=
  match byteClass m with
  | .corrected k => (b ^^^ m % 256) ^^^ k % 256
  | _ => b ^^^ m % 256

/-- The `n` bytes of a byte-sliced store at `a` with data `v` as a read delivers them; none: an uncorrectable byte. -/
def slicedValue (m : Mem) (n a v : Nat) : Option Nat :=
  if (List.range n).any (fun j => byteBad (maskOf m (a + j))) then none
  else some (((List.range n).map (fun j => deliveredByte (fld v (8 * j) 8) (maskOf m (a + j)) * 2 ^ (8 * j))).sum)

/-- Syndrome field of a byte (14 R391). -/
def byteSynField (m : Nat) : Nat := (byteSyn m).1 + 16 * (byteSyn m).2

/-- What a read of the `n` bytes of a byte-sliced store at `a` meets. -/
def slicedEvents (m : Mem) (n a : Nat) : List MemEvt :=
  (List.range n).flatMap (fun j =>
    let k := maskOf m (a + j)
    if k = 0 then []
    else match byteClass k with
      | .clean => []
      | .corrected _ => [.corrected (a + j) (byteSynField k)]
      | _ => [.readUe (a + j) (byteSynField k), .freed (a + j)])

/-! ### The map (23 R560, R561) -/

/-- The store that an internal address lies in, by its code of 14 R392; none: unmapped (23 R562). -/
def storeOf (s : State) (a : Nat) : Option Nat :=
  if a < 2 ^ 40 then
    some (if bitmapBase s (chanOf a) ≤ a && decide (a < chanBase (chanOf a) + capacity s (chanOf a)) then 14 else 0)
  else if 0x800000000000 ≤ a && decide (a < 0x800000000000 + 12 * 0x400000) then
    let o := (a - 0x800000000000) % 0x400000
    some (if 0x360000 ≤ o && decide (o < 0x380000) then 11 else 1)
  else if 0x800010000000 ≤ a && decide (a < 0x800010000000 + 12 * 0x100000) then some 2
  else if 0x800020000000 ≤ a && decide (a < 0x800020000000 + 96 * 0x40000) then
    if a % 64 < 40 then some 3 else none
  else if 0x800030000000 ≤ a && decide (a < 0x800030000000 + 24 * 0x80000) then
    let o := (a - 0x800030000000) % 0x80000
    if o < 0x20000 then some 4 else if o < 0x60000 then some 12 else none
  else if 0x800040000000 ≤ a && decide (a < 0x800040200000) then some 8
  else if 0x800041000000 ≤ a && decide (a < 0x800041400000) then some 5
  else if 0x800050000000 ≤ a && decide (a < 0x800050010000) then some 9
  else if 0x800051000000 ≤ a && decide (a < 0x800051010000) then some 10
  else if 0x800060000000 ≤ a && decide (a < 0x800060100000) then some 6
  else if 0x800061000000 ≤ a && decide (a < 0x800061000000 + 4 * 0x40000) then some 7
  else none

/-- The owner of an address, PT0 for a store without owners (14 R391). -/
def addrOwner (s : State) (a : Nat) : Nat :=
  match storeOf s a with
  | some 0 => (ownerOf s oDdr (a / 2 ^ 30)).part
  | some 1 =>
    let t := (a - 0x800000000000) / 0x400000
    let o := (a - 0x800000000000) % 0x400000
    if o < 0x340000 then
      ((s.bobbin t).runs.findSome? (fun e =>
        if e.1 ≤ o / 8 && decide (o / 8 < e.1 + 64 * e.2.blocks) then some e.2.owner else none)).getD 0
    else if o < 0x360000 then fld (tget 0 (s.bobbin t).segs ((o - 0x340000) / 32)) 192 4
    else 0
  | some 2 => (ownerOf s 2 (tidOfRt ((a - 0x800010000000) / 0x100000 * 32
      + (a - 0x800010000000) % 0x100000 / 0x8000))).part
  | some 3 => (ownerOf s oLoom ((a - 0x800020000000) / 0x40000)).part
  | some 4 => (ownerOf s oMarver ((a - 0x800030000000) / 0x80000)).part
  | some 12 => (ownerOf s oMarver ((a - 0x800030000000) / 0x80000)).part
  | some 5 =>
    (s.spools.findSome? (fun e =>
      if e.2.valid && e.2.target == 2 && e.2.base ≤ a && decide (a < e.2.base + entryBytes e.2 * ringSize e.2)
      then some e.2.owner else none)).getD 0
  | some 8 => (s.spool ((a - 0x800040000000) / 32)).owner
  | some 9 => if a < 0x800050004000 then (ownerOf s oChan ((a - 0x800050000000) / 16)).part else 0
  | _ => 0

/-- Interconnect stops of requesters, whose numbers the spec does not give (DESIGN CHOICE, log 11). -/
inductive Stop where
  | pcie | dma | spool | gaffer | scrub | tile (t : Nat) | link
deriving DecidableEq, Repr

def Stop.code : Stop → Nat
  | .scrub => 0x3F
  | .pcie => (Config.stop 0).toNat | .dma => (Config.stop 1).toNat | .spool => (Config.stop 2).toNat
  | .gaffer => (Config.stop 3).toNat | .link => (Config.stop 4).toNat | .tile t => (Config.stop (5 + t)).toNat

/-- A memory error record (14 R391). -/
def memRecord (s : State) (kind req : Nat) (src : Stop) (a synd count : Nat) : List Byte :=
  leBytes 32 (pack [(kind, 16), ((storeOf s a).getD 15, 4), (req, 4), (src.code, 6), (0, 2), (a, 48),
    (synd, 16), (count, 32), (s.st, 64)])

/-- The HDR_UE record of a transfer to `a`, store 13 (14 R391, R392). -/
def hdrRecord (s : State) (req : Nat) (src : Stop) (a : Nat) : List Byte :=
  leBytes 32 (pack [(0x0014, 16), (13, 4), (req, 4), (src.code, 6), (0, 2), (a, 48), (0, 16), (0, 32), (s.st, 64)])

/-! ### Repair marks (20 R507, R510) -/

/-- The REPAIR notice's payload (20 R510): code, store, ST, address. -/
def repairPayload (s : State) (code store a : Nat) : List Byte :=
  leBytes 24 (pack [(code, 8), (store, 8), (0, 48), (s.st, 64), (a, 64)])

/-- The field map is written to MRAM, unless that is refused now: the write is then deferred (20 R506; 18 R482). -/
def storeMap (s : State) : State :=
  if nvInhibit s then s
  else
    let r := s.repair
    { s with repair := { r with stored := {
        loomSpare := r.loomSpare, mvSpare := r.mvSpare, loomFailed := r.loomFailed, mvFailed := r.mvFailed
        marks := r.marks, rowsUsed := r.rowsUsed, colsUsed := r.colsUsed, unrepaired := r.unrepaired } } }

/-- The repair map of a new power cycle: what MRAM holds (20 R506, R507). -/
def storedMap (m : FieldMap) : Repair :=
  { loomSpare := m.loomSpare, mvSpare := m.mvSpare, loomFailed := m.loomFailed, mvFailed := m.mvFailed
    marks := m.marks, rowsUsed := m.rowsUsed, colsUsed := m.colsUsed, unrepaired := m.unrepaired, stored := m }

/-- A mark, applied repair or unrepairable mark: Ledger entry and notice (20 R510, R514). -/
def repairNote (s : State) (code store a objId owner : Nat) : State :=
  let s := storeMap s
  let s := ledgerNote s fromNirdin 0x27 objId (match code with | 1 => 0x8003 | 2 => 0x8004 | _ => 0x8005)
  event s owner 0x8007 (repairPayload s code store a)

/-- Spare rows or columns of a bank that are left; factory use per bank is open (DESIGN CHOICE, log 12). -/
def rowsLeft (s : State) (bank : Nat) : Nat := 2 - (Config.bankRows bank).val - tget 0 s.repair.rowsUsed bank
def colsLeft (s : State) (bank : Nat) : Nat := 2 - (Config.bankCols bank).val - tget 0 s.repair.colsUsed bank
def sparesLeft (s : State) (row : Bool) (bank : Nat) : Nat := if row then rowsLeft s bank else colsLeft s bank

/-- The Loom or Marver core whose own array holds address `a` of a store (20 R507). -/
def unitOf (store a : Nat) : Option (MarkKind × Nat) :=
  if store = 3 then some (.loom, (a - 0x800020000000) / 0x40000)
  else if store = 4 || store = 12 then some (.core, (a - 0x800030000000) / 0x80000)
  else none

def addMark (s : State) (m : Mark) : State := { s with repair := { s.repair with marks := s.repair.marks ++ [m] } }

/-- A Loom or core is marked: its array has no spare left (20 R507). -/
def markUnit (s : State) (k : MarkKind) (n : Nat) : State :=
  let m : Mark := { kind := k, store := 0, addr := n }
  if s.repair.marks.contains m then s
  else if k = .loom then repairNote (addMark s m) 2 0x10 n n (ownerOf s oLoom n).part
  else repairNote (addMark s m) 2 0x11 n n (ownerOf s oMarver n).part

/-- Mark a row or column (20 R507); a DDR location is never marked, and a mark is made once. In an array of a Loom or core
with no spare left, the unit is marked with it, and takes it along. -/
def markArray (s : State) (row : Bool) (store a : Nat) : State :=
  let m : Mark := { kind := if row then .row else .column, store := store, addr := a }
  if store = 0 || store = 14 || s.repair.marks.contains m then s
  else
    let note (s : State) : State := repairNote s 2 store a (fld a 16 32) (addrOwner s a)
    match (if sparesLeft s row (Config.bankOf a) = 0 then unitOf store a else none) with
    | some u => if s.repair.marks.contains { kind := u.1, store := 0, addr := u.2 } then s else markUnit (note s) u.1 u.2
    | none => note (addMark s m)

/-- A row that yields a UE twice in one power cycle is marked (20 R507). -/
def markUe (s : State) (a : Nat) : State :=
  match storeOf s a with
  | some st =>
    if st = 0 || st = 14 then s
    else
      let r := Config.rowOf a
      let n := tget 0 s.repair.ueRows r + 1
      let s := { s with repair := { s.repair with ueRows := tset 0 s.repair.ueRows r n } }
      if n ≥ 2 then markArray s true st r else s
  | none => s

/-- A column corrected in words of three or more rows of its bank is marked (20 R507). -/
def markColumn (s : State) (a synd : Nat) : State :=
  match storeOf s a with
  | some st =>
    if st = 0 || st = 14 then s
    else
      let c := Config.columnOf a synd
      let r := Config.rowOf a
      let rows := tget [] s.repair.ceCols c
      let rows := if rows.contains r then rows else r :: rows
      let s := { s with repair := { s.repair with ceCols := tset [] s.repair.ceCols c rows } }
      if rows.length ≥ 3 then markArray s false st c else s
  | none => s

/-! ### Hot words (14 R384) -/

/-- Index of the tracker entry of a location. -/
def hotFind (s : State) (a : Nat) : Option Nat :=
  firstBelow 256 (fun i => (tget ({} : HotEntry) s.mem.hot i).count != 0 && (tget ({} : HotEntry) s.mem.hot i).addr == a)

/-- The entry a new location takes: a free one, else the lowest COUNT below THRESH, lowest index. -/
def hotVictim (s : State) : Option Nat :=
  match firstBelow 256 (fun i => (tget ({} : HotEntry) s.mem.hot i).count == 0) with
  | some i => some i
  | none =>
    let l := ((List.range 256).map (fun i => ((tget ({} : HotEntry) s.mem.hot i).count, i))).filter
      (fun p => p.1 < s.mem.thresh)
    (l.foldl (fun (b : Option (Nat × Nat)) p =>
      match b with
      | none => some p
      | some q => if p.1 < q.1 then some p else b) none).map (fun p => p.2)

def setHot (s : State) (i : Nat) (e : HotEntry) : State :=
  { s with mem := { s.mem with hot := tset {} s.mem.hot i e } }

/-- A corrected read by the requester at stop `src` (14 R384, R391). -/
def hotCount (s : State) (src : Stop) (a synd : Nat) : State :=
  let store := (storeOf s a).getD 15
  match (match hotFind s a with | some i => some i | none => hotVictim s) with
  | none => { s with mem := { s.mem with flags := hit s.now s.mem.flags 27 } }
  | some i =>
    let old : HotEntry := tget ({} : HotEntry) s.mem.hot i
    let e : HotEntry := if old.count != 0 && old.addr == a then old else { addr := a, store := store }
    let n := min (e.count + 1) 0xFFFF
    let nowHot := decide (s.mem.thresh ≤ n) && !e.hot
    let s := setHot s i { e with count := n, synd := synd, hot := e.hot || nowHot }
    if nowHot then
      let s := uncore { s with mem := { s.mem with flags := hit s.now s.mem.flags 26 } } 21
      let o := addrOwner s a
      let s := errRecord s o (memRecord s 0x0013 o src a synd n)
      if store = 0 || store = 14 then s else markArray s true store (Config.rowOf a)
    else s

/-- Free a location's entry. -/
def hotFree (s : State) (a : Nat) : State :=
  match hotFind s a with
  | some i => setHot s i {}
  | none => s

/-! ### Events to reports -/

def bumpChan (s : State) (a : Nat) (f : Chan → Chan) : State :=
  if a < 2 ^ 40 then { s with mem := { s.mem with chans := tmod {} s.mem.chans (chanOf a) f } } else s

def sat32 (n : Nat) : Nat := min n 0xFFFFFFFF

/-- One event of an access by partition `req` at stop `src` (14 R364, R383, R384, R391). -/
def memEvent (s : State) (req : Nat) (src : Stop) (e : MemEvt) : State :=
  match e with
  | .readUe a y =>
    let s := bumpChan s a (fun c => { c with ueCnt := sat32 (c.ueCnt + 1) })
    markUe (errRecord s (addrOwner s a) (memRecord s 0x0010 req src a y 0)) a
  | .poisonRead a y =>
    let s := uncore (bumpChan s a (fun c => { c with poisonCnt := sat32 (c.poisonCnt + 1) })) 20
    errRecord s (addrOwner s a) (memRecord s 0x0011 req src a y 0)
  | .mergeUe a y =>
    let s := bumpChan s a (fun c => if y = poisonSyn then c else { c with ueCnt := sat32 (c.ueCnt + 1) })
    errRecord s (addrOwner s a) (memRecord s 0x0015 req src a y 0)
  | .bitmapUe a y =>
    let s := bumpChan s a (fun c => if y = poisonSyn then c else { c with ueCnt := sat32 (c.ueCnt + 1) })
    errRecord s (addrOwner s a) (memRecord s 0x0016 req src a y 0)
  | .coveredUe a y => bumpChan s a (fun c => if y = poisonSyn then c else { c with ueCnt := sat32 (c.ueCnt + 1) })
  | .corrected a y =>
    let s := bumpChan s a (fun c => { c with ceCnt := sat32 (c.ceCnt + 1) })
    markColumn (hotCount s src a y) a y
  | .freed a => hotFree s a
  | .merge a => bumpChan s a (fun c => { c with mergeCnt := sat32 (c.mergeCnt + 1) })

def memEvents (s : State) (req : Nat) (src : Stop) (l : List MemEvt) : State :=
  l.foldl (fun s e => memEvent s req src e) s

/-! ### Headers (01 R28) -/

/-- A transfer of partition `req` from stop `src` to address `a` passes its header's code: an error of one bit is corrected
and counted; one of more discards the transfer, with an HDR_UE record, and the requester sees a fault (`true`). -/
def takeHeader (s : State) (req : Nat) (src : Stop) (a : Nat) : State × Bool :=
  match s.mem.hdrs with
  | [] => (s, false)
  | e :: r =>
    let s := { s with mem := { s.mem with hdrs := r } }
    if e = 0 then (s, false)
    else if e = 1 then ({ s with mem := { s.mem with hdrCe := s.mem.hdrCe + 1 } }, false)
    else (errRecord s (addrOwner s a) (hdrRecord s req src a), true)

/-- The headers of the transfers to the addresses `as`. -/
def takeHeaders (s : State) (req : Nat) (src : Stop) (as : List Nat) : State × Bool :=
  as.foldl (fun p a => let h := takeHeader p.1 req src a; (h.1, p.2 || h.2)) (s, false)

end Sys2Proof.Machine
end

