-- ==== Sys2Proof/Machine/Append.lean ====
section
/-! DEFINITION. Handing entries on to Spools: full rings, draining, tag order (11 R293, R297, R307). -/

namespace Sys2Proof.Machine

/-- putEntry, with the records of what a DDR ring's write met. -/
def putRecorded (s : State) (n : Nat) (e : List Byte) : State :=
  let r := putEntryE s n e
  memEvents r.1 (s.spool n).owner .spool r.2

/-- A device producer hands an entry on in arrival order (11 R293, R307). A Spool that is not VALID takes
nothing. Entries of other producers that wait hold up none of this one's (R296). -/
def appendEntry (s : State) (n producer : Nat) (canWait : Bool) (e : List Byte) : State :=
  let s := readDesc s n
  let p := s.spool n
  if !p.valid then s
  else if p.fault then dropEntry s n
  else if p.resize.isSome then
    if p.held.length + p.resv.length < 256 then s.modSpool n (fun q => { q with held := q.held ++ [(producer, canWait, e)] })
    else dropEntry s n
  else if canPut s p && !(canWait && p.waiting.any (fun w => w.1 == producer)) then putRecorded s n e
  else if canWait && p.full && (ringReady s p || ringHeld s p) then
    s.modSpool n (fun q => { q with waiting := q.waiting ++ [(producer, e)] })
  else dropEntry s n

/-! ### Tag order (11 R297, R298) -/

/-- Reservations outstanding: not handed on, not cancelled (11 R297). -/
def outstanding (p : Spool) : Nat := (p.resv.filter (fun r => r.entry.isNone && !r.cancelled)).length

/-- Entries that wait in the reorder window (11 R297). -/
def windowed (p : Spool) : Nat := (p.resv.filter (fun r => r.entry.isSome)).length

/-- The rows of R297's table of reservation points. -/
def rowWindow : Nat := 0
def rowLoom : Nat := 1
def rowMarver : Nat := 2
def rowDma : Nat := 3
def rowOther : Nat := 4

/-- Reservation `r` comes before `x` in the order of their tags: ticks, then the rows of R297, then producers. -/
def tagBefore (r x : Resv) : Bool :=
  r.tick < x.tick || (r.tick == x.tick && (r.row < x.row || (r.row == x.row && r.prod ≤ x.prod)))

/-- Take a tag of Spool `n` (11 R297, R298); reservations of one tick stand in the order of the rows. -/
def reserve (s : State) (n : Nat) (tile : Option Nat) (row producer : Nat) : State × Reserved :=
  let p := s.spool n
  if !p.order || !p.valid then (s, .arrival)
  else if outstanding p ≥ 256 then (s.modSpool n (fun q => { q with flags := hit s.now q.flags 26 }), .refused)
  else
    let r : Resv := { tag := p.resCtr, tick := s.now, row := row, prod := producer, tile := tile }
    (s.modSpool n (fun q => { q with
        resCtr := q.resCtr + 1
        resv := q.resv.takeWhile (fun x => tagBefore x r) ++ r :: q.resv.dropWhile (fun x => tagBefore x r) }),
     .tag p.resCtr)

/-- Enter the leading entries of the reorder window whose turn has come, by fuel. -/
def releaseAux : Nat → State → Nat → State
  | 0, s, _ => s
  | k + 1, s, n =>
    let p := s.spool n
    match p.resv with
    | [] => s
    | r :: rest =>
      if r.cancelled then releaseAux k (s.modSpool n (fun q => { q with resv := rest })) n
      else match r.entry with
        | none => s
        | some e =>
          let s := readDesc (s.modSpool n (fun q => { q with resv := rest })) n
          releaseAux k (if canPut s (s.spool n) then putRecorded s n e else dropEntry s n) n

/-- Release the reorder window of Spool `n`, unless it drains (11 R297, R307); in FAULT its entries are dropped (R308). -/
def release (s : State) (n : Nat) : State :=
  if (s.spool n).resize.isSome || !(s.spool n).valid then s else releaseAux 512 s n

/-- Cancel a reservation whose entry will never exist (11 R297). -/
def cancelResv (s : State) (n : Nat) (r : Reserved) : State :=
  match r with
  | .tag t => s.modSpool n (fun q => { q with
      resv := q.resv.map (fun x => if x.tag = t && x.entry.isNone then { x with cancelled := true } else x) })
  | _ => s

/-- Hand on an entry that holds a reservation (11 R297, R298): it waits in the window of 256 entries, which is released once
every reservation of the tick has been made. An entry for which the window has no room is dropped (R307; DESIGN CHOICE,
log 121). -/
def handOn (s : State) (n producer : Nat) (canWait : Bool) (r : Reserved) (e : List Byte) : State :=
  match r with
  | .arrival => appendEntry s n producer canWait e
  | .refused => s
  | .tag t =>
    let s := readDesc s n
    let p := s.spool n
    if p.fault || decide (256 ≤ windowed p + p.held.length) then dropEntry (cancelResv s n r) n
    else s.modSpool n (fun q => { q with
      resv := q.resv.map (fun x => if x.tag = t && x.entry.isNone && !x.cancelled
        then { x with entry := some e } else x) })

/-- A producer whose reservation point is the hand-on itself (11 R297). -/
def produce (s : State) (n producer : Nat) (canWait : Bool) (tile : Option Nat) (e : List Byte) : State :=
  let r := reserve s n tile rowOther producer
  handOn r.1 n producer canWait r.2 e

/-- The reorder window has an entry or a cancelled place at its head. -/
def headReady (p : Spool) : Bool :=
  p.valid && p.resize.isNone && (match p.resv with | r :: _ => r.cancelled || r.entry.isSome | [] => false)

/-- Every reorder window is released (11 R297). -/
def releaseAll (s : State) : State :=
  ((s.spools.filter (fun e => headReady e.2)).map (fun e => e.1)).foldl release s

/-- Cancel every outstanding reservation of the tiles of `p` (11 R310). -/
def cancelTiles (p : Nat → Bool) (s : State) : State :=
  { s with spools := s.spools.map (fun e => (e.1, { e.2 with
      resv := e.2.resv.map (fun x => if x.entry.isNone && (match x.tile with | some t => p t | none => false)
        then { x with cancelled := true } else x) })) }

/-- Advance CI of a device consumer (11 R290, R295). A Spool that is not live consumes nothing (R308). -/
def consume (s : State) (n : Nat) : State :=
  let o := occupancy (s.spool n)
  if o = 0 || !spoolLive (s.spool n) then s
  else notify (s.modSpool n (fun q => { q with ci := (q.ci + 1) % idxMod })) n o

end Sys2Proof.Machine
end

