-- ==== Sys2Proof/Machine/Mailbox.lean ====
section
/-! DEFINITION. Mailbox commands: taking a frame, the checks every command passes, responses, and the
Ledger entries of commands (13 R333 to R345, 20 R512, R514). -/

namespace Sys2Proof.Machine

/-- What a command's body reads: the caller, the ST of acceptance, the parameter block as a number, the
bytes carried beside it, and the CLEAR bit (13 R335 to R340). -/
structure Call where
  func   : Nat
  who    : Owner
  accept : Nat
  blk    : Nat
  data   : List Byte
  clear  : Bool
  tag    : Nat
  /-- A reference carried the bytes `data` (R338). -/
  isRef  : Bool

/-- What a command's body answers. `next` is the state after it, of a refusal too. `items` are the Ledger entries of a command
that completes with OK; `obj` is the object of the entry of a refusal (20 R512). -/
structure Result where
  status : Status
  next   : State
  apply  : Nat := 0
  out    : List Byte := []
  waits  : Bool := false
  items  : List LedgerItem := []
  obj    : Nat × Nat := (0, 0)

/-- A refusal. -/
def deny (s : State) (st : Status) (obj : Nat × Nat := (0, 0)) : Result := { status := st, next := s, obj := obj }

/-- The first check that fails gives the status. -/
def firstFail : List (Bool × Status) → Option Status
  | [] => none
  | (bad, st) :: r => if bad then some st else firstFail r

/-- A time check in a list of checks. -/
def timeFail (a acc : Nat) : List (Bool × Status) :=
  match badTime a acc with
  | some st => [(true, st)]
  | none => []

/-- Run the checks, then the effect. -/
def checked (s : State) (obj : Nat × Nat) (cs : List (Bool × Status)) (eff : Result) : Result :=
  match firstFail cs with
  | some st => deny s st obj
  | none => { eff with obj := obj }

/-! ### Taking frames (13 R333, R334, R339, R340) -/

/-- The function's BAR0 answers: not in D3hot, PERST# high, and a VF only while VF Enable is set (12 R314). -/
def barOpen (s : State) (f : Nat) : Bool :=
  !(s.fn f).d3hot && !s.power.perst && s.power.core && fnPresent s f

def ringOcc (pi ci : Nat) : Nat := (pi + 65536 - ci) % 65536

/-- Nirdin takes frames of this function now (R334, R339). -/
def serving (s : State) (f : Nat) : Bool :=
  (s.gaf.state == .ready || s.gaf.state == .sealed || s.gaf.state == .recovery) && (s.fn f).outst.length < 16

/-- The 256 bytes of a command frame. -/
def frameImage (c : Frame) : List Byte := frameBytes c.header.toNat (c.payload.take 240)

/-- A frame that the host places at PI, one index further. -/
def placeFrame (x : Fn) (img : List Byte) : Fn :=
  { x with mbox := writeBytes x.mbox (0x10000 + 256 * (x.cmdPi % 16)) img, cmdPi := (x.cmdPi + 1) % 65536 }

/-- The frame `c` of its function: taken by Nirdin (`true`) when it stands at CI of MB_CMD, or when the ring
is empty and Nirdin serves; otherwise placed in MB_CMD to wait, or with MBERR when 16 frames wait (DESIGN CHOICE, log 5). -/
def offer (s : State) (c : Frame) : State × Bool :=
  let f := c.func.val
  let x := s.fn f
  let occ := ringOcc x.cmdPi x.cmdCi
  if occ > 0 && serving s f && readBytes x.mbox (0x10000 + 256 * (x.cmdCi % 16)) 256 == frameImage c then
    (s.setFn f { x with cmdCi := (x.cmdCi + 1) % 65536 }, true)
  else if occ ≥ 16 then (s.setFn f { x with mberr := flagRaise s.now x.mberr }, false)
  else
    let y := placeFrame x (frameImage c)
    if occ = 0 && serving s f then (s.setFn f { y with cmdCi := (y.cmdCi + 1) % 65536 }, true)
    else (s.setFn f y, false)

/-! ### Responses (13 R342, R343) -/

/-- Post a response to MB_RSP; the command stays outstanding until the host passes it (R339). -/
def postRsp (s : State) (f : Nat) (o : Outst) (dup : Bool) (st : Status) (apply : Nat) (out : List Byte) : State :=
  let x := s.fn f
  let h := mkHeader o.opcode o.tag (16 + out.length) o.part true dup 0 st.code
  let fr := frameBytes h (leBytes 8 o.accept ++ leBytes 8 apply ++ out)
  msix (s.setFn f { x with
    mbox := writeBytes x.mbox (0x11000 + 256 * (x.rspPi % 16)) fr
    rspPi := (x.rspPi + 1) % 65536
    outst := x.outst ++ [{ o with resp := some x.rspPi }] }) f 0

/-! ### References (13 R337, R338) -/

def refAddr (r : Nat) : Nat := fld r 0 64
def refLen (r : Nat) : Nat := fld r 64 25
def refInternal (r : Nat) : Bool := bit r 89

/-- The checks of a reference, in the order of R337. -/
def refFail (s : State) (f : Nat) (who : Owner) (r : Nat) : Option Status :=
  firstFail
    [(refLen r == 0 || refAddr r % 8 != 0 || fld r 90 38 != 0, .badParam),
     (decide (refLen r > 16777216) || (!refInternal r && decide (refAddr r + refLen r > 2 ^ 64))
        || (refInternal r && !inDdr s (refAddr r) (refLen r)), .lenExceeds),
     (refInternal r && !ddrMayChange s who (refAddr r) (refLen r), .partDenied),
     ((!refInternal r && !mayRequest s f) || (refInternal r && !chanActive s (chanOf (refAddr r))), .refFault)]

/-- The bytes of a reference pass one of Nirdin's Spools SP0 to SP15 (R337): which one, and in how many descriptors, the
spec does not say (DESIGN CHOICE, log 128). -/
def refMove (s : State) : State :=
  let k := Config.freeNat (s.freeCtr + 1)
  { s with freeCtr := s.freeCtr + 2 }.modSpool (Config.freeNat s.freeCtr % 16) (fun p =>
    { p with pi := (p.pi + k) % idxMod, ci := (p.ci + k) % idxMod })

/-- The referenced bytes; none: REF_FAULT. -/
def refFetch (s : State) (c : Frame) (who : Owner) (r : Nat) : State × Option (List Byte) :=
  let s := refMove s
  if refInternal r then
    let h := takeHeader s who.part .gaffer (refAddr r)
    if h.2 then (h.1, none)
    else
      let fix := bitmapFixAll h.1 (refAddr r) (refLen r)
      let d := ddrRead fix.1 (refAddr r) (refLen r)
      (memEvents fix.1 who.part .gaffer (fix.2 ++ d.2.2), if d.2.1.isEmpty then some d.1 else none)
  else (hostFetch s c.func (refAddr r) (refLen r),
    c.refBytes.map (fun b => (b ++ List.replicate (refLen r - b.length) 0).take (refLen r)))

/-- Write output to a reference (R337, R338); `false`: REF_FAULT, nothing is written. -/
def refStore (s : State) (f : Nat) (who : Owner) (r : Nat) (out : List Byte) : State × Bool :=
  if out.isEmpty then (s, true)
  else if refInternal r then
    if !chanActive s (chanOf (refAddr r)) then (s, false)
    else
      let h := takeHeader (refMove s) who.part .gaffer (refAddr r)
      if h.2 then (h.1, false)
      else
        let w := ddrWrite h.1 (refAddr r) out
        (memEvents w.1 who.part .gaffer w.2, true)
  else if !mayRequest s f then (s, false)
  else (hostStore (refMove s) f (refAddr r) out, true)

/-! ### The Ledger entries of commands (20 R512, R514) -/

/-- Statuses whose refusal enters the Ledger. -/
def refusalLogged : Status → Bool
  | .partDenied => true | .sigFail => true | .rollback => true | .incompatible => true | _ => false

/-- Append the entries of a completed command. -/
def logItems (s : State) (o : Origin) (st op : Nat) (l : List LedgerItem) : State :=
  l.foldl (fun s x => ledgerAppend s o st { x with action := if x.action = 0 then op else x.action }) s

/-- The stored image of a block, and the entry of its change (20 R514): `n` bytes; `dflt` is the image
before any command, `img` the new one, its WO fields taken as 0. -/
def imageKey (op ty id : Nat) : Nat := op * 2 ^ 40 + ty * 2 ^ 32 + id

def storeImage (s : State) (op ty id n dflt img : Nat) : State × LedgerItem :=
  let key := imageKey op ty id
  let old := match tget 0 s.images key with | 0 => dflt | v => v
  ({ s with images := tset 0 s.images key img },
   { objType := ty, objId := id, action := 0, oldDig := digest8 (leBytes n old), newDig := digest8 (leBytes n img) })

/-! ### Serving a command -/

/-- What Nirdin's table says of a command (13 R349, R331, R338): its opcode, served in SEALED, served in
RECOVERY, answered for an unbound VF, PF0 only, inline fields beside a reference. -/
structure CmdInfo where
  op       : Nat
  inSealed : Bool := false
  inRec    : Bool := false
  unbound  : Bool := false
  pf0      : Bool := false
  inlineF  : Bool := false

/-- Header faults of R336. -/
def badHeader (h len : Nat) : Bool :=
  fld h 44 4 != 0 || fld h 51 1 != 0 || fld h 52 1 != 0 || fld h 53 3 != 0 || fld h 56 8 != 0
    || fld h 64 16 != 0 || fld h 80 48 != 0 || decide (len > 240)
    || (bit h 48 && decide (len < 16)) || (bit h 50 && len != 240)

/-- A command completes with OK (13 R342, R343, R338): the Ledger entries of its changes, its output to the
reference or into the response, and the response; one whose response waits stays outstanding without it.
The effect is `r.next`. -/
def complete (f : Nat) (who : Owner) (o : Outst) (outRef : Option Nat) (r : Result) : State :=
  if r.waits then
    r.next.modFn f (fun x => { x with outst := x.outst ++ [{ o with outRef := outRef.map (BitVec.ofNat 128) }] })
  else
    let s := logItems r.next (fromFn f who) (if r.apply = 0 then o.accept else r.apply) o.opcode r.items
    match outRef with
    | some q => postRsp (refStore s f who q r.out).1 f o false .ok r.apply []
    | none => postRsp s f o false .ok r.apply r.out

/-- The output of a command that would complete can be written: otherwise it has no effect (13 R337). -/
def outLost (s : State) (f : Nat) (who : Owner) (outRef : Option Nat) (r : Result) : Bool :=
  !r.waits && (match outRef with | some q => !(refStore s f who q r.out).2 | none => false)

/-- The output fits the reference, or the response (13 R338, R342). -/
def outFits (outRef : Option Nat) (out : List Byte) : Bool :=
  match outRef with
  | some q => decide (out.length ≤ refLen q)
  | none => decide (out.length ≤ 224)

/-- The status that goes out for a body's result: output that does not fit is LEN_EXCEEDS (13 R338), and a
command that would append an entry while the Ledger takes none is BUSY (20 R516). -/
def finalStatus (s : State) (outRef : Option Nat) (r : Result) : Status :=
  if r.status = .ok && !outFits outRef r.out then .lenExceeds
  else if ledgerBlocked s && ((r.status = .ok && !r.items.isEmpty) || refusalLogged r.status) then .busy
  else r.status

/-- The bytes that a refusal carries after the common prefix: HARNESS_CFG, HARNESS_SINK and RAW_CAPTURE report no cycle in
every response (10 R273). -/
def refusalOut (op : Nat) : List Byte := if [0x0901, 0x0902, 0x0407].contains op then leBytes 4 0 else []

/-- A command ends with a refusal (13 R342; 18 R482; 20 R512): no effect, its Ledger entry if it has one, and
the response. -/
def refuse (s : State) (f : Nat) (who : Owner) (o : Outst) (st : Status) (obj : Nat × Nat) : State :=
  let s := if st = .nvTempInhibit then nvInhibited s else s
  let s := if refusalLogged st then
      ledgerAppend s (fromFn f who) o.accept { objType := obj.1, objId := obj.2, action := o.opcode, status := st.code }
    else s
  postRsp s f o false st 0 (refusalOut o.opcode)

/-- The end of a command: its effect, Ledger entries, output and response (13 R342, R343). `s` is the state
in which the frame was taken. -/
def finish (s : State) (f : Nat) (who : Owner) (o : Outst) (outRef : Option Nat) (r : Result) : State :=
  let st := finalStatus s outRef r
  if st = .ok then
    if outLost s f who outRef r then
      refuse (match outRef with | some q => (refStore s f who q r.out).1 | none => s) f who o .refFault r.obj
    else complete f who o outRef r
  else refuse (if r.status = .ok then s else r.next) f who o st r.obj

/-- The record of a command accepted in state `s` (13 R339). -/
def outstOf (c : Frame) (s : State) : Outst :=
  { tag := fld c.header.toNat 16 16, opcode := fld c.header.toNat 0 16, part := fld c.header.toNat 40 4
    accept := s.st, outRef := none, resp := none }

/-- A refusal before acceptance: ACCEPT_ST 0 (13 R336, R341, R342, R331; 12 R315). -/
def refuseEarly (c : Frame) (s : State) (st : Status) : State :=
  let f := c.func.val
  let who := (fnPart s f).getD {}
  postRsp (if st = .partDenied && !ledgerBlocked s then
      ledgerAppend s (fromFn f who) s.st { objType := 0, objId := 0, action := fld c.header.toNat 0 16, status := st.code }
    else s) f { outstOf c s with accept := 0 } (st == .tagDup) st 0 (refusalOut (fld c.header.toNat 0 16))

/-- The checks before acceptance, in order (13 R336, R341, R331; 12 R315). -/
def earlyFail (i : CmdInfo) (c : Frame) (s : State) : Option Status :=
  let f := c.func.val
  let h := c.header.toNat
  firstFail
    [(badHeader h (fld h 32 8), .badFrame),
     ((s.fn f).outst.any (fun x => x.tag == fld h 16 16), .tagDup),
     (((fnPart s f).isNone && !i.unbound) || fld h 40 4 != ((fnPart s f).getD {}).part, .partDenied),
     (s.gaf.state == .recovery && !i.inRec, .recoveryOnly),
     (s.gaf.state == .sealed && !i.inSealed, .sealed)]

/-- The payload bytes in use (13 R335). -/
def payloadOf (c : Frame) : List Byte := (c.payload ++ List.replicate 240 0).take (fld c.header.toNat 32 8)

/-- The input and output references of a frame (13 R335, R337). -/
def inRefOf (c : Frame) : Option Nat := if bit c.header.toNat 48 then some (leNat ((payloadOf c).take 16)) else none
def outRefOf (c : Frame) : Option Nat :=
  if bit c.header.toNat 50 then some (leNat (((payloadOf c).drop 224).take 16)) else none

/-- The checks of a frame's references (13 R337), the input reference first. -/
def refsFail (c : Frame) (s : State) : Option Status :=
  let who := (fnPart s c.func).getD {}
  match (inRefOf c).bind (refFail s c.func who) with
  | some st => some st
  | none => (outRefOf c).bind (refFail s c.func who)

/-- What a command's body reads, of the frame and the referenced bytes `rb` (13 R335, R338). -/
def callOf (i : CmdInfo) (c : Frame) (s : State) (rb : List Byte) : Call :=
  let h := c.header.toNat
  let inl := if bit h 50 then (payloadOf c).take 224 else payloadOf c
  { func := c.func.val, who := (fnPart s c.func).getD {}, accept := s.st, tag := fld h 16 16
    clear := bit h 49, isRef := bit h 48
    blk := if bit h 48 then (if i.inlineF then leNat ((inl.drop 16).take 16) else leNat rb)
           else if i.inlineF then leNat (inl.take 16) else leNat inl
    data := if bit h 48 then rb else if i.inlineF then inl.drop 16 else inl }

/-- The bytes of the input reference, fetched; without one, none are read (13 R337). -/
def fetchRef (c : Frame) (s : State) : State × Option (List Byte) :=
  match inRefOf c with
  | some r => refFetch s c ((fnPart s c.func).getD {}) r
  | none => (s, some [])

/-- What becomes of a frame offered as the command of `i` (13 R335 to R344, R349): the final state, when no
body runs; or the state and the call that the body runs on. A frame of another opcode is another command;
one that Nirdin cannot take now waits in MB_CMD (`offer`). -/
def acceptFrame (i : CmdInfo) (c : Frame) (s : State) : State × Option Call :=
  let f := c.func.val
  if fld c.header.toNat 0 16 ≠ i.op || (!barOpen s f && ringOcc (s.fn f).cmdPi (s.fn f).cmdCi == 0) then (s, none)
  else
    let t := offer s c
    let s := t.1
    let who := (fnPart s f).getD {}
    if !t.2 then (s, none)
    else match earlyFail i c s with
      | some st => (refuseEarly c s st, none)
      | none =>
        if i.pf0 && f != 0 then (finish s f who (outstOf c s) none (deny s .partDenied), none)
        else match refsFail c s with
          | some st => (finish s f who (outstOf c s) none (deny s st), none)
          | none =>
            match fetchRef c s with
            | (s, none) => (finish s f who (outstOf c s) none (deny s .refFault), none)
            | (s, some rb) => (s, some (callOf i c s rb))

/-- Serve the frame `c` as the command of `i` with the body `body`. -/
def serve (i : CmdInfo) (c : Frame) (s : State) (body : Call → State → Result) : State :=
  match acceptFrame i c s with
  | (t, none) => t
  | (t, some k) => finish t k.func k.who (outstOf c t) (outRefOf c) (body k t)

/-- Answer a command whose response waited (13 R343); a halted Gaffer answers nothing (R328). INTERNAL enters the Ledger (R350;
20 R512). Output that does not fit its reference is LEN_EXCEEDS (R338), and one that its reference does not take REF_FAULT,
though the effect has occurred (R316, R337; DEDUCED, log 129). -/
def answer (s : State) (f tag : Nat) (st : Status) (apply : Nat) (out : List Byte) (items : List LedgerItem) : State :=
  if s.gaf.state = .halted then s
  else match (s.fn f).outst.find? (fun o => o.tag == tag && o.resp.isNone) with
  | none => s
  | some o =>
    let who := (fnPart s f).getD {}
    let s := s.modFn f (fun x => { x with outst := x.outst.filter (fun y => !(y.tag == tag && y.resp.isNone)) })
    let s := if st = .ok then logItems s (fromFn f who) (if apply = 0 then s.st else apply) o.opcode items
      else if refusalLogged st then
        ledgerAppend s (fromFn f who) o.accept { objType := 0, objId := 0, action := o.opcode, status := st.code }
      else if st = .internal then ledgerNote s fromNirdin 0x22 o.opcode 0x800A
      else s
    match o.outRef with
    | some q =>
      if st ≠ .ok then postRsp s f o false st apply []
      else if !outFits (some q.toNat) out then postRsp s f o false .lenExceeds apply []
      else
        let w := refStore s f who q.toNat out
        postRsp w.1 f o false (if w.2 then st else .refFault) apply []
    | none => postRsp s f o false st apply (if st = .ok then out else [])

/-! ### Status commands (13 R344) -/

/-- A status command's checks on its request image: with CLEAR = 0 every field but the identifying ones
(`idBits` low bits) is 0; with CLEAR = 1 every 16-bit counter holds 0x0000 or 0xFFFF. -/
def statusReqBad (c : Call) (idBits size : Nat) (m : FlagMap) : Bool :=
  if c.clear then !maskOk m c.blk else fld c.blk idBits (size - idBits) != 0

end Sys2Proof.Machine
end

