-- ==== Sys2Proof/Machine/Host.lean ====
section
/-! DEFINITION. The host's direct paths: mailbox registers, BAR2, doorbells, interrupt status, MSI-X,
configuration space (12 R314 to R324, 13 R333, R334, 11 R291, R292, 23 R565 to R569, 02 R45). -/

namespace Sys2Proof.Machine

/-- The mailbox error of R334. -/
def mberr (s : State) (f : Nat) : State := s.modFn f (fun x => { x with mberr := flagRaise s.now x.mberr })

/-- A write of MB_CMD_PI (13 R334): back, or beyond an occupancy of 16, is ignored with MBERR. -/
def cmdPiWrite (s : State) (f v : Nat) : State :=
  let x := s.fn f
  if ringOcc x.cmdPi x.cmdCi + ringOcc v x.cmdPi ≤ 16 then s.setFn f { x with cmdPi := v }
  else mberr s f

/-- A write of a host-driven consumer index (13 R334, R339): beyond PI is ignored with MBERR. -/
def ciWrite (s : State) (f : Nat) (r : HostRing) (v : Nat) : State :=
  let x := s.fn f
  match r with
  | .rsp =>
    let d := ringOcc v x.rspCi
    if d ≤ ringOcc x.rspPi x.rspCi then
      s.setFn f { x with rspCi := v, outst := x.outst.filter (fun o =>
        o.resp.all (fun i => decide (d ≤ ringOcc i x.rspCi))) }
    else mberr s f
  | .evt => if ringOcc v x.evtCi ≤ ringOcc x.evtPi x.evtCi then s.setFn f { x with evtCi := v } else mberr s f
  | .aud => if ringOcc v x.audCi ≤ ringOcc x.audPi x.audCi then s.setFn f { x with audCi := v } else mberr s f

/-- An access that R319 or R321 reports through AER. -/
def aer (s : State) (f : Nat) (e : AerError) : State := s.send (.aer f e)

/-- The Unsupported Request of R319. -/
def unsupported (s : State) (f : Nat) : State := aer s f .unsupported

/-- What is done with a write that does not arrive sound: it is discarded and reported (12 R319, R321); none: it is
served. An ECRC error is found only where the host has enabled the check. -/
def tlpFault (s : State) (f : Nat) : Tlp → Option AerError
  | .sound => none
  | .poisoned => some .poisoned
  | .ecrc => if (s.fn f).ecrcCheck then some .ecrc else none

/-- Slot `i` of MB_CMD lies between CI and PI (13 R334). -/
def slotPending (x : Fn) (i : Nat) : Bool :=
  (i + 16 - x.cmdCi % 16) % 16 < ringOcc x.cmdPi x.cmdCi

/-- A write into a frame slot (13 R334, 23 R566): an aligned 4- or 8-byte access (12 R319). -/
def frameWrite (s : State) (f : Nat) (r : MbRing) (off : Nat) (d : List Byte) : State :=
  let size := match r with | .cmd => 0x1000 | .rsp => 0x1000 | .evt => 0x4000 | .aud => 0x4000
  if (d.length != 4 && d.length != 8) || off % d.length != 0 || decide (off + d.length > size) then unsupported s f
  else match r with
    | .cmd =>
      if slotPending (s.fn f) (off / 256) then mberr s f
      else s.modFn f (fun x => { x with mbox := writeBytes x.mbox (0x10000 + off) d })
    | _ => mberr s f

/-- No quadrant PLL is locked: none is while REFCLK is absent (02 R42, R45). -/
def coarse (s : State) : Bool := !s.time.refclk || (List.range 4).all (fun q => !(s.quad q).pll)

/-- The ST that ST_NOW_LO reads (02 R45). -/
def readSt (s : State) : Nat := if coarse s then s.st / slowSamples * slowSamples else s.st

/-- A read of ST_NOW_LO latches the upper half and wall time for its function (02 R45, 16 R438). -/
def stLatch (s : State) (f : Nat) : State :=
  let st := readSt s
  let w := wallAt s.wall st
  s.modFn f (fun x => { x with
    stHi := fld st 32 32
    wallFx := pack [(w, 16), (b2n s.wall.valid, 1), (s.wall.dom, 1)]
    wallLo := fld w 16 32, wallHi := fld w 48 32 })

/-- BAR2's internal address (12 R320). -/
def bar2Addr (s : State) (off : Nat) : Nat := s.bar2 + off

/-- The BAR2 window holds a range and serves it (12 R320, 17 R456). -/
def bar2Ok (s : State) (off n : Nat) : Bool :=
  inDdr s (bar2Addr s off) n && chanActive s (chanOf (bar2Addr s off))

/-- The size of BAR2 (12 R311, R318). -/
def bar2Size (s : State) : Nat := 2 ^ (30 + (s.fn 0).barSize)

/-- Words that a range touches. -/
def wordsOf (a n : Nat) : List Nat := (List.range ((a + n + 7) / 8 - a / 8)).map (fun i => a / 8 * 8 + 8 * i)

/-- DENY of PF0 (12 R320, R324). -/
def denyHit (s : State) : State := s.modFn 0 (fun x => { x with deny := flagRaise s.now x.deny })

def bar2Read (s : State) (off n : Nat) : State :=
  let a := bar2Addr s off
  if !bar2Ok s off n then s.send (.readUr 0)
  else if !ddrMayChange s { part := 0, secure := true } a n then
    (denyHit s).send (.readData 0 (List.replicate n 0) [])
  else
    let h := takeHeader s 0 .pcie a
    if h.2 then h.1.send (.readData 0 (List.replicate n 0) (wordsOf a n))
    else
      let x := bitmapFixAll h.1 a n
      let r := ddrRead x.1 a n
      (memEvents x.1 0 .pcie (x.2 ++ r.2.2)).send (.readData 0 r.1 r.2.1)

/-- A poisoned write stores the poison pattern; one whose interconnect header is lost has no effect (01 R28; 12 R320,
R321). -/
def bar2Write (s : State) (off : Nat) (d : List Byte) (tlp : Tlp) : State :=
  let a := bar2Addr s off
  if tlpFault s 0 tlp = some .ecrc then aer s 0 .ecrc
  else if !bar2Ok s off d.length then unsupported s 0
  else if !ddrMayChange s { part := 0, secure := true } a d.length then denyHit s
  else
    let h := takeHeader s 0 .pcie a
    let s := if tlp = .poisoned then aer h.1 0 .poisoned else h.1
    if h.2 then s
    else
      let w := ddrWrite s a d
      let s := memEvents w.1 0 .pcie w.2
      if tlp = .poisoned then poisonWords s (wordsOf a d.length) else s

/-! ### Doorbells (11 R291, R292, R295) -/

/-- Which side a doorbell acts on: `some true` the producer, `some false` the consumer; none: refused. -/
def doorbellSide (s : State) (n : Nat) (side : Bool) : Option Bool :=
  let dp := deviceProduces s n
  let dc := deviceConsumes s n
  if dp && dc then none
  else if !dp && !dc then some (!side)
  else if side then none
  else some dc

/-- The DETAIL of a refused doorbell; none: accepted (11 R292, R305). -/
def doorbellFault (s : State) (f n : Nat) (wide : Bool) (v : Nat) : Option Nat :=
  let p := s.spool n
  if !wide || decide (v ≥ 2 ^ 28) then some 2
  else if !spoolLive p then some 3
  else if f ≠ 0 && (match fnPart s f with | some o => o.part != p.owner | none => true) then some 4
  else match doorbellSide s n (bit v 27) with
    | none => some 2
    | some producer =>
      let idx := fld v 0 25
      let bad := if producer then decide ((idx + idxMod - p.pi) % idxMod > ringSize p - occupancy p)
        else decide ((idx + idxMod - p.ci) % idxMod > occupancy p)
      if !bit v 26 && bad then some 1
      else if producer && (p.order || p.resize.isSome) then some 5
      else none

/-- The notify condition holds at the moment of rearming (11 R295). -/
def notifyHolds (s : State) (n : Nat) : Bool :=
  let p := s.spool n
  match p.notify with
  | 2 => if deviceProduces s n || !deviceConsumes s n then decide (p.thresh ≤ occupancy p)
         else decide (occupancy p ≤ p.thresh)
  | 3 => occupancy p == 0
  | _ => false

/-- REARM (11 R295). -/
def rearm (s : State) (n : Nat) : State :=
  let p := s.spool n
  if p.irqEn && notifyHolds s n then spoolVector (s.modSpool n (fun q => { q with armed := false })) p
  else s.modSpool n (fun q => { q with armed := true })

/-- A doorbell write (11 R291, R292). -/
def doorbell (s : State) (f n : Nat) (wide : Bool) (v : Nat) : State :=
  let s := readDesc s n
  match doorbellFault s f n wide v with
  | some d =>
    let s := s.modSpool n (fun q => { q with flags := hit s.now q.flags 25 })
    errRecord s (s.spool n).owner (spoolRecord 2 n d s.st v)
  | none =>
    let o := occupancy (s.spool n)
    let s := if bit v 26 then s
      else if doorbellSide s n (bit v 27) = some true then
        notify (s.modSpool n (fun q => { q with pi := fld v 0 25 })) n o
      else notify (s.modSpool n (fun q => { q with ci := fld v 0 25 })) n o
    if bit v 25 then rearm s n else s

/-! ### Registers (23 R565 to R567) -/

/-- A 16-bit counter field of a write: 0x0000 clears (23 R567). -/
def cntField (v : Nat) (f : Flag) : Flag := if v % 65536 = 0 then { f with cnt := 0 } else f

/-- IC n is assigned to function `f` (12 R323, R324). -/
def icAssigned (s : State) (f n : Nat) : Bool := (tget ({} : IcCfg) s.ics n).func == f

/-- A 32-bit write at an aligned offset of BAR0; none: a reserved offset (23 R566). -/
def regWrite32 (s : State) (f off v : Nat) : Option State :=
  if off = 0x0 then some (s.modFn f (fun x => { x with mberr := w1c s.now (bit v 16) x.mberr }))
  else if off = 0x4 then some (s.modFn f (fun x => { x with mberr := cntField v x.mberr }))
  else if off = 0x10 then some (cmdPiWrite s f (v % 65536))
  else if off = 0x1C then some (ciWrite s f .rsp (v % 65536))
  else if off = 0x24 then some (ciWrite s f .evt (v % 65536))
  else if off = 0x2C then some (ciWrite s f .aud (v % 65536))
  else if off = 0x14 || off = 0x18 || off = 0x20 || off = 0x28 then some s
  else if off = 0x100 then
    some (if f = 0 then s.modFn f (fun x => { x with deny := cntField (v / 65536) (w1c s.now (bit v 3) x.deny) }) else s)
  else if off = 0x108 || off = 0x10C then
    let k := if off = 0x108 then 0 else 32
    some (s.modFn f (fun x => { x with
      ic := (List.range 32).foldl (fun g i => if bit v i && icAssigned s f (k + i) then tmod {} g (k + i) (w1c s.now true) else g)
        x.ic }))
  else if 0x200 ≤ off && decide (off < 0x280) then
    let n := (off - 0x200) / 2
    some (s.modFn f (fun x => { x with
      ic := tmod {} (tmod {} x.ic n (cntField v)) (n + 1) (cntField (v / 65536)) }))
  else if off = 0x300 || off = 0x304 || off = 0x30C || off = 0x310 || off = 0x314 then some s
  else if off = 0x308 then
    some (if f = 0 then { s with time := { s.time with
      flags := [4, 5, 6].foldl (fun g b => tmod {} g b (w1c s.now (bit v b))) s.time.flags } } else s)
  else if off = 0x318 then
    some (if f = 0 then { s with time := { s.time with
      flags := tmod {} (tmod {} s.time.flags 6 (cntField v)) 5 (cntField (v / 65536)) } } else s)
  else if off = 0x31C then
    some (if f = 0 then { s with time := { s.time with flags := tmod {} s.time.flags 4 (cntField v) } } else s)
  else none

/-- Set BAR2_BASE: bits [47:30] (12 R320). -/
def setBar2 (s : State) (v : Nat) : State := { s with bar2 := fld v 30 18 * 2 ^ 30 }

/-- A write access to a register of BAR0 (12 R319, 23 R565, R566). -/
def registerWrite (s : State) (f off width v : Nat) (tlp : Tlp) : State :=
  match tlpFault s f tlp with
  | some e => aer s f e
  | none =>
  if (width != 4 && width != 8) || off % width != 0 then
    if 0x80000 ≤ off && decide (off < 0x100000) then doorbell s f ((off - 0x80000) / 8) false v
    else unsupported s f
  else if 0x80000 ≤ off && decide (off < 0x100000) then doorbell s f ((off - 0x80000) / 8) (width == 8) v
  else if 0x10000 ≤ off && decide (off < 0x11000) then frameWrite s f .cmd (off - 0x10000) (leBytes width v)
  else if 0x11000 ≤ off && decide (off < 0x12000) then frameWrite s f .rsp (off - 0x11000) (leBytes width v)
  else if 0x14000 ≤ off && decide (off < 0x18000) then frameWrite s f .evt (off - 0x14000) (leBytes width v)
  else if 0x18000 ≤ off && decide (off < 0x1C000) then frameWrite s f .aud (off - 0x18000) (leBytes width v)
  else if off = 0x408 && f = 0 then (if width = 8 then setBar2 s v else unsupported s f)
  else if off = 0x410 && f = 0 then (if width = 8 then s else unsupported s f)
  else if width = 4 then (regWrite32 s f off (v % 2 ^ 32)).getD (unsupported s f)
  else match regWrite32 s f off (v % 2 ^ 32) with
    | none => unsupported s f
    | some s' => (regWrite32 s' f (off + 4) (v / 2 ^ 32)).getD (unsupported s f)

/-! ### BAR0 reads (12 R319, R324; 23 R565 to R569) -/

/-- The 64-bit image of a flag and its counter in a status register: flag at bit `b`, counter from bit `c`. -/
def flagAt (x : Flag) (b c : Nat) : Nat := b2n x.on * 2 ^ b + x.cnt * 2 ^ c

/-- STATE of MB_STATE (13 R334). -/
def mbCode : MbState → Nat
  | .initialising => 0 | .ready => 1 | .sealed => 2 | .recovery => 3 | .halted => 4

/-- MB_STATE (13 R334). -/
def mbStateImage (s : State) (x : Fn) : Nat :=
  mbCode s.gaf.state + s.gaf.bootStep * 2 ^ 8 + flagAt x.mberr 16 32

/-- INT_STATUS (12 R324): a message waits in MB_RSP, MB_EVT, MB_AUD; DENY of PF0. -/
def intStatus (x : Fn) : Nat :=
  pack [(b2n (x.rspPi != x.rspCi), 1), (b2n (x.evtPi != x.evtCi), 1), (b2n (x.audPi != x.audCi), 1)] + flagAt x.deny 3 16

/-- IC_STATUS: the bits of causes assigned to the function (12 R324). -/
def icStatus (s : State) (f : Nat) : Nat :=
  ((List.range 64).map (fun n => b2n (icAssigned s f n && isOn (s.fn f).ic n) * 2 ^ n)).sum

/-- STATE of TIME_STATUS (02 R45). -/
def timeCode : TimeMode → Nat
  | .free => 0 | .set => 1 | .lost => 2

/-- TIME_STATUS (02 R45). -/
def timeStatus (s : State) : Nat :=
  pack [(timeCode s.time.mode, 2), (b2n s.time.root, 1), (b2n (coarse s), 1), (b2n (isOn s.time.flags 4), 1),
    (b2n (isOn s.time.flags 5), 1), (b2n (isOn s.time.flags 6), 1), (0, 1), (s.time.gen, 8)]

/-- The counter of flag `b`. -/
def cntOf (g : Flags) (b : Nat) : Nat := (tget ({} : Flag) g b).cnt

/-- The 64-byte image of Ledger slot `i`; 0: never written (20 R517, 23 R568). -/
def ledgerSlot (s : State) (i : Nat) : Nat :=
  match s.ledger.entries.find? (fun e => e.seq % 8192 == i) with | some e => entryImage e | none => 0

/-- A 32-bit word at an aligned offset of a function's BAR0 (23 R565); none: reserved. -/
def bar0Word (s : State) (f off : Nat) : Option Nat :=
  let x := s.fn f
  if off = 0x0 || off = 0x4 then some (fld (mbStateImage s x) (8 * off) 32)
  else if off = 0x10 then some x.cmdPi
  else if off = 0x14 then some x.cmdCi
  else if off = 0x18 then some x.rspPi
  else if off = 0x1C then some x.rspCi
  else if off = 0x20 then some x.evtPi
  else if off = 0x24 then some x.evtCi
  else if off = 0x28 then some x.audPi
  else if off = 0x2C then some x.audCi
  else if off = 0x100 then some (intStatus x)
  else if off = 0x108 || off = 0x10C then some (fld (icStatus s f) (8 * (off - 0x108)) 32)
  else if 0x200 ≤ off && decide (off < 0x280) then
    some (cntOf x.ic ((off - 0x200) / 2) + cntOf x.ic ((off - 0x200) / 2 + 1) * 2 ^ 16)
  else if off = 0x300 then some (fld (readSt s) 0 32)
  else if off = 0x304 then some x.stHi
  else if off = 0x308 then some (timeStatus s)
  else if off = 0x30C then some x.wallFx
  else if off = 0x310 then some x.wallLo
  else if off = 0x314 then some x.wallHi
  else if off = 0x318 then some (cntOf s.time.flags 6 + cntOf s.time.flags 5 * 2 ^ 16)
  else if off = 0x31C then some (cntOf s.time.flags 4)
  else if off = 0x400 && f = 0 then some 0
  else if (0x10000 ≤ off && decide (off < 0x12000)) || (0x14000 ≤ off && decide (off < 0x1C000)) then
    some (leNat (readBytes x.mbox off 4))
  else if 0x80000 ≤ off && decide (off < 0x100000) then some 0
  else if f = 0 && 0x100000 ≤ off && decide (off < 0x180000) then
    some (fld (ledgerSlot s ((off - 0x100000) / 64)) (8 * (off % 64)) 32)
  else none

/-- What an aligned read of BAR0 returns; none: it completes with Unsupported Request (12 R319, 23 R566). -/
def bar0Value (s : State) (f off width : Nat) : Option Nat :=
  if (width != 4 && width != 8) || off % width != 0 then none
  else if f = 0 && (off = 0x408 || off = 0x410) then
    if width = 8 then some (if off = 0x408 then s.bar2 else headSeq s.ledger) else none
  else if width = 4 then bar0Word s f off
  else (bar0Word s f off).bind (fun lo => (bar0Word s f (off + 4)).map (fun hi => lo + hi * 2 ^ 32))

/-- A host read of BAR0: one that covers ST_NOW_LO latches first (02 R45). -/
def bar0Read (s : State) (f off width : Nat) : State :=
  let t := if off = 0x300 then stLatch s f else s
  match bar0Value t f off width with
  | some v => t.send (.readData f (leBytes width v) [])
  | none => s.send (.readUr f)

/-! ### Configuration space and MSI-X (12 R311 to R316, R322) -/

/-- Configuration requests of the host complete successfully, from 80 ms after PERST# at the latest (12 R313). -/
def configReady (s : State) : Bool := decide (s.power.perstAt + min Config.configWait 60000000 ≤ s.now)

/-- A 32-bit word of a function's configuration space, of those that R312 gives: Vendor and Device ID, Revision ID and class
code, and the Subsystem IDs that the boot read; the other words are left out (DESIGN CHOICE,
log 124). -/
def configWord (s : State) (f off : Nat) : Option Nat :=
  if off = 0x00 then some (0x1F3C + (if f = 0 then 0x7384 else 0x7385) * 2 ^ 16)
  else if off = 0x08 then some (0xB0 + 0x120000 * 2 ^ 8)
  else if off = 0x2C then some (s.gaf.read.subVendor + s.gaf.read.subsystem * 2 ^ 16)
  else none

/-- Send what was held for a function's unmasked vectors once its Bus Master Enable is 1 (12 R322). -/
def flushVectors (s : State) (f : Nat) : State :=
  let x := s.fn f
  if mayRequest s f && (f = 0 || x.bound) then
    (x.vecPend.filter (fun e => e.2 && (vectorOf x e.1).unmasked)).foldl
      (fun s e => sendVector (s.modFn f (fun y => { y with vecPend := tset false y.vecPend e.1 false })) f e.1) s
  else s

/-- A function's configuration space at its reset (12 R314). -/
def resetConfig (x : Fn) : Fn :=
  { x with
    busMaster := false, vfEnable := false, d3hot := false, payload := 0, readReq := 2, relaxed := true, tag10 := false
    ecrcGen := false, ecrcCheck := false, timeout := 0, timeoutOff := false, barSize := 4, table := [], vecPend := [] }

/-- A function's mailboxes and interrupt status at their reset (12 R314, R324; 13 R334). -/
def resetMail (x : Fn) : Fn :=
  { x with
    mbox := [], cmdPi := 0, cmdCi := 0, rspPi := 0, rspCi := 0, evtPi := 0, evtCi := 0, audPi := 0, audCi := 0
    mberr := {}, outst := [], evtSeq := 0, evtLost := 0, audSeq := 0, audLost := 0, deny := {}, ic := [] }

/-- VF Enable clear removes every VF, with its configuration space (12 R314; DEDUCED, log 130). -/
def removeVfs (s : State) : State := (List.range 16).foldl (fun s i => s.modFn (i + 1) resetConfig) s

/-- A write of a field of configuration space, or the read of a word of it. A smaller size than the function supports takes
effect as programmed, a larger one as the largest (12 R311). -/
def configField (s : State) (f : Nat) : CfgField → State
  | .busMaster on => flushVectors (s.modFn f (fun x => { x with busMaster := on })) f
  | .vfEnable on =>
    if f = 0 then
      let s := s.modFn 0 (fun x => { x with vfEnable := on })
      if on then s else removeVfs s
    else s
  | .d3hot on => s.modFn f (fun x => { x with d3hot := on })
  | .payload v => s.modFn f (fun x => { x with payload := v.val })
  | .readRequest v => s.modFn f (fun x => { x with readReq := v.val })
  | .relaxed on => s.modFn f (fun x => { x with relaxed := on })
  | .tag10 on => s.modFn f (fun x => { x with tag10 := on })
  | .ecrcGen on => s.modFn f (fun x => { x with ecrcGen := on })
  | .ecrcCheck on => s.modFn f (fun x => { x with ecrcCheck := on })
  | .timeout v off => s.modFn f (fun x => { x with timeout := v.toNat, timeoutOff := off })
  | .barSize v => if f = 0 then s.modFn 0 (fun x => { x with barSize := v.val }) else s
  | .read off => match configWord s f off.toNat with | some v => s.send (.configData f v) | none => s

/-! ### The meanings -/

def execMbCmdPiWrite (f : Fin 17) (v : BitVec 32) (s : State) : Out State :=
  .next (if barOpen s f then cmdPiWrite s f (v.toNat % 65536) else s)

def execMbCiWrite (f : Fin 17) (r : HostRing) (v : BitVec 32) (s : State) : Out State :=
  .next (if barOpen s f then ciWrite s f r (v.toNat % 65536) else s)

def execMbFrameWrite (f : Fin 17) (r : MbRing) (off : Nat) (d : List Byte) (s : State) : Out State :=
  .next (if barOpen s f then frameWrite s f r off d else s)

def execStNowLoRead (r : BarRead) (s : State) : Out State :=
  .next (if barOpen s r.func then bar0Read s r.func r.offset r.width else s)

def execBar2BaseWrite (v : BitVec 64) (s : State) : Out State :=
  .next (if barOpen s 0 then setBar2 s v.toNat else s)

/-- A request beyond BAR2 does not reach the function (12 R318). -/
def execBar2Read (off len : Nat) (s : State) : Out State :=
  .next (if barOpen s 0 && decide (off + len ≤ bar2Size s) then bar2Read s off len else s)

def execBar2Write (off : Nat) (d : List Byte) (tlp : Tlp) (s : State) : Out State :=
  .next (if barOpen s 0 && decide (off + d.length ≤ bar2Size s) then bar2Write s off d tlp else s)

def execDoorbell (f : Fin 17) (n : Fin 65536) (wide : Bool) (v : BitVec 64) (s : State) : Out State :=
  .next (if barOpen s f then doorbell s f n wide v.toNat else s)

/-- The host writes an entry of a function's MSI-X table in its BAR4 (12 R318, R322): once the vector is unmasked, one message
is sent for all that was held. -/
def execMsixUnmask (f : Fin 17) (e : VectorWrite) (s : State) : Out State :=
  .next (if barOpen s f && decide (e.vector.val < vectorCount f) then
    flushVectors (s.modFn f (fun x => { x with
      table := tset {} x.table e.vector { address := e.address.toNat, data := e.data.toNat, unmasked := !e.masked } })) f
  else s)

/-- FLR (12 R314): the function's configuration space, mailboxes, interrupt status and outstanding commands; that of PF0
removes every VF. -/
def execFlr (f : Fin 17) (s : State) : Out State :=
  .next (if fnPresent s f then
    let s := s.modFn f (fun x => resetMail (resetConfig x))
    if f.val = 0 then removeVfs s else s
  else s)

/-- A Hot Reset (12 R314): the configuration space of every function. -/
def execHotReset (s : State) : Out State :=
  .next ((List.range 17).foldl (fun s f => s.modFn f resetConfig) s)

/-- A configuration request (12 R313): none is answered while PERST# is low, and an early one is retried. -/
def execConfigWrite (f : Fin 17) (c : CfgField) (s : State) : Out State :=
  .next (if s.power.perst || !s.power.core || !fnPresent s f then s
    else if configReady s then configField s f c else s.send (.configRetry f))

/-- A JTAG write to a configuration or MRAM enters the Ledger (20 R512). -/
def execJtagWrite (ty : BitVec 8) (id : BitVec 32) (s : State) : Out State :=
  .next (ledgerNote s fromJtag ty.toNat id.toNat 0)

end Sys2Proof.Machine
end

