-- ==== Sys2Proof/Machine/Gaffer.lean ====
section
/-! DEFINITION. Identity, firmware and halts of the Gaffer, VF bindings and interrupt causes
(13 R326 to R357; 12 R317, R323). -/

namespace Sys2Proof.Machine

/-- A Ledger item of an object without digests. -/
def item (ty id : Nat) (old new : Nat := 0) : LedgerItem :=
  { objType := ty, objId := id, action := 0, oldDig := old, newDig := new }

/-- A command that completes with OK, with output `out` and no other effect. -/
def report (s : State) (out : List Byte) : Result := { status := .ok, next := s, out := out }

/-- A command that completes with OK on acceptance. -/
def done (s : State) (items : List LedgerItem) : Result := { status := .ok, next := s, items := items }

/-- A command whose effect applies at `t`. -/
def scheduled (s : State) (t : Nat) (items : List LedgerItem) : Result :=
  { status := .ok, next := s, apply := t, items := items }

/-- A command whose response waits. -/
def waiting (s : State) : Result := { status := .ok, next := s, waits := true }

/-! ### Identity (13 R351, R352) -/

def identifyOut (s : State) (f : Nat) : List Byte :=
  let o := fnPart s f
  leBytes 16 (pack [(Config.serial.toNat, 64), (0xB0, 8), (s.weave.device, 6), (0, 2), (f, 5),
    ((o.getD {}).part, 4), (b2n o.isSome, 1), (mbCode s.gaf.state, 3)])

def versionOut (s : State) : List Byte :=
  let i := s.gaf.running.getD { major := 0, minor := 0, patch := 0, ucode := 0, svn := 0, build := 0,
                                manifest := [], manHash := 0 }
  leBytes 68 (pack [(i.major, 8), (i.minor, 8), (i.patch, 16), (i.ucode, 16), (Config.romVer.toNat, 16),
    (i.svn, 16), (s.gaf.floor, 8), (b2n s.gaf.slotB, 1), (0, 7), (i.build, 64), (i.manHash, 384)])

def execIdentify (c : Frame) (s : State) : Out State :=
  .next (serve { op := 1, inSealed := true, inRec := true, unbound := true } c s fun k s =>
    report s (identifyOut s k.func))

def execVersion (c : Frame) (s : State) : Out State :=
  .next (serve { op := 2, inSealed := true, inRec := true, unbound := true } c s fun _ s => report s (versionOut s))

/-! ### Firmware (13 R353 to R356) -/

/-- An image's sections: header fields, and the message and signature of R354; none: BAD_IMAGE. -/
def parseImage (b : List Byte) : Option (Image × List Byte × List Byte) :=
  let h := leNat (b.take 128)
  let code := fld h 64 32
  let uc := fld h 96 32
  let man := fld h 128 32
  if b.length < 128 || fld h 0 16 != 1 || fld h 160 32 != 0 || fld h 256 768 != 0
      || decide (code > 786432) || man % 16 != 0 || decide (man < 16) || decide (man > 4096) || decide (uc < 2)
      || b.length != 128 + code + uc + man + 96 || decide (b.length > 4194304) then none
  else
    let ucb := (b.drop (128 + code)).take uc
    let mb := (b.drop (128 + code + uc)).take man
    some ({ major := fld h 16 8, minor := fld h 24 8, patch := fld h 32 16, svn := fld h 48 16, build := fld h 192 64
            ucode := leNat (ucb.take 2)
            manifest := (List.range (man / 16)).map (fun i => leNat ((mb.drop (16 * i)).take 16))
            manHash := beNat (sha384 mb) },
          b.take (b.length - 96), b.drop (b.length - 96))

/-- A manifest entry matches a stepping, versions and microcode (13 R356). -/
def entryMatches (i : Image) (e : Nat) : Bool :=
  fld e 0 8 == 0xB0 && fld e 8 8 == i.major && fld e 16 8 == i.minor && fld e 24 16 == i.ucode

/-- The combination of the image's own manifest is tested: the base of R356 and R357. -/
def selfTested (i : Image) : Bool := i.manifest.any (entryMatches i)

/-- The bit of a format or protocol version is set in a matching entry (13 R356): `lo` is the field. -/
def formatTested (i : Image) (lo v : Nat) : Bool :=
  decide (v < 16) && i.manifest.any (fun e => entryMatches i e && bit e (lo + v))

/-- The checks of R355, in order. -/
def imageFail (s : State) (b : List Byte) : Option Status :=
  match parseImage b with
  | none => some .badImage
  | some (i, msg, sig) =>
    if !ecdsaOk s.gaf.imageKey.1 s.gaf.imageKey.2 msg sig then some .sigFail
    else if i.svn < s.gaf.floor then some .rollback
    else none

def fwObj : Nat × Nat := (0x22, 0)

/-- The block of FW_UPDATE has only its ACTION (13 R353). -/
def fwBlock (k : Call) (action : Nat) : Bool := k.blk != action

/-- The image in the inactive slot, and in the active one. -/
def inactive (g : Gaffer) : Option Image := if g.activeB then g.slotA else g.slotBImg
def active (g : Gaffer) : Option Image := if g.activeB then g.slotBImg else g.slotA

def buildOf (i : Option Image) : Nat := match i with | some x => x.build | none => 0

def fwStageBody (k : Call) (s : State) : Result :=
  let img := parseImage k.data
  checked s fwObj
    [(fwBlock k 0 || !k.isRef, .badParam), (s.gaf.staging.isSome, .busy),
     (imageFail s k.data == some .badImage, .badImage), (imageFail s k.data == some .sigFail, .sigFail),
     (imageFail s k.data == some .rollback, .rollback),
     (!(match img with | some (i, _) => selfTested i | none => false), .incompatible)]
    (match img with
     | some (i, _) => waiting { s with gaf := { s.gaf with staging := some (k.func, k.tag, i), staged := false } }
     | none => deny s .badImage)

def execFwStage (c : Frame) (s : State) : Out State :=
  .next (serve { op := 4, inSealed := true, inRec := true, pf0 := true, inlineF := true } c s fwStageBody)

/-- The write into the inactive slot ends, and the slot reads back or not (13 R353); a halted Gaffer writes none (R328). A slot
that does not read back has changed too, so the Ledger has its entry. -/
def execFwStageDone (verified : Bool) (s : State) : Out State :=
  .next (if s.gaf.state = .halted then s else match s.gaf.staging with
    | none => s
    | some (f, tag, i) =>
      let old := buildOf (inactive s.gaf)
      let put (x : Option Image) : Gaffer :=
        if s.gaf.activeB then { s.gaf with slotA := x, staging := none, staged := x.isSome }
        else { s.gaf with slotBImg := x, staging := none, staged := x.isSome }
      if verified then answer { s with gaf := put (some i) } f tag .ok 0 [] [item 0x22 0 old i.build]
      else
        answer (ledgerAppend { s with gaf := put none } (fromFn f ((fnPart s f).getD {})) s.st
            { objType := 0x22, objId := 0, action := 4, status := Status.nvFail.code, oldDig := old })
          f tag .nvFail 0 [] [])

def fwActivateBody (k : Call) (s : State) : Result :=
  checked s fwObj [(fwBlock k 1, .badParam), (!s.gaf.staged, .busy)]
    (done { s with gaf := { s.gaf with activeB := !s.gaf.activeB, staged := false } }
      [item 0x22 0 (buildOf (active s.gaf)) (buildOf (inactive s.gaf))])

def execFwActivate (c : Frame) (s : State) : Out State :=
  .next (serve { op := 4, inSealed := true, inRec := true, pf0 := true, inlineF := true } c s fwActivateBody)

/-- RUN_RAM (13 R331, R353): the boot continues at step 4 from Gaffer SRAM. -/
def fwRunRamBody (k : Call) (s : State) : Result :=
  checked s fwObj
    [(fwBlock k 2 || !k.isRef, .badParam), (s.gaf.state != .recovery, .busy),
     (imageFail s k.data == some .badImage, .badImage), (imageFail s k.data == some .sigFail, .sigFail),
     (imageFail s k.data == some .rollback, .rollback)]
    (match parseImage k.data with
     | some (i, _) => done { s with gaf := { s.gaf with
         state := .initialising, booting := true, bootStep := 4, stepAt := s.now, running := some i, slotB := true
         fromRam := true } }
         [item 0x22 0 (buildOf s.gaf.running) i.build]
     | none => deny s .badImage)

def execFwRunRam (c : Frame) (s : State) : Out State :=
  .next (serve { op := 4, inSealed := true, inRec := true, pf0 := true, inlineF := true } c s fwRunRamBody)

/-- SVN of the running image; the boot ROM's is 0. -/
def runningSvn (s : State) : Nat := match s.gaf.running with | some i => i.svn | none => 0

def fwCommitFloorBody (k : Call) (s : State) : Result :=
  checked s fwObj
    [(fwBlock k 3, .badParam), (decide (runningSvn s ≤ s.gaf.floor) || decide (runningSvn s > 64), .badParam)]
    (done { s with gaf := { s.gaf with floor := runningSvn s } }
      [item 0x22 0 (buildOf s.gaf.running) (buildOf s.gaf.running)])

def execFwCommitFloor (c : Frame) (s : State) : Out State :=
  .next (serve { op := 4, inSealed := true, inRec := true, pf0 := true, inlineF := true } c s fwCommitFloorBody)

/-! ### Halts (13 R328) -/

/-- A halt: HALTED, the halt record, and vector 1 of every function with a partition, once. -/
def halt (s : State) (cause : Nat) : State :=
  if s.gaf.state = .halted || !s.power.core then s
  else (List.range 17).foldl (fun s f => if (fnPart s f).isSome then msix s f 1 else s)
    { s with gaf := { s.gaf with state := .halted, booting := false, halt := some (cause, s.st) } }

def haltNum : HaltCause → Nat
  | .lockstep => 0 | .sramWord => 1 | .watchdog => 2

def execGafferHalt (x : HaltCause) (s : State) : Out State := .next (halt s (haltNum x))

def execWatchdogExpiry (s : State) : Out State := .next (halt s (haltNum .watchdog))

/-! ### VF bindings (12 R317) -/

def vfObj (k : Call) : Nat × Nat := (0x29, fld k.blk 0 5)

/-- The checks common to both forms of VF_BIND. -/
def vfBad (k : Call) : Bool :=
  fld k.blk 0 5 == 0 || decide (fld k.blk 0 5 > 16) || (bit k.blk 5 && fld k.blk 6 4 == 0) || fld k.blk 11 53 != 0

def vfBindBody (k : Call) (s : State) : Result :=
  let vf := fld k.blk 0 5
  let p := fld k.blk 6 4
  let st := storeImage s 0x0B01 0x29 vf 8 vf (k.blk % 2 ^ 11)
  checked s (vfObj k)
    [(vfBad k || !bit k.blk 5, .badParam), ((s.fn vf).bound || (fnOfPart s p).isSome, .busy)]
    (done (st.1.modFn vf (fun x => { x with bound := true, part := p, secure := bit k.blk 10 })) [st.2])

def execVfBind (c : Frame) (s : State) : Out State :=
  .next (serve { op := 0x0B01, pf0 := true } c s vfBindBody)

def vfUnbindBody (k : Call) (s : State) : Result :=
  let vf := fld k.blk 0 5
  let st := storeImage s 0x0B01 0x29 vf 8 vf vf
  checked s (vfObj k) [(vfBad k || bit k.blk 5, .badParam), ((s.fn vf).bound && (s.fn vf).busMaster, .busy)]
    (if (s.fn vf).bound then
      done (st.1.modFn vf (fun x => { x with bound := false, part := 0, secure := false })) [st.2]
     else done s [])

def execVfUnbind (c : Frame) (s : State) : Out State :=
  .next (serve { op := 0x0B01, pf0 := true } c s vfUnbindBody)

/-! ### Interrupt causes (12 R323) -/

def sinkOf (s : State) (v : Nat) : Sink := tget {} s.harness.sinks v

def icCfgBody (k : Call) (s : State) : Result :=
  let n := fld k.blk 0 6
  let f := fld k.blk 8 5
  let v := fld k.blk 16 11
  let cur : IcCfg := tget {} s.ics n
  let st := storeImage s 0x0B02 oCause n 8 n (k.blk % 2 ^ 27)
  checked s (oCause, n)
    [(fld k.blk 7 1 != 0 || fld k.blk 13 3 != 0 || fld k.blk 27 37 != 0 || decide (f > 16)
        || decide (v ≥ vectorCount f) || (fnPart s f).isNone, .badParam),
     (k.func != 0 && (cur.func != k.func || f != k.func), .partDenied),
     (f != cur.func && ((sinkOf s (40 + n)).en || s.staged.any (fun x => x.kind == .harnessSink && x.obj == 40 + n && bit x.blk 8)), .busy)]
    (done { st.1 with ics := tset {} st.1.ics n { en := bit k.blk 6, func := f, vector := v } } [st.2])

def execIcCfg (c : Frame) (s : State) : Out State := .next (serve { op := 0x0B02 } c s icCfgBody)

end Sys2Proof.Machine
end

