-- ==== Sys2Proof/Machine/Partition.lean ====
section
/-! DEFINITION. Reading the Ledger, partitions and key slots (20 R517, R518, R522 to R524). -/

namespace Sys2Proof.Machine

/-- An MRAM write of the present tick is refused, and how (18 R482, 13 R350). -/
def nvRefusal (s : State) : List (Bool × Status) :=
  [(nvInhibit s, .nvTempInhibit), (!Config.nvVerifies s.now, .nvFail)]

/-! ### LEDGER_READ (20 R518) -/

def oldestSeq (l : Ledger) : Nat := match l.entries.getLast? with | some e => e.seq | none => 0

/-- An entry as a reader of partition `p` receives it: PF0 in full; a VF its own, others redacted. -/
def readEntry (f p : Nat) (e : Entry) : Nat :=
  if f = 0 || e.part == p || e.owner == some p then entryImage e
  else pack [(e.seq, 64), (e.st, 64), (0, 64), (0, 1), (7, 3)] + e.chain * 2 ^ 448

def ledgerHead (l : Ledger) : Nat :=
  pack [(headSeq l, 64), (oldestSeq l, 64), (l.spill, 64), (b2n l.retain, 1), (0, 15), (l.lossCnt, 16),
        (l.uncommitted, 16), (0, 16)]

/-- The output of LEDGER_READ: the head under RETAIN as the command leaves it, then the entries asked for (R518). -/
def ledgerReadOut (k : Call) (s : State) (l : Ledger) : List Byte :=
  leBytes 32 (ledgerHead l) ++ (List.range (fld k.blk 64 14)).flatMap (fun i =>
    match entryAt s.ledger (fld k.blk 0 64 + i) with
    | some e => leBytes 64 (readEntry k.func k.who.part e)
    | none => List.replicate 64 0)

def ledgerReadBody (k : Call) (s : State) : Result :=
  let first := fld k.blk 0 64
  let n := fld k.blk 64 14
  let set := bit k.blk 78
  let l := if set then { s.ledger with retain := bit k.blk 79 } else s.ledger
  let changed := set && (bit k.blk 79 != s.ledger.retain)
  checked s (0, 0)
    ([(fld k.blk 80 48 != 0 || decide (n > 8192), .badParam), (set && k.func != 0, .partDenied),
      (decide (first < oldestSeq s.ledger) || decide (first > headSeq s.ledger), .badParam),
      (decide (first + n > headSeq s.ledger + 1), .lenExceeds)]
      ++ (if changed then nvRefusal s else []))
    { status := .ok, next := { s with ledger := l }, out := ledgerReadOut k s l
      items := if changed then [item 0 0] else [] }

def execLedgerRead (c : Frame) (s : State) : Out State :=
  .next (serve { op := 0x1202, inSealed := true } c s ledgerReadBody)

/-! ### PART_CFG (20 R522) -/

def partObj (k : Call) : Nat × Nat := (0x20, fld k.blk 0 4)

def partCfgBody (k : Call) (s : State) : Result :=
  let p := fld k.blk 0 4
  let st := storeImage s 0x1203 0x20 p 16 (p + if p = 0 then 0xF0 else 0) (k.blk % 2 ^ 128)
  checked s (partObj k) ([(fld k.blk 8 56 != 0, .badParam)] ++ nvRefusal s)
    (done { st.1 with parts := tset {} st.1.parts p { keymask := fld k.blk 4 4, label := fld k.blk 64 64 } } [st.2])

def execPartCfg (c : Frame) (s : State) : Out State := .next (serve { op := 0x1203, pf0 := true } c s partCfgBody)

/-! ### Key slots (20 R523, R524) -/

/-- A 48-byte octet string field as an integer (FIPS 186-5). -/
def octets (blk lo : Nat) : Nat := beNat (leBytes 48 (fld blk lo 384))

def keyX (v : Nat) : Nat := v % 2 ^ 384
def keyY (v : Nat) : Nat := v / 2 ^ 384
def keyAt (s : State) (i : Nat) : Nat := tget 0 s.keys i

def keyImage (i v : Nat) : Nat :=
  i + leNat (leBytes 48 (keyX v)).reverse * 2 ^ 64 + leNat (leBytes 48 (keyY v)).reverse * 2 ^ 448

/-- Write a key slot, with its Ledger entry. -/
def setKey (s : State) (i v : Nat) : Result :=
  let st := storeImage s 0x1205 0x21 i 104 i (keyImage i v)
  done { st.1 with keys := tset 0 st.1.keys i v } [st.2]

def keyInstallBody (k : Call) (s : State) : Result :=
  let i := fld k.blk 0 2
  let x := octets k.blk 64
  let y := octets k.blk 448
  checked s (0x21, i)
    ([(fld k.blk 2 2 != 0 || fld k.blk 4 60 != 0, .badParam), (keyAt s i != 0, .busy), (!onCurve x y, .badParam)]
      ++ nvRefusal s)
    (setKey s i (x + 2 ^ 384 * y))

def execKeyInstall (c : Frame) (s : State) : Out State :=
  .next (serve { op := 0x1205, pf0 := true } c s keyInstallBody)

def keyRevokeBody (k : Call) (s : State) : Result :=
  let i := fld k.blk 0 2
  checked s (0x21, i)
    ([(fld k.blk 2 2 != 1 || fld k.blk 4 60 != 0, .badParam), (keyAt s i == 0, .badParam)] ++ nvRefusal s)
    (setKey s i 0)

def execKeyRevoke (c : Frame) (s : State) : Out State :=
  .next (serve { op := 0x1205, pf0 := true } c s keyRevokeBody)

def keyStatusOut (s : State) : List Byte :=
  (List.range 4).flatMap fun i =>
    let v := keyAt s i
    if v = 0 then List.replicate 16 0
    else leBytes 8 1 ++ (sha384 ((leBytes 48 (keyX v)).reverse ++ (leBytes 48 (keyY v)).reverse)).take 8

def execKeyStatus (c : Frame) (s : State) : Out State :=
  .next (serve { op := 0x1206 } c s fun k s =>
    checked s (0, 0) [(k.blk != 0, .badParam)] (report s (keyStatusOut s)))

end Sys2Proof.Machine
end

