-- ==== Sys2Proof/Machine/Spools.lean ====
section
/-! DEFINITION. The Spool commands and events (11 R285 to R310, R572). -/

namespace Sys2Proof.Machine

/-! ### Ring memory (11 R289) -/

/-- Pages of 4 KiB of a ring. -/
def pagesOf (bytes : Nat) : Nat := (bytes + 4095) / 4096

/-- Pages in use: (first page, pages), of rings and of rings that a drain will move to. -/
def ringRuns (s : State) : List (Nat × Nat) :=
  s.spools.flatMap (fun e =>
    (if e.2.valid && e.2.target == 2 then
       [((e.2.base - ringBase) / 4096, pagesOf (entryBytes e.2 * ringSize e.2))] else [])
    ++ (match e.2.resize with
        | some r => if r.target == 2 then
            [((r.base - ringBase) / 4096, pagesOf (entryBytes e.2 * 2 ^ r.log2n))] else []
        | none => []))

def pageFree (runs : List (Nat × Nat)) (p n : Nat) : Bool :=
  decide (p + n ≤ 1024) && runs.all (fun r => decide (p + n ≤ r.1) || decide (r.1 + r.2 ≤ p))

/-- The lowest free run of `n` pages (DESIGN CHOICE, log 17: the spec does not say which run is taken). -/
def findPages (s : State) (n : Nat) : Option Nat :=
  ((0 :: (ringRuns s).map (fun r => r.1 + r.2)).filter (fun p => pageFree (ringRuns s) p n)).min?

/-! ### Geometry (11 R288) -/

/-- The rows of R288 on a ring's place: `bytes` long at `base` in `target`. -/
def placeFail (s : State) (who : Owner) (target base bytes : Nat) : List (Bool × Status) :=
  [(target != 2 && base % min bytes 4096 != 0, .badParam),
   (target == 0 && decide (base + bytes > 2 ^ 64), .lenExceeds),
   (target == 1 && (decide (base ≥ 2 ^ 48) || !inDdr s base bytes), .lenExceeds),
   (target == 1 && !ddrMayChange s who base bytes, .partDenied)]

/-- Entry sizes of a class (11 R286). -/
def esizeOk (cls esize : Nat) : Bool :=
  match cls with
  | 0 => esize == 1 | 1 => decide (esize ≤ 4) | 2 => decide (esize ≤ 4) | 3 => esize == 2 | _ => false

/-- A Spool that KICK = 1 starts on this engine. -/
def kickedSpool (s : State) (e : Nat) : Option Nat :=
  (s.spools.find? (fun x => x.2.valid && x.2.cls == 0 && x.2.kick && x.2.engine == e)).map (fun x => x.1)

/-- The descriptor of a SPOOL_CREATE image (11 R287). -/
def spoolOf (d : Nat) (owner base : Nat) : Spool :=
  { base := base, target := fld d 64 2, log2n := fld d 66 5, esize := fld d 71 3, cls := fld d 74 3, order := bit d 77
    full := bit d 78, valid := true, owner := owner, secure := bit d 84, notify := fld d 85 2, irqEn := bit d 87
    vector := fld d 88 11, hookEn := bit d 99, hook := fld d 100 6, kick := bit d 106, engine := fld d 107 5
    thresh := fld d 192 25, armed := true }

def createRsv : List (Nat × Nat) := [(112, 16), (153, 7), (185, 7), (217, 39)]

/-- The whole descriptor is rewritten: its stored errors are gone (11 R287). -/
def rewriteDesc (s : State) (n : Nat) : State := clearErrs s (descAddr n 0) 32

/-- SPOOL_CREATE (11 R288). The flags and counters of the number stay (00 R13). -/
def spoolCreateBody (k : Call) (s : State) : Result :=
  let n := fld k.blk 0 16
  let d := fld k.blk 64 256
  let p := spoolOf d k.who.part (fld d 0 64)
  let bytes := entryBytes p * ringSize p
  let page := findPages s (pagesOf bytes)
  let base := if p.target = 2 then ringBase + 4096 * page.getD 0 else p.base
  let limit := match fnOfPart s k.who.part with | some f => vectorCount f | none => 0
  let st := storeImage s 0x0A01 oSpool n 40 n (k.blk % 2 ^ 320)
  checked s (oSpool, n)
    ([(decide (n < 256), .partDenied), ((s.spool n).valid, .busy),
      (fld k.blk 16 48 != 0 || !rsvOk d createRsv || p.target == 3 || decide (p.log2n < 4) || decide (p.log2n > 24)
        || decide (p.esize > 4) || !esizeOk p.cls p.esize, .badParam),
      (p.order && p.cls != 1 && p.cls != 2, .badParam), ((p.kick || p.engine != 0) && p.cls != 0, .badParam),
      (p.kick && (kickedSpool s p.engine).isSome, .busy), (p.irqEn && decide (p.vector ≥ limit), .badParam)]
      ++ (placeFail s k.who p.target p.base bytes) ++
     [(p.hookEn && (ownerOf s oHook p.hook).part != k.who.part, .partDenied),
      (p.target == 2 && page.isNone, .noSpace),
      (p.notify == 2 && (p.thresh == 0 || decide (p.thresh > ringSize p)), .badParam)])
    { status := .ok, items := [st.2], out := leBytes 8 base
      next := rewriteDesc { st.1 with spools := tset {} st.1.spools n { p with base := base, flags := (st.1.spool n).flags } } n }
def execSpoolCreate (c : Frame) (s : State) : Out State := .next (serve { op := 0x0A01 } c s spoolCreateBody)

/-! ### SPOOL_RESIZE (11 R307) -/

/-- The target, base and size that a SPOOL_RESIZE asks for: with MOVE = 0 the ring stays where it is. -/
def resizeTo (s : State) (p : Spool) (b : Nat) : Nat × Option Nat × Nat :=
  let l := fld b 19 5
  let target := if bit b 18 then fld b 24 2 else p.target
  let base := if !bit b 18 then some p.base
    else if target = 2 then (findPages s (pagesOf (entryBytes p * 2 ^ l))).map (fun g => ringBase + 4096 * g)
    else some (fld b 64 64)
  (target, base, l)

/-- An on-chip ring that grows where it is runs into another ring or the end of ring memory. -/
def growBlocked (s : State) (n : Nat) (p : Spool) (b : Nat) : Bool :=
  let others := ringRuns { s with spools := tdel s.spools n }
  !bit b 18 && p.target == 2
    && !pageFree others ((p.base - ringBase) / 4096) (pagesOf (entryBytes p * 2 ^ fld b 19 5))

/-- The caller may resize this Spool (11 R285, R307). -/
def mayResize (k : Call) (n : Nat) (p : Spool) : Bool :=
  mayChange k.who { part := p.owner, secure := p.secure }
    && (decide (256 ≤ n) || (decide (16 ≤ n) && decide (n < 32) && n - 16 == k.who.part)
        || (n == 46 && k.who.part == 0))

/-- The checks common to the three modes. -/
def resizeChecks (k : Call) (s : State) (mode : Nat) : List (Bool × Status) :=
  let b := k.blk
  let n := fld b 0 16
  let p := s.spool n
  let g := resizeTo s p b
  let bytes := entryBytes p * 2 ^ g.2.2
  [(fld b 26 38 != 0 || fld b 128 128 != 0 || fld b 16 2 != mode || decide (g.2.2 < 4) || decide (g.2.2 > 24)
      || g.1 == 3, .badParam),
   (decide (n < 256) && !mayResize k n p, .partDenied), (!p.valid, .badParam), (!mayResize k n p, .partDenied)]
  ++ placeFail s k.who g.1 (g.2.1.getD 0) bytes ++
  [(g.2.1.isNone || growBlocked s n p b, .noSpace),
   (p.notify == 2 && (p.thresh == 0 || decide (p.thresh > 2 ^ g.2.2)), .badParam),
   (p.resize.isSome || p.fault, .busy)]

/-- The new geometry applies; ARMED is set (11 R307). -/
def applyGeometry (s : State) (n target base log2n : Nat) : State :=
  (rewriteDesc s n).modSpool n (fun q => { q with target := target, base := base, log2n := log2n, armed := true, resize := none })

/-- Append the held entries, oldest first (11 R307). -/
def appendHeld (s : State) (n : Nat) : State :=
  let h := (s.spool n).held
  let s := s.modSpool n (fun q => { q with held := [] })
  release (h.foldl (fun s e =>
    if 16 ≤ n && n < 32 then errRecord s (n - 16) e.2.2 else appendEntry s n e.1 e.2.1 e.2.2) s) n

def resizeImage (s : State) (k : Call) : State × LedgerItem :=
  let n := fld k.blk 0 16
  storeImage s 0x0A02 oSpool n 32 n n

def spoolResizeEmptyBody (k : Call) (s : State) : Result :=
  let n := fld k.blk 0 16
  let p := s.spool n
  let g := resizeTo s p k.blk
  let st := resizeImage s k
  checked s (oSpool, n)
    (resizeChecks k s 0 ++ [(occupancy p != 0 || p.resv.any (fun r => r.entry.isSome) || !p.held.isEmpty, .busy)])
    (done (applyGeometry st.1 n g.1 (g.2.1.getD 0) g.2.2) [st.2])

def execSpoolResizeEmpty (c : Frame) (s : State) : Out State :=
  .next (serve { op := 0x0A02 } c s spoolResizeEmptyBody)

/-- 1 s in samples (02 R33). -/
def oneSecond : Nat := 24000000000

def spoolResizeDrainBody (k : Call) (s : State) : Result :=
  let n := fld k.blk 0 16
  let p := s.spool n
  let g := resizeTo s p k.blk
  checked s (oSpool, n) (resizeChecks k s 1)
    (waiting (s.modSpool n (fun q => { q with
      resize := some { log2n := g.2.2, target := g.1, base := g.2.1.getD 0, func := k.func, tag := k.tag
                       deadline := s.now + oneSecond / 32 } })))

def execSpoolResizeDrain (c : Frame) (s : State) : Out State :=
  .next (serve { op := 0x0A02 } c s spoolResizeDrainBody)

/-- The ring of a draining Spool is empty: the new geometry applies and the held entries enter (11 R307). -/
def execSpoolDrainDone (spool : Fin 65536) (s : State) : Out State :=
  let p := s.spool spool
  .next (match p.resize with
    | none => s
    | some r =>
      if occupancy p ≠ 0 then s
      else
        let st := storeImage s 0x0A02 oSpool spool 32 spool spool
        answer (appendHeld (applyGeometry st.1 spool r.target r.base r.log2n) spool) r.func r.tag .ok 0 [] [st.2])

/-- A drain of more than 1 s fails with BUSY (11 R307). -/
def execSpoolDrainTimeout (spool : Fin 65536) (s : State) : Out State :=
  let p := s.spool spool
  .next (match p.resize with
    | none => s
    | some r =>
      if occupancy p = 0 || s.now < r.deadline then s
      else
        answer (appendHeld (s.modSpool spool (fun q => { q with resize := none })) spool)
          r.func r.tag .busy 0 [] [])

/-- What a DISCARD leaves out of Spool `n` (11 R307): the entries of the ring and of the reorder window, and the slot of a
descriptor that runs; reservations that have no entry remain, and producers that wait still hold their entries. The
occupancy falls to 0 (R295). -/
def discardEntries (s : State) (n : Nat) : State :=
  let p := s.spool n
  let s := s.modSpool n (fun q => { q with
    pi := 0, ci := 0, held := [], resv := q.resv.filter (fun r => r.entry.isNone && !r.cancelled) })
  let s := { s with dma := s.dma.map (fun e => (e.1, { e.2 with
    run := e.2.run.map (fun r => if r.spool = n then { r with gone := true } else r) })) }
  if p.notify ≤ 1 then s else notify s n (occupancy p)

/-- DISCARD (11 R307): OVERFLOW is set, with its record (R294). -/
def spoolResizeDiscardBody (k : Call) (s : State) : Result :=
  let n := fld k.blk 0 16
  let p := s.spool n
  let g := resizeTo s p k.blk
  let count := occupancy p + p.held.length + windowed p
  let st := resizeImage s k
  checked s (oSpool, n) (resizeChecks k s 2)
    { status := .ok, items := [st.2], out := leBytes 4 count
      next := dropEntry (discardEntries (applyGeometry st.1 n g.1 (g.2.1.getD 0) g.2.2) n) n }

def execSpoolResizeDiscard (c : Frame) (s : State) : Out State :=
  .next (serve { op := 0x0A02 } c s spoolResizeDiscardBody)

/-! ### SPOOL_DELETE and SPOOL_STATUS (11 R308, R309) -/

/-- A descriptor that an engine processes comes from the Spool or completes into it (11 R308). -/
def dmaNames (s : State) (n : Nat) : Bool :=
  s.dma.any (fun e => match e.2.run with
    | some r => r.spool == n || (bit r.desc 10 && fld r.desc 192 16 == n)
    | none => false)

def spoolDeleteBody (k : Call) (s : State) : Result :=
  let n := fld k.blk 0 16
  let s := readDesc s n
  let p := s.spool n
  let st := storeImage s 0x0A01 oSpool n 40 n n
  checked s (oSpool, n)
    [(fld k.blk 16 48 != 0, .badParam), (decide (n < 256), .partDenied), (!p.valid, .badParam),
     (!mayChange k.who { part := p.owner, secure := p.secure }, .partDenied),
     (s.blocksName n || dmaNames s n || p.resize.isSome, .busy)]
    (done { st.1 with spools := tset {} st.1.spools n { flags := p.flags } } [st.2])

def execSpoolDelete (c : Frame) (s : State) : Out State := .next (serve { op := 0x0A03 } c s spoolDeleteBody)

def spoolMap : FlagMap := [(24, 112), (25, 128), (26, 144), (27, 160), (28, 176)]

def spoolImage (s : State) (n : Nat) : Nat :=
  let p := s.spool n
  n + b2n p.valid * 2 ^ 16 + b2n p.fault * 2 ^ 17 + b2n p.resize.isSome * 2 ^ 18 + b2n p.armed * 2 ^ 19
    + flagImage spoolMap p.flags + p.pi * 2 ^ 32 + p.ci * 2 ^ 64 + outstanding p * 2 ^ 96

def spoolStatusBody (k : Call) (s : State) : Result :=
  let n := fld k.blk 0 16
  checked s (oSpool, n)
    [(statusReqBad k 16 256 spoolMap, .badParam), (k.func != 0 && (s.spool n).owner != k.who.part, .partDenied)]
    (report (if k.clear then s.modSpool n (fun p => { p with flags := clearFlags s.now spoolMap k.blk p.flags }) else s)
      (leBytes 32 (spoolImage s n)))

def execSpoolStatus (c : Frame) (s : State) : Out State := .next (serve { op := 0x0A04 } c s spoolStatusBody)

/-! ### Entries (11 R293, R297) -/

/-- A device producer hands an entry on; in tag order it takes its tag in the hand-on tick (11 R293, R297).
Command and Shuttle Spools have no device producer (R286). -/
def execSpoolAppend (spool : Fin 65536) (producer : Nat) (canWait : Bool) (entry : List Byte) (s : State) :
    Out State :=
  .next (if (s.spool spool).valid && (s.spool spool).cls != 0 && (s.spool spool).cls != 3 then
      produce s spool producer canWait none entry
    else s)

/-- Entries of the reorder window whose turn has come enter the ring (11 R297). -/
def execTagOrderRelease (spool : Fin 65536) (s : State) : Out State := .next (release s spool)

/-! ### Boot Spools (11 R572) -/

/-- LOG2N and ESIZE of Nirdin's own Spools SP0 to SP15, which the spec leaves to Nirdin (DESIGN CHOICE, log 24): free values
that together fit in 1 MiB, the smallest geometry where they would not. -/
def ownGeometry (n : Nat) : Nat × Nat :=
  let g (i : Nat) : Nat × Nat := ((Config.ownLog2n i).toNat, (Config.ownEsize i).toNat)
  if (List.range 16).all (fun i => decide (4 ≤ (g i).1) && decide ((g i).1 ≤ 24) && decide ((g i).2 ≤ 4))
      && decide (((List.range 16).map (fun i => pagesOf (16 * 2 ^ (g i).2 * 2 ^ (g i).1))).sum ≤ 256)
  then g n else (4, 0)

/-- LOG2N, ESIZE, CLASS, FULL and owner of a boot Spool. -/
def bootSpool (n : Nat) : Spool :=
  let own := ownGeometry n
  if n < 16 then { log2n := own.1, esize := own.2, cls := 2, full := Config.ownFull n, valid := true, armed := true, target := 2 }
  else if n < 32 then { log2n := 10, esize := 1, cls := 1, valid := true, owner := n - 16, armed := true, target := 2 }
  else if n < 44 then { log2n := 8, esize := 1, cls := 2, full := true, valid := true, armed := true, target := 2 }
  else if n < 46 then { log2n := 12, esize := 0, cls := 2, full := true, valid := true, armed := true, target := 2 }
  else { log2n := 8, esize := 2, cls := 4, full := true, valid := true, armed := true, target := 2 }

/-- Nirdin creates SP16 to SP46 and then its own SP0 to SP15, each at the lowest free pages (R572, DESIGN CHOICE, log 17);
flags set since the reset stay (R309, 12 R313). -/
def createBootSpools (s : State) : State :=
  ((List.range 31).map (fun i => 16 + i) ++ List.range 16).foldl (fun s n =>
    let p := bootSpool n
    let page := (findPages s (pagesOf (entryBytes p * ringSize p))).getD 0
    { s with spools := tset {} s.spools n { p with base := ringBase + 4096 * page, flags := (s.spool n).flags } }) s

end Sys2Proof.Machine
end

