-- ==== Sys2Proof/Machine/Dma.lean ====
section
/-! DEFINITION. The DMA engines: descriptors, checks, transfers, completion (11 R299 to R303). -/

namespace Sys2Proof.Machine

/-! ### Descriptors (11 R300): fields -/

def mOp (d : Nat) : Nat := fld d 0 8
def mSrcHost (d : Nat) : Bool := bit d 8
def mDstHost (d : Nat) : Bool := bit d 9
def mCplEn (d : Nat) : Bool := bit d 10
def mHook (d : Nat) : Bool := bit d 11
def mLen (d : Nat) : Nat := fld d 16 24
def mSrc (d : Nat) : Nat := fld d 64 64
def mDst (d : Nat) : Nat := fld d 128 64
def mCpl (d : Nat) : Nat := fld d 192 16
def mUtag (d : Nat) : Nat := fld d 208 16
def mBytes (d : Nat) : Nat := 16 * mLen d

def State.dmaEngine (s : State) (e : Nat) : DmaEngine := tget {} s.dma e
def State.modDma (s : State) (e : Nat) (g : DmaEngine → DmaEngine) : State := { s with dma := tmod {} s.dma e g }

/-! ### Checks (11 R301) -/

/-- The on-chip ring that holds a range: its owner and secure attribute. -/
def ringOfRange (s : State) (a n : Nat) : Option Owner :=
  s.spools.findSome? (fun e =>
    if e.2.valid && e.2.target == 2 && decide (e.2.base ≤ a)
        && decide (a + n ≤ e.2.base + entryBytes e.2 * ringSize e.2) then some { part := e.2.owner, secure := e.2.secure }
    else none)

/-- An internal range lies in one channel's usable DDR or one on-chip ring. -/
def internalOk (s : State) (a n : Nat) : Bool := inDdr s a n || (ringOfRange s a n).isSome

/-- Every part of an internal range is open to `who` (01 R29, 20 R520). -/
def internalOwned (s : State) (who : Owner) (a n : Nat) : Bool :=
  if inDdr s a n then ddrMayChange s who a n
  else match ringOfRange s a n with | some o => mayChange who o | none => false

/-- The rights of a Spool's engine (01 R28, 11 R287). -/
def spoolWho (p : Spool) : Owner := { part := p.owner, secure := p.secure }

/-- CPL_SPOOL takes completion records. -/
def cplOk (s : State) (n : Nat) : Bool :=
  let p := s.spool n
  p.valid && p.esize == 1 && (p.cls == 1 || p.cls == 2)

/-- The source and the destination in use, as (host, address). -/
def mEnds (d : Nat) : List (Bool × Nat) :=
  (if mOp d = 1 then [(mSrcHost d, mSrc d)] else []) ++ (if mOp d = 0 then [] else [(mDstHost d, mDst d)])

/-- The addresses that the operation uses (11 R300): SRC for COPY, DST for COPY and ZERO. -/
def mMisaligned (d : Nat) : Bool := (mEnds d).any (fun x => x.2 % 16 != 0)

/-- The checks of R301 in order, for a descriptor of a Spool of rights `who`. -/
def dmaFail (s : State) (who : Owner) (d : Nat) : Option Status :=
  let e := mEnds d
  firstFail
    [(decide (mOp d > 2) || mLen d == 0 || fld d 12 4 != 0 || fld d 40 24 != 0 || fld d 224 32 != 0
        || (mSrcHost d && mDstHost d) || mMisaligned d, .badParam),
     (mCplEn d && !cplOk s (mCpl d), .badParam),
     (e.any (fun x => !x.1 && !internalOk s x.2 (mBytes d)), .lenExceeds),
     (e.any (fun x => x.1 && decide (x.2 + mBytes d > 2 ^ 64)), .lenExceeds),
     (e.any (fun x => !x.1 && !internalOwned s who x.2 (mBytes d))
        || (mCplEn d && !mayChange who (spoolWho (s.spool (mCpl d)))), .partDenied)]

/-! ### Starting (11 R299) -/

/-- A Spool of engine `e` that has a descriptor to start. -/
def dmaReady (s : State) (e : Nat) (n : Nat) : Bool :=
  let p := s.spool n
  spoolLive p && p.cls == 0 && p.engine == e && occupancy p != 0 && ringReady s p
    && (!p.kick || !(s.dmaEngine e).credits.isEmpty)

/-- The Spool the engine visits next: ascending after the last. -/
def dmaNext (s : State) (e : Nat) : Option Nat :=
  let ns := (s.spools.map (fun x => x.1)).filter (dmaReady s e)
  match ns.find? (fun n => decide ((s.dmaEngine e).last < n)) with
  | some n => some n
  | none => ns.head?

/-- An engine that is idle starts the next descriptor: it is read and checked, and its completion record takes
its tag (11 R297, R299, R301). `fetched` is what a read of a ring in host memory delivers; none: a host error
(R302). -/
def execDmaStart (engine : Fin 32) (fetched : Option (BitVec 256)) (s : State) : Out State :=
  .next (match (s.dmaEngine engine).run with
    | some _ => s
    | none =>
      let s := (s.spools.map (fun x => x.1)).foldl (fun s n => if dmaReady s engine n then readDesc s n else s) s
      match dmaNext s engine with
      | none => s
      | some n =>
        let p := s.spool n
        let r := if p.target = 0 then ([], false, []) else ringRead s p p.ci
        let s := if p.target = 0 then hostFetch s ((fnOfPart s p.owner).getD 0) (slotAddr p p.ci) 32
          else memEvents s p.owner .dma r.2.2
        let d : Option Nat := if p.target = 0 then fetched.map (fun v => v.toNat)
          else if r.2.1 then none else some (leNat r.1)
        let st : Status := match d with
          | some v => (dmaFail s (spoolWho p) v).getD .ok
          | none => if p.target = 0 then .hostErr else .poisoned
        let v := d.getD 0
        let record := mCplEn v && cplOk s (mCpl v) && mayChange (spoolWho p) (spoolWho (s.spool (mCpl v)))
        let q := if record then reserve s (mCpl v) none rowDma engine else (s, .arrival)
        q.1.modDma engine (fun x => { x with
          last := n, credits := if p.kick then x.credits.drop 1 else x.credits
          run := some { spool := n, desc := v, status := st, resv := q.2, noRecord := !record
                        hop := if p.kick then x.credits.headD 0 else 0 } }))

/-! ### Transfers (11 R302) -/

/-- Bytes of on-chip ring memory, the bad words, and what the read met. -/
def ringBytes (s : State) (a n : Nat) : List Byte × List Nat × List MemEvt :=
  let ws := wordsFrom a (n / 8)
  (readBytes s.ringMem (a - ringBase) n, ws.filter (fun w => badWord (maskOf s.mem w)),
   ws.flatMap (fun w => wordEvents w (maskOf s.mem w)))

/-- Read an internal range: the bytes, the offsets of bad words, events. -/
def internalRead (s : State) (a n : Nat) : State × List Byte × List Nat × List MemEvt :=
  if inDdr s a n then
    let f := bitmapFixAll s a n
    let r := ddrRead f.1 a n
    (f.1, r.1, r.2.1.map (fun w => w - a), f.2 ++ r.2.2)
  else
    let r := ringBytes s a n
    (s, r.1, r.2.1.map (fun w => w - a), r.2.2)

/-- Write an internal range; the words at the offsets `bad` get the poison pattern (14 R371). -/
def internalWrite (s : State) (a : Nat) (d : List Byte) (bad : List Nat) : State × List MemEvt :=
  let ws := bad.map (fun o => a + o)
  if inDdr s a d.length then
    let w := ddrWrite s a d
    (poisonWords w.1 ws, w.2)
  else
    let s := clearErrs s a d.length
    let errs := ws.foldl (fun t w => tset 0 t w (BitVec.ofNat 80 poisonSyn)) s.mem.errs
    let ring := ws.foldl (fun t w => writeBytes t (w - ringBase) (List.replicate 8 0))
      (writeBytes s.ringMem (a - ringBase) d)
    ({ s with mem := { s.mem with errs := errs }, ringMem := ring }, [])

/-- The data of a descriptor leave for the host (12 R325). -/
def hostSend (s : State) (f a : Nat) (d : List Byte) (bad : List Nat) : State :=
  hostWrites (payloadBytes (s.fn f)) (s.fn f).relaxed (d.length / 128 + 2) s f a d bad 0

/-- The units of an `n`-unit read that the host delivers, and the error that ends it (12 R321): an ECRC error is found only
where ECRC is checked, and is then a completion timeout. -/
def readEnds (x : Fn) (host : HostReply) (n : Nat) : Nat × Option HostError :=
  match host.failAt with
  | none => (n, none)
  | some k => if n ≤ k || (host.error == .ecrc && !x.ecrcCheck) then (n, none) else (k, some host.error)

/-- A read that nothing ends: it is not completed, and the Completion Timeout is disabled (12 R321). -/
def readStalls (x : Fn) (host : HostReply) (n : Nat) : Bool :=
  x.timeoutOff && (match (readEnds x host n).2 with | some .timeout => true | some .ecrc => true | _ => false)

/-- What AER reports of a read (12 R321). -/
def readAer (s : State) (f : Nat) (e : Option HostError) (bad : List Nat) : State :=
  let s := if bad.isEmpty then s else s.send (.aer f .poisoned)
  match e with
  | some .timeout => s.send (.aer f .timeout)
  | some .ecrc => s.send (.aer f .ecrc)
  | _ => s

/-- What a transfer comes to: status and 16-byte units moved. -/
structure Moved where
  next   : State
  status : Status
  units  : Nat

/-- A range of a channel window in self-refresh (17 R456). -/
def asleep (s : State) (e : List (Bool × Nat)) : Bool :=
  e.any (fun x => !x.1 && decide (x.2 < 2 ^ 40) && !chanActive s (chanOf x.2))

/-- Move the data of descriptor `d` for a Spool of rights `who` (11 R302, 12 R316, 17 R456); an internal transfer whose header
is lost moves nothing (01 R28). -/
def transfer (s : State) (who : Owner) (d : Nat) (src : Stop) (host : HostReply) : Moved :=
  let f := (fnOfPart s who.part).getD 0
  let n := mBytes d
  if mOp d = 0 then ⟨s, .ok, 0⟩
  else if (mEnds d).any (fun x => x.1) && !partRequests s who.part then ⟨s, .hostErr, 0⟩
  else if asleep s (mEnds d) then ⟨s, .notActive, 0⟩
  else
    let h := takeHeaders s who.part src ((mEnds d).filterMap (fun x => if x.1 then none else some x.2))
    let s := h.1
    if h.2 then ⟨s, .poisoned, 0⟩
    else if mOp d = 2 then
      if mDstHost d then ⟨hostSend s f (mDst d) (List.replicate n 0) [], .ok, mLen d⟩
      else if inDdr s (mDst d) n then
        let w := ddrZero s (mDst d) n
        ⟨memEvents w.1 who.part src w.2, .ok, mLen d⟩
      else ⟨(internalWrite s (mDst d) (List.replicate n 0) []).1, .ok, mLen d⟩
    else if mSrcHost d then
      let s := hostFetch s f (mSrc d) n
      let e := readEnds (s.fn f) host (mLen d)
      let u := e.1
      let b := (host.bytes ++ List.replicate (16 * u - host.bytes.length) 0).take (16 * u)
      let bad := (host.poisoned.filter (fun w => decide (8 * w < 16 * u))).map (fun w => 8 * w)
      let w := internalWrite (readAer s f e.2 bad) (mDst d) b bad
      ⟨memEvents w.1 who.part src w.2, if u < mLen d then .hostErr else if bad.isEmpty then .ok else .poisoned, u⟩
    else
      let r := internalRead s (mSrc d) n
      let s := memEvents r.1 who.part src r.2.2.2
      let st : Status := if r.2.2.1.isEmpty then .ok else .poisoned
      if mDstHost d then ⟨hostSend s f (mDst d) r.2.1 r.2.2.1, st, mLen d⟩
      else
        let w := internalWrite s (mDst d) r.2.1 r.2.2.1
        ⟨memEvents w.1 who.part src w.2, st, mLen d⟩

/-! ### Completion (11 R303) -/

def cplRecord (e st : Nat) (r : DmaRun) (m : Moved) : List Byte :=
  leBytes 32 (pack [(mUtag r.desc, 16), (e, 5), (0, 11), (m.status.code, 16), (r.spool, 16), (m.units, 24), (0, 40),
    (st, 64), (0, 64)])

/-- The engine is done with its descriptor: the completion line asserts and CI advances, over a slot that still holds the
descriptor (11 R299, R303, R307; hop 10 R272). -/
def dmaFinish (s : State) (e : Nat) (r : DmaRun) : State :=
  let s := s.modDma e (fun x => { x with run := none })
  let s := if mHook r.desc then assertAt s (.dmaDone (Fin.ofNat 32 e)) s.now (r.hop + 1) else s
  if r.gone then s else consume s r.spool

/-- An engine waits with its completion record for Spool `n` (11 R293). -/
def engineWaits (s : State) (n e : Nat) : Bool :=
  match (s.dmaEngine e).run with | some r => r.waits && mCpl r.desc == n | none => false

/-- The descriptor of a run waits for a host read that nothing ends. -/
def stalls (s : State) (r : DmaRun) (host : HostReply) : Bool :=
  r.status == .ok && mOp r.desc == 1 && mSrcHost r.desc && partRequests s (s.spool r.spool).owner
    && readStalls (s.fn ((fnOfPart s (s.spool r.spool).owner).getD 0)) host (mLen r.desc)

/-- A descriptor completes: its data moves, and its record is handed on; an engine whose record must wait for a slot holds it
(11 R293, R299, R303). -/
def execDmaComplete (engine : Fin 32) (host : HostReply) (s : State) : Out State :=
  .next (match (s.dmaEngine engine).run with
    | none => s
    | some r =>
      if r.waits || stalls s r host then s
      else
        let p := s.spool r.spool
        let m : Moved := if r.status = .ok then transfer s (spoolWho p) r.desc .dma host else ⟨s, r.status, 0⟩
        if r.noRecord then dmaFinish m.next engine r
        else
          let n := mCpl r.desc
          let t := handOn m.next n engine true r.resv (cplRecord engine s.st r m)
          if (m.next.spool n).waiting.length < (t.spool n).waiting.length
          then t.modDma engine (fun x => { x with run := some { r with waits := true } })
          else dmaFinish t engine r)

/-- The first producer that waits writes its entry once a slot is free; one whose Spool is in FAULT drops it (11 R293, R308).
A DMA engine goes on. -/
def resumeWait (s : State) (n : Nat) : State :=
  let s := readDesc s n
  let p := s.spool n
  match p.waiting with
  | [] => s
  | e :: w =>
    let u := s.modSpool n (fun q => { q with waiting := w })
    let go (s : State) : State :=
      match (s.dmaEngine e.1).run with
      | some r => if engineWaits s n e.1 then dmaFinish s e.1 r else s
      | none => s
    if p.fault then go (dropEntry u n)
    else if canPut s p && p.resize.isNone then go (putRecorded u n e.2)
    else s

def execWaitProducerResume (spool : Fin 65536) (s : State) : Out State := .next (resumeWait s spool)

/-- A Harness kick of `n` with hop `h`: credits saturate at 255, the excess sets KICKOVF (11 R299). -/
def dmaKick (s : State) (e n h : Nat) : State :=
  let c := (s.dmaEngine e).credits
  let s' := s.modDma e (fun x => { x with credits := (c ++ List.replicate n h).take 255 })
  if c.length + n > 255 then
    match kickedSpool s e with
    | some q => s'.modSpool q (fun x => { x with flags := (List.range (c.length + n - 255)).foldl (fun f _ => hit s.now f 28) x.flags })
    | none => s'
  else s'

end Sys2Proof.Machine
end

