-- ==== Sys2Proof/Machine/Operands.lean ====
section
/-! DEFINITION. Operand forms shared by blocks: segment descriptors, Harness candidates and routes, port and
thread fields (04 R95, 10 R276, R278). -/

namespace Sys2Proof.Machine

/-! ### Segment descriptors (04 R95) -/

def dValid (d : Nat) : Bool := bit d 16
def dStreamed (d : Nat) : Bool := bit d 17
def dUfill (d : Nat) : Nat := fld d 18 2
def dChain (d : Nat) : Bool := bit d 20
def dSlot (d : Nat) : Nat := fld d 21 4
def dStart (d : Nat) : Nat := fld d 32 19
def dLength (d : Nat) : Nat := fld d 64 24
def dScale (d : Nat) : Int := sgn 18 (fld d 88 18)
def dNext (d : Nat) : Nat := fld d 112 12
def dDdr (d : Nat) : Nat := fld d 128 48
def dOwner (d : Nat) : Nat := fld d 192 4

/-- The stored descriptor of a segment; 0: none. -/
def segDesc (s : State) (tile seg : Nat) : Nat := tget 0 (s.bobbin tile).segs seg

/-- The TIDs of a tile's thread players (04 R91). -/
def tilePlayers (t : Nat) : List Nat :=
  (List.range 32).map (mkTid t 0) ++ (List.range 32).map (mkTid t 1) ++ (List.range 16).map (mkTid t 2)

/-- Segments that a thread plays, or that wait as its chain or jump targets (04 R94, R96). -/
def threadSegs (x : Thread) : List Nat :=
  (match x.play with
   | some p => p.seg :: (if dChain p.desc then [dNext p.desc] else [])
   | none => [])
  ++ (match x.now_ with | some j => [j.seg] | none => [])
  ++ (match x.next_ with | some j => [j.seg] | none => [])

/-- A segment is playing or pending on a thread of its tile. -/
def segBusy (s : State) (tile seg : Nat) : Bool :=
  (tilePlayers tile).any (fun t => (threadSegs (s.thread t)).contains seg)

/-! ### Harness candidates (10 R276) and routes (10 R278) -/

/-- Candidate `k` of tile consumer `u` of tile `t`. -/
def tileCand (t u k : Nat) : Nat :=
  if k < 6 then 64 * t + (u + 11 * k) % 64
  else if k = 6 then 768 + (64 * t + u) % 256
  else 768 + (64 * t + u + 128) % 256

/-- Candidate `k` of uncore consumer `v`. -/
def uncoreCand (v k : Nat) : Nat := 768 + (v + 32 * k) % 256

/-- A consumer of owner `o` may select channel `c`. -/
def routeOk (s : State) (o : Owner) (c : Nat) : Bool :=
  let ch := ownerOf s oChan c
  (o.part == ch.part || ch.part == 0) && (!ch.secure || o.secure)

/-- The tile consumer of a thread's segment-jump input (10 R275). -/
def jumpInput (tid : Nat) : Nat :=
  (match tidKind tid with | 0 => 32 | 1 => 64 | _ => 96) + tidIndex tid

end Sys2Proof.Machine
end

