-- ==== Sys2Proof/Machine/Bobbin.lean ====
section
/-! DEFINITION. The Bobbin's commands: allocation, writing, descriptors, segment jumps, status (04 R89 to R112). -/

namespace Sys2Proof.Machine

/-- Blocks of envelope memory (04 R93). -/
def envBlocks : Nat := 6656

/-- The command names an object of a tile whose quadrant is OFF or leaving OFF (17 R460). -/
def tileDown (s : State) (t : Nat) : Bool := quadOff s (t / 3)

/-! ### Allocation (04 R93) -/

/-- A run of blocks overlaps an allocated run. -/
def overlaps (b : Bobbin) (blk n : Nat) : Bool :=
  b.runs.any (fun e => decide (e.1 / 64 < blk + n) && decide (blk < e.1 / 64 + e.2.blocks))

/-- Where free runs can begin. -/
def freeStarts (b : Bobbin) : List Nat := 0 :: b.runs.map (fun e => e.1 / 64 + e.2.blocks)

/-- The lowest free run of `n` blocks (DESIGN CHOICE, log 17: the spec does not say which run is taken). -/
def findRun (b : Bobbin) (n : Nat) : Option Nat :=
  (freeStarts b).find? (fun c => decide (c + n ≤ envBlocks) && !overlaps b c n)

/-- Free blocks, and the largest free run (04 R111). -/
def freeBlocks (b : Bobbin) : Nat := envBlocks - (b.runs.map (fun e => e.2.blocks)).sum
def largestRun (b : Bobbin) : Nat :=
  ((freeStarts b).map (fun c =>
    let next := (b.runs.filter (fun e => decide (c ≤ e.1 / 64))).foldl (fun m e => min m (e.1 / 64)) envBlocks
    if c < envBlocks && !overlaps b c 1 then next - c else 0)).foldl max 0

def runId (t start : Nat) : Nat := t * 2 ^ 28 + start

def bobbinAllocBody (k : Call) (s : State) : Result :=
  let t := fld k.blk 0 4
  let n := fld k.blk 32 13
  let at_ := findRun (s.bobbin t) n
  let start := 64 * at_.getD 0
  checked s (oRun, runId t start)
    [(decide (t ≥ 12) || n == 0 || decide (n > envBlocks) || fld k.blk 4 28 != 0 || fld k.blk 45 19 != 0, .badParam),
     (tileDown s t, .notActive), (at_.isNone, .noSpace)]
    (let st := storeImage s 0x0301 oRun (runId t start) 8 t (t + n * 2 ^ 32)
     { status := .ok, items := [st.2], out := leBytes 8 (start + n * 2 ^ 32)
       next := st.1.modBobbin t (fun b => { b with runs := tset {} b.runs start { blocks := n, owner := k.who.part } }) })

def execBobbinAlloc (c : Frame) (s : State) : Out State := .next (serve { op := 0x0301 } c s bobbinAllocBody)

/-- A valid descriptor points into a run (04 R93). -/
def pointsInto (b : Bobbin) (start : Nat) (r : Run) : Bool :=
  b.segs.any (fun e => dValid e.2 && !dStreamed e.2 && decide (start ≤ dStart e.2)
    && decide (dStart e.2 < start + 64 * r.blocks))

def bobbinFreeBody (k : Call) (s : State) : Result :=
  let t := fld k.blk 0 4
  let start := fld k.blk 32 19
  let b := s.bobbin t
  let r : Run := tget {} b.runs start
  checked s (oRun, runId t start)
    [(decide (t ≥ 12) || fld k.blk 4 28 != 0 || fld k.blk 51 13 != 0, .badParam), (tileDown s t, .notActive),
     (r.blocks == 0, .badParam), (r.owner != k.who.part, .partDenied), (pointsInto b start r, .busy)]
    (let st := storeImage s 0x0302 oRun (runId t start) 8 0 k.blk
     done (st.1.modBobbin t (fun b => { b with runs := tset {} b.runs start {} })) [st.2])

def execBobbinFree (c : Frame) (s : State) : Out State := .next (serve { op := 0x0302 } c s bobbinFreeBody)

/-! ### Writing (04 R94) -/

/-- The run that holds a tick word: its start and the run. -/
def runOf (b : Bobbin) (w : Nat) : Option (Nat × Run) :=
  b.runs.find? (fun e => decide (e.1 ≤ w) && decide (w < e.1 + 64 * e.2.blocks))

/-- A range of envelope words overlaps a segment that plays or waits on a thread of the tile. -/
def playOverlap (s : State) (t w n : Nat) : Bool :=
  (tilePlayers t).any (fun x =>
    let th := s.thread x
    ((threadSegs th).any (fun g =>
      let d := match th.play with
        | some p => if p.seg = g then p.desc else segDesc s t g
        | none => segDesc s t g
      dValid d && !dStreamed d && decide (dStart d < w + n) && decide (w < dStart d + dLength d))))

/-- Write tick words from bytes. -/
def writeWords (b : Bobbin) (w : Nat) : Nat → List Byte → Bobbin
  | 0, _ => b
  | n + 1, d =>
    writeWords { b with env := tset 0 b.env w (BitVec.ofNat 64 (leNat (d.take 8))) } (w + 1) n (d.drop 8)

/-- Base of a tile's Bobbin (23 R560). -/
def bobbinBase (t : Nat) : Nat := 0x800000000000 + 0x400000 * t

/-- Internal address of a segment's descriptor (04 R89). -/
def segAddr (t g : Nat) : Nat := bobbinBase t + 0x340000 + 32 * g

/-- The addresses of its four words. -/
def segWords (t g : Nat) : List Nat := wordsFrom (segAddr t g) 4

/-- Internal address of an entry of a thread's parameter list (04 R89; DESIGN CHOICE, log 120). -/
def listAddr (tid list i : Nat) : Nat := bobbinBase (tidTile tid) + 0x360000 + (Config.listAt tid list i).toNat

def bobbinWriteBody (k : Call) (s : State) : Result :=
  let t := fld k.blk 0 4
  let w := fld k.blk 32 19
  let n := fld k.blk 64 19
  let r := runOf (s.bobbin t) w
  checked s (oRun, runId t w)
    [(decide (t ≥ 12) || n == 0 || decide (n > 425984) || fld k.blk 4 28 != 0 || fld k.blk 51 13 != 0
        || fld k.blk 83 45 != 0, .badParam),
     (tileDown s t, .notActive), (decide (k.data.length < 8 * n), .lenExceeds),
     (match r with | some e => decide (w + n > e.1 + 64 * e.2.blocks) | none => true, .lenExceeds),
     (match r with | some e => e.2.owner != k.who.part | none => true, .partDenied), (playOverlap s t w n, .busy)]
    (let st := storeImage s 0x0303 oRun (runId t w) 16 0 k.blk
     done ((clearErrs st.1 (bobbinBase t + 8 * w) (8 * n)).modBobbin t (fun b => writeWords b w n k.data)) [st.2])

def execBobbinWrite (c : Frame) (s : State) : Out State :=
  .next (serve { op := 0x0303, inlineF := true } c s bobbinWriteBody)

/-! ### Descriptors (04 R95, R96) -/

/-- A descriptor other than `seg` bound to a stream ring. -/
def boundElsewhere (b : Bobbin) (seg slot : Nat) : Option Nat :=
  (b.segs.find? (fun e => e.1 != seg && dValid e.2 && dStreamed e.2 && dSlot e.2 == slot)).map (fun e => e.2)

def segRsv : List (Nat × Nat) := [(25, 7), (51, 13), (106, 6), (124, 4), (176, 16), (196, 60)]

def segId (t g : Nat) : Nat := t * 2 ^ 28 + g

/-- A ring that holds nothing: fetches under way are discarded when they end. -/
def freshRing (r : Ring) : Ring := { gen := r.gen + 1 }

/-- Bind or unbind rings: the ring named starts to prime from tick word 0 (04 R105, R106). -/
def rebind (b : Bobbin) (old new : Nat) : Bobbin :=
  let rings := if dValid old && dStreamed old then tmod {} b.rings (dSlot old) freshRing else b.rings
  { b with rings := if dValid new && dStreamed new then tmod {} rings (dSlot new) freshRing else rings }

def segmentDescBody (k : Call) (s : State) : Result :=
  let g := fld k.blk 0 12
  let t := fld k.blk 12 4
  let b := s.bobbin t
  let d := k.blk % 2 ^ 192
  let old := tget 0 b.segs g
  let str := dStreamed d
  let run := runOf b (dStart d)
  let other := boundElsewhere b g (dSlot d)
  let nx := tget 0 b.segs (dNext d)
  checked s (oSeg, segId t g)
    [(g == 0 || decide (t ≥ 12) || dLength d == 0 || dUfill d == 3 || !rsvOk k.blk segRsv || !dValid d, .badParam),
     (tileDown s t, .notActive),
     (!str && (match run with | some e => decide (dStart d + dLength d > e.1 + 64 * e.2.blocks) | none => true),
      .lenExceeds),
     (!str && (match run with | some e => e.2.owner != k.who.part | none => true), .partDenied),
     (str && dDdr d % 128 != 0, .badParam),
     (str && dChain d && dNext d != g && dValid nx && dStreamed nx && dSlot nx == dSlot d, .badParam),
     (str && !inDdr s (dDdr d) (8 * dLength d), .lenExceeds),
     (str && !ddrMayChange s k.who (dDdr d) (8 * dLength d), .partDenied),
     (str && (match other with | some e => dOwner e == k.who.part | none => false), .busy),
     (str && other.isSome, .partDenied),
     (segBusy s t g, .busy), (dValid old && dOwner old != k.who.part, .partDenied)]
    (let new := d + k.who.part * 2 ^ 192
     let st := storeImage s 0x0304 oSeg (segId t g) 32 (g + t * 2 ^ 12) new
     done ((clearErrs st.1 (segAddr t g) 32).modBobbin t (fun b => rebind { b with segs := tset 0 b.segs g new } old new))
       [st.2])

def execSegmentDesc (c : Frame) (s : State) : Out State := .next (serve { op := 0x0304 } c s segmentDescBody)

def segmentDeleteBody (k : Call) (s : State) : Result :=
  let g := fld k.blk 0 12
  let t := fld k.blk 12 4
  let old := segDesc s t g
  checked s (oSeg, segId t g)
    [(g == 0 || decide (t ≥ 12) || !rsvOk k.blk segRsv || dValid k.blk, .badParam), (tileDown s t, .notActive),
     (dValid old && dOwner old != k.who.part, .partDenied), (segBusy s t g, .busy)]
    (if dValid old then
      let st := storeImage s 0x0304 oSeg (segId t g) 32 (g + t * 2 ^ 12) (g + t * 2 ^ 12)
      done ((clearErrs st.1 (segAddr t g) 32).modBobbin t (fun b => rebind { b with segs := tset 0 b.segs g 0 } old 0)) [st.2]
     else done s [])

def execSegmentDelete (c : Frame) (s : State) : Out State := .next (serve { op := 0x0304 } c s segmentDeleteBody)

/-! ### JUMP_CFG (04 R104) -/

def jumpCfgBody (k : Call) (s : State) : Result :=
  let t := fld k.blk 0 16
  let ap := fld k.blk 64 64
  let o := threadOwner s t
  let ch := tileCand (tidTile t) (jumpInput t) (fld k.blk 17 3)
  checked s (tidType t, t)
    ([(tidKind t == 3 && tidOk t, .badParam), (!tidOk t, .badTid),
      (fld k.blk 20 12 != 0 || fld k.blk 44 20 != 0, .badParam), (tileDown s (tidTile t), .notActive),
      (!mayChange k.who o || (bit k.blk 16 && !routeOk s o ch), .partDenied)]
      ++ timeFail ap k.accept)
    (let st := storeImage s 0x0305 (tidType t) t 16 t (k.blk % 2 ^ 64)
     scheduled (stage st.1 { kind := .jumpCfg, obj := t, blk := k.blk, at_ := applyAt ap k.accept, func := k.func })
       (applyAt ap k.accept) [st.2])

def execJumpCfg (c : Frame) (s : State) : Out State := .next (serve { op := 0x0305 } c s jumpCfgBody)

/-- A JUMP_CFG applies. -/
def applyJumpCfg (s : State) (t blk : Nat) : State :=
  (storeSel s (tileConsumer (tidTile t) (jumpInput t))).modThread t (fun x =>
    { x with jumpEn := bit blk 16, jumpCand := fld blk 17 3, jumpTarget := fld blk 32 12 })

/-! ### BOBBIN_STATUS (04 R111) -/

def fUnderrun : Nat := 16
def fFetchFault : Nat := 17
def fJmpConf : Nat := 18
def fJmpBad : Nat := 19
def fJLate : Nat := 20
def fStreamBusy : Nat := 21
def fSegDeny : Nat := 22

def bobbinMap : FlagMap := [(16, 64), (17, 80), (18, 96), (19, 112), (20, 128), (21, 144), (22, 160)]

def ringBits (b : Bobbin) (p : Ring → Bool) : Nat :=
  ((List.range 16).map (fun i => if p (tget {} b.rings i) then 2 ^ i else 0)).sum

def bobbinImage (s : State) (t : Nat) : Nat :=
  let b := s.bobbin t
  t + flagImage bobbinMap b.flags + ringBits b (fun r => r.primed) * 2 ^ 32
    + ringBits b (fun r => r.playing.isSome) * 2 ^ 48 + b.underrunSt * 2 ^ 192
    + freeBlocks b * 2 ^ 256 + largestRun b * 2 ^ 272 + (32 + t) * 2 ^ 288

def bobbinStatusBody (k : Call) (s : State) : Result :=
  let t := fld k.blk 0 4
  checked s (0x26, t)
    [(decide (t ≥ 12) || statusReqBad k 4 320 bobbinMap, .badParam),
     (k.func != 0 && tileOwner s t != k.who.part, .partDenied)]
    (report (if k.clear then s.modBobbin t (fun b => { b with
        flags := clearFlags s.now bobbinMap k.blk b.flags
        underrunSt := if bit k.blk fUnderrun then 0 else b.underrunSt }) else s) (leBytes 40 (bobbinImage s t)))

def execBobbinStatus (c : Frame) (s : State) : Out State := .next (serve { op := 0x0306 } c s bobbinStatusBody)

end Sys2Proof.Machine
end

