-- ==== Sys2Proof/Machine/Dsp.lean ====
section
/-! DEFINITION. The readout chain's arithmetic: mixer, CIC, FIR, integration, projection (05 R116 to R131),
and the phase formula of 02 R47. All values are integers in units of the stage's last fraction bit. -/

namespace Sys2Proof.Machine

/-- phase48 of 02 R47. -/
def phase48 (f p : BitVec 48) (n : Nat) : BitVec 48 := f * BitVec.ofNat 48 n + p

/-- phase(n): a 32-bit fraction of a turn (02 R47). -/
def phase32 (f p : BitVec 48) (n : Nat) : Nat := (phase48 f p n).toNat / 65536

/-- π/2 in units of 2^-96. -/
def halfPi : Nat := 124451306656115542615260972311

/-- Taylor terms of sine (`k` = 1) or cosine (`k` = 0), alternating, in units of 2^-96, by fuel. -/
def taylor (x : Nat) : Nat → Nat → Int → Int → Int
  | 0, _, _, acc => acc
  | n + 1, k, t, acc =>
    let t' := -(t * x * x / 2 ^ 192 / ((k + 1) * (k + 2) : Nat))
    taylor x n (k + 2) t' (acc + t')

def sin96 (x : Nat) : Int := taylor x 24 1 x x
def cos96 (x : Nat) : Int := taylor x 24 0 (2 ^ 96) (2 ^ 96)

/-- An 18-bit signed fraction with 17 fraction bits, rounded convergently; +1.0 is 1 − 2^-17 (05 R117). -/
def frac18 (v : Int) : Int := min (convRound v 79) 131071

/-- Cosine and sine of a 32-bit phase (05 R117): the quadrant turns a first-quadrant pair. -/
def cosSin (ph : Nat) : Int × Int :=
  let x := ph % 2 ^ 30 * halfPi / 2 ^ 30
  let c := if ph % 2 ^ 30 = 0 then (2 ^ 96 : Int) else cos96 x
  let s := if ph % 2 ^ 30 = 0 then (0 : Int) else sin96 x
  match ph / 2 ^ 30 with
  | 0 => (frac18 c, frac18 s)
  | 1 => (frac18 (-s), frac18 c)
  | 2 => (frac18 (-c), frac18 (-s))
  | _ => (frac18 s, frac18 (-c))

/-- The signed code of the ADC sample with label `n`; a label the trace does not hold reads 0. -/
def adcAt (a : AdcTrace) (n : Nat) : Int :=
  if n < a.first then 0 else (a.codes.getD ((n - a.first) / 2) 0).toInt

/-- A full-scale code (05 R116). -/
def fullScale (c : Int) : Bool := c == -2048 || c == 2047

/-- The mixer's output for label `n` under a frame (05 R117). -/
def mix (a : AdcTrace) (f p : BitVec 48) (n : Nat) : Int × Int :=
  let cs := cosSin (phase32 f p n)
  let x := adcAt a n
  (min (convRound (x * cs.1) 11) 131071, min (convRound (-(x * cs.2)) 11) 131071)

/-- Convolution with sixteen ones. -/
def conv16 (h : List Nat) : List Nat :=
  (List.range (h.length + 15)).map (fun i =>
    ((List.range 16).map (fun j => if j ≤ i then h.getD (i - j) 0 else 0)).sum)

/-- The CIC's impulse response: order 5, ÷16 (05 R117). -/
def cicTaps : List Nat := conv16 (conv16 (conv16 (conv16 (conv16 [1]))))

/-- Clip to 18 bits with 17 fraction bits: value and whether it clipped. -/
def clip18 (v : Int) : Int × Bool := (clip (-131072) 131071 v, v < -131072 || v > 131071)
def clip32 (v : Int) : Int × Bool := (clip (-(2 ^ 31)) (2 ^ 31 - 1) v, v < -(2 ^ 31) || v > 2 ^ 31 - 1)

/-- CIC output for decimated sample `t`: labels 32 t + 30 − 2 m (05 R115, R117). `fr` gives F and P by label. -/
def cic (a : AdcTrace) (fr : Nat → BitVec 48 × BitVec 48) (sh t : Nat) : (Int × Int) × Bool :=
  let xs := (cicTaps.zipIdx).map (fun q =>
    if 2 * q.2 ≤ 32 * t + 30 then
      let n := 32 * t + 30 - 2 * q.2
      let g := fr n
      let m := mix a g.1 g.2 n
      ((q.1 : Int) * m.1, (q.1 : Int) * m.2)
    else (0, 0))
  let i := clip18 (convRound ((xs.map (fun x => x.1)).sum) sh)
  let q := clip18 (convRound ((xs.map (fun x => x.2)).sum) sh)
  ((i.1, q.1), i.2 || q.2)

/-- Predistortion and FIR coefficient j: the identity where the bank lists none (03 R68). -/
def coef (b : Tbl Int) (j : Nat) : Int := tget (if j = 0 then 65536 else 0) b j

/-- FIR output from the newest 32 CIC outputs, newest first (05 R117). -/
def fir (b : Tbl Int) (sh : Nat) (ys : List (Int × Int)) : (Int × Int) × Bool :=
  let xs := (ys.take 32).zipIdx.map (fun q => (coef b q.2 * q.1.1, coef b q.2 * q.1.2))
  let i := clip18 (convRound ((xs.map (fun x => x.1)).sum) sh)
  let q := clip18 (convRound ((xs.map (fun x => x.2)).sum) sh)
  ((i.1, q.1), i.2 || q.2)

/-- A weight's parts: 16+16 bits, 15 fraction bits (05 R119). -/
def weightIQ (w : Nat) : Int × Int := (sgn 16 (w % 65536), sgn 16 (w / 65536 % 65536))

/-- The exact sum with 32 fraction bits (05 R119): BOXCAR counts as S × 2^15. -/
def addSample (weighted : Bool) (w : Nat) (acc y : Int × Int) : Int × Int :=
  if weighted then
    let c := weightIQ w
    (acc.1 + (y.1 * c.1 - y.2 * c.2), acc.2 + (y.1 * c.2 + y.2 * c.1))
  else (acc.1 + y.1 * 2 ^ 15, acc.2 + y.2 * 2 ^ 15)

/-- Integration output from S32: `sh` = 15, or SH_INT of a privileged window (05 R118, R119). -/
def integrated (sh : Nat) (s32 : Int × Int) : (Int × Int) × Bool :=
  let i := clip32 (convRound s32.1 sh)
  let q := clip32 (convRound s32.2 sh)
  ((i.1, q.1), i.2 || q.2)

/-- I × AX_I + Q × AX_Q with 17 fraction bits (05 R128, R131). -/
def axis (d : Disc) (s : Int × Int) : Int := convRound (s.1 * d.axI + s.2 * d.axQ) 17

/-- p and whether it clipped (05 R128). -/
def projection (d : Disc) (s : Int × Int) : Int × Bool := clip32 (axis d s - d.p0)

/-- STATE from p (05 R129). -/
def stateOf (d : Disc) (p : Int) : Nat :=
  if p < d.thA then 0 else if !d.l3 || p < d.thB then 1 else 2

/-- CONF (05 R130). -/
def confOf (d : Disc) (p : Int) : Nat :=
  let a := (p - d.thA).natAbs
  let v := if d.l3 then min a (p - d.thB).natAbs else a
  min 255 (v / 2 ^ d.confShift)

/-- The early state of a running projection (05 R131). -/
def earlyOf (d : Disc) (r : Int) : Option Nat :=
  if d.ehiEn && decide (r ≥ d.eHi) then some d.estHi
  else if d.eloEn && decide (r ≤ d.eLo) then some d.estLo
  else none

end Sys2Proof.Machine
end

