-- ==== Sys2Proof/Machine/Readout.lean ====
section
/-! DEFINITION. The readout commands: profiles, weights, pairs, raw capture, status (05 R120, R137 to R149). -/

namespace Sys2Proof.Machine

def State.rt (s : State) (r : Nat) : RThread := tget {} s.rts r
def State.modRt (s : State) (r : Nat) (g : RThread → RThread) : State := { s with rts := tmod {} s.rts r g }
def State.pair (s : State) (p : Nat) : Pair := tget {} s.pairs p
def State.modPair (s : State) (p : Nat) (g : Pair → Pair) : State := { s with pairs := tmod {} s.pairs p g }
def State.cap (s : State) (q : Nat) : Capture := tget {} s.caps q
def State.modCap (s : State) (q : Nat) (g : Capture → Capture) : State := { s with caps := tmod {} s.caps q g }

/-- The pair of a readout thread (01 R19), and its tone slot. -/
def pairOfRt (r : Nat) : Nat := portOfTid (tidOfRt r)
def slotOfRt (r : Nat) : Nat := r % 16

/-- Samples and ticks are counted on the ST axis (05 R115). -/
def stTick (s : State) : Nat := s.st / 32

/-! ### Window profiles (05 R143, R144): fields of the stored image -/

def wValid (w : Nat) : Bool := bit w 20
def wDest (w : Nat) : Nat := fld w 21 2
def wWeighted (w : Nat) : Bool := bit w 23
def wDbEn (w : Nat) : Bool := bit w 24
def wRecEn (w : Nat) : Bool := bit w 25
def wEvtMask (w : Nat) : Nat := fld w 26 3
def wEarlyEvt (w : Nat) : Bool := bit w 29
def wEarlyEn (w : Nat) : Bool := bit w 30
def wDb (w : Nat) : Nat := fld w 32 9
def wDelay (w : Nat) : Nat := fld w 48 16
def wLen (w : Nat) : Nat := fld w 64 13
def wDue (w : Nat) : Nat := fld w 80 20
def wSpool (w : Nat) : Nat := fld w 112 16

/-- First and last decimated sample of a window (05 R122). -/
def Window.t0 (w : Window) : Nat := w.k + wDelay w.prof
def Window.tLast (w : Window) : Nat := w.t0 + wLen w.prof - 1

/-- The tick in which a window leaves flight: its record's hand-on (05 R122), or its END or INT (06 R164). -/
def Window.outTick (w : Window) : Nat :=
  w.tLast + (match wDest w.prof with | 0 => 68 | 1 => 63 | _ => 59)

/-- The window is in flight in tick `y` (05 R122). -/
def Window.inFlight (w : Window) (y : Nat) : Bool := !w.dropped && decide (y < w.outTick)

/-- A Spool takes 32-byte result records (05 R136); 0 names none (11 R285). -/
def recordSpool (s : State) (n : Nat) : Bool :=
  let q := s.spool n
  n != 0 && q.valid && q.esize == 1 && (q.cls == 1 || q.cls == 2)

def profRsv : List (Nat × Nat) := [(31, 1), (41, 7), (77, 3), (100, 12), (128, 128)]

def windowProfileBody (k : Call) (s : State) : Result :=
  let b := k.blk
  let tid := fld b 0 16
  let r := rtOfTid tid
  let n := fld b 16 4
  checked s (2, tid)
    [(!tidOk tid || tidKind tid != 1, .badTid),
     (wLen b == 0 || decide (wLen b > 4096) || decide (wDb b > 511) || wDest b == 3 || !rsvOk b profRsv, .badParam),
     (wDest b != 0 && (wDbEn b || wRecEn b || wEvtMask b != 0 || wEarlyEvt b || wEarlyEn b), .badParam),
     (tileDown s (tidTile tid), .notActive), (!mayChange k.who (threadOwner s tid), .partDenied),
     (wRecEn b && !recordSpool s (wSpool b), .badParam),
     ((wRecEn b && (s.spool (wSpool b)).owner != k.who.part)
        || (wDbEn b && (ownerOf s oBit (wDb b)).part != k.who.part), .partDenied),
     (wDbEn b && (s.producers (wDb b)).any (fun p => p != (0, r)), .busy),
     (!wValid b && (s.rt r).windows.any (fun w => w.num == n && w.inFlight (stTick s)), .busy)]
    (let st := storeImage s 0x0401 2 (tid + n * 2 ^ 16) 32 (tid + n * 2 ^ 16) b
     done (st.1.modRt r (fun x => { x with profiles := tset 0 x.profiles n (if wValid b then b else 0) }))
       [{ st.2 with objId := tid }])

def execWindowProfile (c : Frame) (s : State) : Out State := .next (serve { op := 0x0401 } c s windowProfileBody)

/-! ### Weights (05 R145, R146, R120) -/

/-- Base of a weight bank (23 R561): `b` = 1 for bank B. -/
def weightBase (r b : Nat) : Nat := 0x800010000000 + 0x100000 * (r / 32) + 0x4000 * (2 * (r % 32) + b)

def writeWeights (t : Tbl Nat) (j : Nat) : Nat → List Byte → Tbl Nat
  | 0, _ => t
  | n + 1, d => writeWeights (tset 0 t j (leNat (d.take 4))) (j + 1) n (d.drop 4)

def weightWriteBody (k : Call) (s : State) : Result :=
  let h := k.blk
  let tid := fld h 0 16
  let r := rtOfTid tid
  let first := fld h 16 12
  let n := fld h 32 13
  let x := s.rt r
  checked s (2, tid)
    [(!tidOk tid || tidKind tid != 1, .badTid),
     (n == 0 || fld h 28 4 != 0 || fld h 45 19 != 0, .badParam),
     (decide (first + n > 4096), .lenExceeds), (tileDown s (tidTile tid), .notActive),
     (!mayChange k.who (threadOwner s tid), .partDenied), (x.swap.isSome, .busy)]
    (let st := storeImage s 0x0402 2 tid (8 + 4 * n) 0 (h % 2 ^ (64 + 32 * n))
     let d := (leBytes (4 * n) (h / 2 ^ 64))
     let s := clearErrs st.1 (weightBase r (if x.activeB then 0 else 1) + 4 * first) (4 * n)
     done (s.modRt r (fun x => if x.activeB then { x with bankA := writeWeights x.bankA first n d }
                               else { x with bankB := writeWeights x.bankB first n d })) [st.2])

def execWeightWrite (c : Frame) (s : State) : Out State := .next (serve { op := 0x0402 } c s weightWriteBody)

def weightSwapBody (k : Call) (s : State) : Result :=
  let tid := fld k.blk 0 16
  let r := rtOfTid tid
  let ap := fld k.blk 64 64
  checked s (2, tid)
    ([(!tidOk tid || tidKind tid != 1, .badTid), (fld k.blk 17 47 != 0, .badParam),
      (tileDown s (tidTile tid), .notActive), (!mayChange k.who (threadOwner s tid), .partDenied)]
      ++ timeFail ap k.accept ++ [((s.rt r).swap.isSome, .busy)])
    (waiting (s.modRt r (fun x => { x with
      swap := some { at_ := applyAt ap k.accept, now_ := bit k.blk 16, func := k.func, tag := k.tag } })))

def execWeightSwap (c : Frame) (s : State) : Out State := .next (serve { op := 0x0403 } c s weightSwapBody)

/-- Decimated samples `t` − 1 and `t` lie in one window of the thread (05 R120). -/
def insideWindow (x : RThread) (t : Nat) : Bool :=
  x.windows.any (fun w => !w.dropped && decide (w.t0 + 1 ≤ t) && decide (t ≤ w.tLast))

/-- The weights of the active bank. -/
def activeWeights (x : RThread) : Tbl Nat := if x.activeB then x.bankB else x.bankA

/-- The banks swap before sample `t`: windows with earlier samples keep the old bank for them (05 R120). -/
def swapBanks (x : RThread) (t : Nat) (mid : Bool) : RThread :=
  { x with
    activeB := !x.activeB, swap := none
    windows := x.windows.map (fun w =>
      if decide (w.t0 < t) then
        { w with oldW := w.oldW ++ [(t, activeWeights x)]
                 swapMid := w.swapMid || (mid && decide (t ≤ w.tLast)) }
      else w) }

/-- A pending WEIGHT_SWAP takes effect at the boundary before the present decimated sample (05 R120, R146);
before its time, or inside a window without SWAPNOW, it waits. -/
def execWeightSwapEffect (rt : Fin 384) (s : State) : Out State :=
  .next (match (s.rt rt).swap with
    | none => s
    | some w =>
      let t := stTick s
      if 32 * t < w.at_ || (!w.now_ && insideWindow (s.rt rt) t) then s
      else
        let tid := tidOfRt rt
        let st := storeImage s 0x0403 2 tid 16 tid tid
        answer (st.1.modRt rt (fun x => swapBanks x t w.now_)) w.func w.tag .ok (32 * t) [] [st.2])

/-! ### Pairs (05 R147, R148) -/

/-- READPAIR_CFG (05 R147). An RD_FIR_COEF write is complete when it is accepted: the spec gives no time it takes, so
FIR_SWAP's BUSY for an incomplete write never arises (DESIGN CHOICE, log 114). -/
def readpairCfgBody (k : Call) (s : State) : Result :=
  let p := fld k.blk 0 16
  let ap := fld k.blk 64 64
  checked s (oPair, p)
    ([(!portOk p || tidKind p != 1 || fld k.blk 16 4 == fld k.blk 20 4 || fld k.blk 25 39 != 0
        || fld k.blk 128 128 != 0, .badParam),
      (tileDown s (tidTile p), .notActive), (!mayChange k.who (portOwner s p), .partDenied)]
      ++ timeFail ap k.accept ++ [(isStaged s .readpairCfg p, .busy)])
    (let st := storeImage s 0x0404 oPair p 32 (p + 2 ^ 20) (k.blk % 2 ^ 24)
     scheduled (stage st.1 { kind := .readpairCfg, obj := p, blk := k.blk, at_ := applyAt ap k.accept, func := k.func })
       (applyAt ap k.accept) [st.2])

def execReadpairCfg (c : Frame) (s : State) : Out State := .next (serve { op := 0x0404 } c s readpairCfgBody)

/-- The active FIR bank of a pair. -/
def activeFir (x : Pair) : Tbl Int := if x.firB then x.fir1 else x.fir0

/-- A READPAIR_CFG applies at the boundary before sample APPLY_AT/32; a FIR swap marks the windows that
hold that boundary (05 R127, R147). -/
def applyReadpairCfg (s : State) (p blk : Nat) : State :=
  let t := stTick s
  let s := s.modPair p (fun x => { x with
    priv0 := fld blk 16 4, priv1 := fld blk 20 4
    firOld := if bit blk 24 then (t, activeFir x) :: x.firOld.take 7 else x.firOld
    firB := x.firB != bit blk 24 })
  if bit blk 24 then
    (List.range 16).foldl (fun s i => s.modRt (16 * (2 * tidTile p + tidIndex p) + i) (fun x => { x with
      windows := x.windows.map (fun w =>
        if decide (w.t0 < t) && decide (t ≤ w.tLast) then { w with firMid := true } else w) })) s
  else s

/-- Coefficient containers of PD_COEF and RD_FIR_COEF: 18-bit values, sign extended (03 R87). -/
def coefsOk (blk : Nat) : Bool := (List.range 32).all (fun j => extended 32 18 (fld blk (32 * j + 32) 32))

def coefsOf (blk : Nat) : Tbl Int :=
  (List.range 32).foldl (fun t j => tset (if j = 0 then 65536 else 0) t j (sgn 18 (fld blk (32 * j + 32) 18))) []

/-- Identity coefficients as a PD_COEF image after its header. -/
def identityImage : Nat := 0x10000 * 2 ^ 32

def rdFirCoefBody (k : Call) (s : State) : Result :=
  let p := fld k.blk 0 16
  checked s (oPair, p)
    [(!portOk p || tidKind p != 1 || fld k.blk 16 16 != 0 || !coefsOk k.blk, .badParam),
     (tileDown s (tidTile p), .notActive), (!mayChange k.who (portOwner s p), .partDenied)]
    (let st := storeImage s 0x0405 oPair p 132 (p + identityImage) (k.blk % 2 ^ 1056)
     done (st.1.modPair p (fun x => if x.firB then { x with fir0 := coefsOf k.blk } else { x with fir1 := coefsOf k.blk }))
       [st.2])

def execRdFirCoef (c : Frame) (s : State) : Out State := .next (serve { op := 0x0405 } c s rdFirCoefBody)

/-! ### READ_STATUS (05 R149) -/

def fWinConf : Nat := 16
def fWinOvf : Nat := 17
def fWinOvl : Nat := 18
def fWinBad : Nat := 19
def fAdcOvr : Nat := 20
def fStageSat : Nat := 21
def fAbandon : Nat := 22

def readMap : FlagMap := [(16, 96), (17, 112), (18, 128), (19, 144), (20, 160), (21, 176), (22, 192)]

/-- The first readout thread of a pair. -/
def firstRt (p : Nat) : Nat := 16 * (2 * tidTile p + tidIndex p)

/-- Full-scale samples among the codes of a pair's labels `first`, `first` + 2, …, those looked at before left out. -/
def newFull (x : Pair) (adc : AdcTrace) : Nat :=
  (adc.codes.zipIdx.filter (fun c => fullScale c.1.toInt
    && !x.seen.any (fun g => decide (g.1 ≤ adc.first + 2 * c.2) && decide (adc.first + 2 * c.2 ≤ g.2)))).length

/-- READ_STATUS.ADCOVR has an occurrence for each full-scale sample of the pair (R127, R149; 00 R13). The samples of which
commands bring the codes are known, those of windows, what stands before them, and captures (DEDUCED, log 104). -/
def noteCodes (s : State) (p : Nat) (adc : AdcTrace) : State :=
  if adc.codes.isEmpty then s
  else s.modPair p (fun x => { x with
    flags := (List.range (newFull x adc)).foldl (fun f _ => hit s.now f fAdcOvr) x.flags
    seen := (adc.first, adc.first + 2 * (adc.codes.length - 1)) :: x.seen.take 63 })

def slotBits (p : Nat) (f : Nat → Bool) : Nat :=
  ((List.range 16).map (fun i => if f (firstRt p + i) then 2 ^ i else 0)).sum

def readImage (s : State) (p : Nat) : Nat :=
  let x := s.pair p
  p + flagImage readMap x.flags
    + slotBits p (fun r => (s.rt r).swap.isSome) * 2 ^ 32 + slotBits p (fun r => (s.rt r).activeB) * 2 ^ 48
    + ((List.range 16).map (fun i => ((s.rt (firstRt p + i)).windows.filter (fun w => w.inFlight (stTick s))).length)).sum * 2 ^ 64
    + b2n x.firB * 2 ^ 71
    + b2n (s.staged.any (fun g => g.kind == .readpairCfg && g.obj == p && bit g.blk 24)) * 2 ^ 72

def readStatusBody (k : Call) (s : State) : Result :=
  let p := fld k.blk 0 16
  checked s (oPair, p)
    [(!portOk p || tidKind p != 1 || statusReqBad k 16 224 readMap, .badParam),
     (k.func != 0 && (portOwner s p).part != k.who.part, .partDenied)]
    (report (if k.clear then s.modPair p (fun x => { x with flags := clearFlags s.now readMap k.blk x.flags }) else s)
      (leBytes 28 (readImage s p)))

def execReadStatus (c : Frame) (s : State) : Out State := .next (serve { op := 0x0406 } c s readStatusBody)

end Sys2Proof.Machine
end

