-- ==== Sys2Proof/Machine/Harness.lean ====
section
/-! DEFINITION. The Harness: producers, routes, cycles and the Harness commands; raw capture
(10 R265 to R284; 05 R137 to R140). -/

namespace Sys2Proof.Machine

/-! ### Producer inputs (10 R266, R267) -/

/-- What feeds a producer input: a line, or a relay from a channel. -/
inductive Source where
  | line (l : Line) | relay (c : Nat)
deriving DecidableEq, Repr

/-- Input Pi of tile channel HC 64 t + c. -/
def tileSource (t c i : Nat) : Source :=
  if i < 4 then
    let r := 32 * t + (if i < 2 then c % 32 else (c + 16) % 32)
    .line (if i % 2 = 0 then .rtDec r else .rtEarly r)
  else if i < 8 then .line (.loom (32 * t + (c + 8 * (i - 4)) % 32))
  else match i with
    | 8 => .line (.warpLate t)
    | 9 => .line (.underrun t)
    | 10 => .line (.marker (c % 8))
    | 11 => .relay (64 * t + (c + 1) % 64)
    | 12 => .relay (64 * t + (c + 32) % 64)
    | 13 => .relay (768 + (64 * t + c) % 256)
    | 14 => .relay (768 + (64 * t + c + 128) % 256)
    | _ => .line (.fire (64 * t + c))

/-- Input Pi of device channel HC 768 + d. -/
def deviceSource (d i : Nat) : Source :=
  match i with
  | 0 => .line (.rtDec d)
  | 1 => .line (.rtDec (128 + d))
  | 2 => .line (.rtEarly d)
  | 3 => .line (.rtEarly (128 + d))
  | 4 => .line (.loom d)
  | 5 => .line (.loom (128 + d))
  | 6 => .line (.warpLate (d % 12))
  | 7 => .line (.marker (d % 8))
  | 8 => .line (.dmaDone (d % 32))
  | 9 => .line (.hook (d % 64))
  | 10 => .line (.uncore (d % 32))
  | 11 => .relay (768 + (d + 1) % 256)
  | 12 => .relay (768 + (d + 16) % 256)
  | 13 => .relay (3 * d + d % 3)
  | 14 => .line (.underrun (d % 12))
  | _ => .line (.fire (768 + d))

def sourceOf (ch i : Nat) : Source :=
  if ch < 768 then tileSource (ch / 64) (ch % 64) i else deviceSource (ch - 768) i

/-- The segment of a channel: its tile, or 12 for the device segment. -/
def segmentOf (ch : Nat) : Nat := if ch < 768 then ch / 64 else 12

/-- Ticks of a relay or a delivery from channel `c` into segment `g` (10 R271). -/
def hopTicks (c g : Nat) : Nat := if segmentOf c = g then 1 else 3

/-- The asynchronous class of a line (10 R269). -/
def lineAsync : Line → Bool
  | .marker _ => true | .dmaDone _ => true | .hook _ => true | .uncore _ => true | .fire _ => true
  | _ => false

/-- Owner of a producer input's source; a HARNESS_FIRE input has none (10 R278). -/
def lineOwner (s : State) : Line → Option Nat
  | .rtDec r => some (ownerOf s 2 (tidOfRt r)).part
  | .rtEarly r => some (ownerOf s 2 (tidOfRt r)).part
  | .loom g => some (ownerOf s oLoom (g / 4)).part
  | .warpLate t => some (tileOwner s t)
  | .underrun t => some (tileOwner s t)
  | .marker m => some (ownerOf s oMarkIn m).part
  | .dmaDone e => some (ownerOf s oDma e).part
  | .hook h => some (ownerOf s oHook h).part
  | .uncore _ => some 0
  | .fire _ => none

/-- A source may feed a channel of partition `p`. -/
def sourceAllowed (s : State) (p : Nat) : Source → Bool
  | .line l => match lineOwner s l with | some q => q == p | none => true
  | .relay c => let o := ownerOf s oChan c; o.part == p || (o.part == 0 && !o.secure)

/-! ### Static cycles (10 R273) -/

/-- The enables and selections in force at a time. -/
structure Wiring where
  pen : Nat → Nat
  /-- The channel an uncore consumer has enabled. -/
  sel : Nat → Option Nat

/-- The selection of an uncore consumer now: a raw capture that waits for its event selects one too. -/
def sinkSel (s : State) (v : Nat) : Option Nat :=
  if 104 ≤ v then
    let c := s.cap (v - 104)
    if c.state == .armed && c.trig then some (uncoreCand v c.cand) else none
  else
    let k := sinkOf s v
    if k.en then some (uncoreCand v k.cand) else none

/-- The last staged block of a kind for an object that applies by `t`. -/
def stagedBlk (s : State) (k : StagedKind) (obj t : Nat) : Option Nat :=
  (s.staged.reverse.find? (fun x => x.kind == k && x.obj == obj && decide (x.at_ ≤ t))).map (fun x => x.blk)

/-- What will be in force at ST `t`: blocks accepted earlier and pending included. -/
def wiringAt (s : State) (t : Nat) : Wiring where
  pen c := match stagedBlk s .harnessCfg c t with
    | some b => fld b 16 16
    | none => (s.chan c).pen
  sel v := match stagedBlk s .harnessSink v t with
    | some b => if bit b 8 then some (uncoreCand v (fld b 9 3)) else none
    | none => sinkSel s v

/-- The consumer that closes a chain through a completion input: the DMA kick of an engine by P8, the
capture start of a quadrant by P10 (UL0 to UL3). -/
def loopConsumer (ch i : Nat) : Option Nat :=
  if ch < 768 then none
  else if i = 8 then some (8 + (ch - 768) % 32)
  else if i = 10 && (ch - 768) % 32 < 4 then some (104 + (ch - 768) % 32)
  else none

/-- The channel that input Pi of `ch` continues, if it is enabled. -/
def inEdge (w : Wiring) (ch i : Nat) : Option Nat :=
  if !bit (w.pen ch) i then none
  else match sourceOf ch i with
    | .relay c => some c
    | .line _ => (loopConsumer ch i).bind w.sel

def preds (w : Wiring) (ch : Nat) : List Nat :=
  if w.pen ch = 0 then [] else (List.range 16).filterMap (inEdge w ch)

/-- Distance from `target` to the frontier, going backward, by fuel. -/
def backDist (w : Wiring) (target : Nat) : Nat → List Nat → List Nat → Nat → Option Nat
  | 0, _, _, _ => none
  | n + 1, front, seen, d =>
    if front.contains target then some d
    else
      let nx := ((front.flatMap (preds w)).filter (fun c => !seen.contains c)).eraseDups
      if nx.isEmpty then none else backDist w target n nx (nx ++ seen) (d + 1)

/-- Length of the shortest cycle through an edge from `u` into `v`. -/
def cycleThrough (w : Wiring) (u v : Nat) : Option Nat :=
  (backDist w v 1024 [u] [u] 0).map (fun d => d + 1)

/-- Length of the shortest cycle through the new edges; 0: none. -/
def cycleLen (w : Wiring) (edges : List (Nat × Nat)) : Nat :=
  (edges.filterMap (fun e => cycleThrough w e.1 e.2)).foldl (fun m n => if m = 0 then n else min m n) 0

/-- The output of R273, and its notice when a cycle counts. -/
def cycleReport (k : Call) (s : State) (op ch n : Nat) : State × List Byte :=
  (if n = 0 then s
   else event s (ownerOf s oChan ch).part 0x8002 (leBytes 16 (pack [(op, 16), (ch, 16), (n, 16), (0, 16), (k.accept, 64)])),
   leBytes 4 (b2n (n != 0) + n * 2 ^ 16))

/-! ### HARNESS_CFG, HARNESS_SINK, HARNESS_FIRE (10 R279 to R281) -/

def harnessCfgBody (k : Call) (s : State) : Result :=
  let ch := fld k.blk 0 10
  let pen := fld k.blk 16 16
  let ap := fld k.blk 64 64
  let t := applyAt ap k.accept
  let o := ownerOf s oChan ch
  let w := wiringAt s t
  let w' : Wiring := { w with pen := fun c => if c = ch then pen else w.pen c }
  let edges := ((List.range 16).filter (fun i => !bit (w.pen ch) i)).filterMap
    (fun i => (inEdge w' ch i).map (fun u => (u, ch)))
  let st := storeImage s 0x0901 oChan ch 16 ch (k.blk % 2 ^ 32)
  let r := cycleReport k st.1 0x0901 ch (cycleLen w' edges)
  checked s (oChan, ch)
    ([(fld k.blk 10 6 != 0 || fld k.blk 32 32 != 0, .badParam),
      (!mayChange k.who o || (List.range 16).any (fun i => bit pen i && !sourceAllowed s o.part (sourceOf ch i)),
        .partDenied)] ++ timeFail ap k.accept ++ [(isStaged s .harnessCfg ch, .busy)])
    { status := .ok, apply := t, items := [st.2], out := r.2
      next := stage r.1 { kind := .harnessCfg, obj := ch, blk := k.blk, at_ := t, func := k.func } }

def execHarnessCfg (c : Frame) (s : State) : Out State := .next (serve { op := 0x0901 } c s harnessCfgBody)

/-- A HARNESS_CFG applies: the registers and their stored copy. -/
def applyHarnessCfg (s : State) (ch blk : Nat) : State :=
  s.modChan ch (fun x => { x with pen := fld blk 16 16, stored := fld blk 16 16 })

/-- The consumer object of uncore consumer `v`: type, identifier and owner (10 R275, R278). -/
def sinkObj (v : Nat) : Nat × Nat :=
  if v < 8 then (oMarkOut, v) else if v < 40 then (oDma, v - 8) else (oCause, v - 40)

def sinkOwner (s : State) (v : Nat) : Owner :=
  if v < 40 then ownerOf s (sinkObj v).1 (sinkObj v).2
  else (fnPart s (tget {} s.ics (v - 40)).func).getD {}

def harnessSinkBody (k : Call) (s : State) : Result :=
  let v := fld k.blk 0 7
  let en := bit k.blk 8
  let ch := uncoreCand v (fld k.blk 9 3)
  let ap := fld k.blk 64 64
  let t := applyAt ap k.accept
  let o := sinkOwner s v
  let w := wiringAt s t
  let w' : Wiring := { w with sel := fun x => if x = v then (if en then some ch else none) else w.sel x }
  let edges := if en && w.sel v != some ch && decide (8 ≤ v) && decide (v < 40) then
      (List.range 8).filterMap (fun j =>
        let d := 768 + (v - 8) + 32 * j
        if bit (w.pen d) 8 then some (ch, d) else none)
    else []
  let st := storeImage s 0x0902 (sinkObj v).1 (sinkObj v).2 16 v (k.blk % 2 ^ 14)
  let r := cycleReport k st.1 0x0902 ch (cycleLen w' edges)
  checked s (sinkObj v)
    ([(decide (v ≥ 104) || fld k.blk 7 1 != 0 || fld k.blk 14 50 != 0 || fld k.blk 12 2 == 3
        || (fld k.blk 12 2 != 0 && decide (v ≥ 8)), .badParam),
      (!mayChange k.who o || (en && !routeOk s o ch), .partDenied)]
      ++ timeFail ap k.accept ++ [(isStaged s .harnessSink v, .busy)])
    { status := .ok, apply := t, items := [st.2], out := r.2
      next := stage r.1 { kind := .harnessSink, obj := v, blk := k.blk, at_ := t, func := k.func } }

def execHarnessSink (c : Frame) (s : State) : Out State := .next (serve { op := 0x0902 } c s harnessSinkBody)

/-- A HARNESS_SINK applies. -/
def applyHarnessSink (s : State) (v blk : Nat) : State :=
  let s := storeSel s (uncoreConsumer v)
  { s with harness := { s.harness with
      sinks := tset {} s.harness.sinks v { en := bit blk 8, cand := fld blk 9 3, action := fld blk 12 2 } } }

def harnessFireBody (k : Call) (s : State) : Result :=
  let ch := fld k.blk 0 10
  let ap := fld k.blk 64 64
  let t := applyAt ap k.accept
  checked s (oChan, ch)
    ([(fld k.blk 10 54 != 0, .badParam), (!mayChange k.who (ownerOf s oChan ch), .partDenied)] ++ timeFail ap k.accept)
    (scheduled (stage s { kind := .harnessFire, obj := ch, blk := k.blk, at_ := t, func := k.func }) t [])

def execHarnessFire (c : Frame) (s : State) : Out State := .next (serve { op := 0x0903 } c s harnessFireBody)

/-! ### HARNESS_STATUS (10 R282) -/

def hLoopDrop : Nat := 48
def hCoinc : Nat := 49
def hSinkConf : Nat := 50
def hTblErr : Nat := 51

def harnessMap : FlagMap := [(48, 64), (49, 80), (50, 96), (51, 112)]

/-- An enabled input of a channel is asynchronous, directly or through relays, by fuel. -/
def asyncReach (s : State) : Nat → List Nat → List Nat → Bool
  | 0, _, _ => false
  | n + 1, front, seen =>
    if front.any (fun c => (List.range 16).any (fun i => bit (s.chan c).pen i &&
        (match sourceOf c i with | .line l => lineAsync l | .relay _ => false))) then true
    else
      let nx := (front.flatMap (fun c => (List.range 16).filterMap (fun i =>
        if bit (s.chan c).pen i then (match sourceOf c i with | .relay r => some r | .line _ => none)
        else none))).filter (fun c => !seen.contains c)
      let nx := nx.eraseDups
      if nx.isEmpty then false else asyncReach s n nx (nx ++ seen)

def harnessImage (s : State) (ch : Nat) : Nat :=
  let x := s.chan ch
  let o := ownerOf s oChan ch
  ch + x.pen * 2 ^ 16 + o.part * 2 ^ 32 + b2n o.secure * 2 ^ 36 + b2n (asyncReach s 1024 [ch] [ch]) * 2 ^ 37
    + flagImage harnessMap x.flags + x.assertCnt * 2 ^ 128

def harnessStatusBody (k : Call) (s : State) : Result :=
  let ch := fld k.blk 0 10
  let a := fld k.blk 128 32
  checked s (oChan, ch)
    [(statusReqBad k 10 192 harnessMap || (k.clear && a != 0 && a != 0xFFFFFFFF), .badParam),
     (k.func != 0 && (ownerOf s oChan ch).part != k.who.part, .partDenied)]
    (report (if k.clear then s.modChan ch (fun x => { x with
        flags := clearFlags s.now harnessMap k.blk x.flags, assertCnt := if a = 0 then 0 else x.assertCnt }) else s)
      (leBytes 24 (harnessImage s ch)))

def execHarnessStatus (c : Frame) (s : State) : Out State := .next (serve { op := 0x0904 } c s harnessStatusBody)

/-! ### Marker inputs (10 R270) -/

/-- An edge at a marker input ball: the level changes, and the tick boundaries that follow sample it. -/
def execMarkerInputEdge (marker : Fin 8) (rising : Bool) (s : State) : Out State :=
  .next { s with markIn := tmod {} s.markIn marker (fun m => { m with level := rising }) }

/-- The samples at the boundary that begins the present tick; a rise asserts two ticks later (R270). -/
def sampleMarkers (s : State) : State :=
  (List.range 8).foldl (fun s m =>
    let x := tget {} s.markIn m
    let s := { s with markIn := tmod {} s.markIn m (fun y => { y with samples := (y.level :: y.samples).take 8 }) }
    if x.level && !(x.samples.headD false) then assertAt s (.marker m) (s.now + 2) 1 else s) s

/-! ### Raw capture (05 R137 to R140) -/

def quadOfTile (t : Nat) : Nat := t / 3

/-- Earliest capture start after acceptance, in samples (05 R138). -/
def captureLead : Nat := 750 * 32

/-- RAW_CAPTURE (05 R138, R139; 10 R278). On a pair of an OFF quadrant, which 17 R460 does not name, it is answered NOT_ACTIVE
(DESIGN CHOICE, log 116). -/
def rawCaptureBody (k : Call) (s : State) : Result :=
  let b := k.blk
  let p := fld b 0 16
  let q := quadOfTile (tidTile p)
  let len := fld b 32 24
  let a := fld b 64 48
  let at_ := fld b 128 64
  let trig := bit b 16
  let v := 104 + q
  let ch := uncoreCand v (fld b 17 3)
  let c := s.cap q
  let w := wiringAt s (2 ^ 64)
  let w' : Wiring := { w with sel := fun x => if x = v then some ch else w.sel x }
  let edges := if trig then (List.range 8).filterMap (fun j =>
      let d := 768 + q + 32 * j
      if bit (w.pen d) 10 then some (ch, d) else none) else []
  let s' := (storeSel s (uncoreConsumer v)).modCap q (fun x => { x with
    state := .armed, pair := p, trig := trig, cand := fld b 17 3, length := len, addr := a
    label := if trig then 0 else at_, written := 0, func := k.func, part := k.who.part, hop := 0, abort := none })
  let r := cycleReport k s' 0x0407 ch (if trig then cycleLen w' edges else 0)
  checked s (oPair, p)
    ([(bit b 20 || fld b 21 11 != 0 || fld b 56 8 != 0 || fld b 112 16 != 0 || fld b 192 64 != 0
        || !portOk p || tidKind p != 1 || len == 0 || a % 128 != 0, .badParam),
      (tileDown s (tidTile p), .notActive),
      (chanOf a != q || !inDdr s a (32 * len), .lenExceeds),
      (!mayChange k.who (portOwner s p) || !ddrMayChange s k.who a (32 * len)
        || (trig && !routeOk s (portOwner s p) ch), .partDenied),
      (!trig && at_ % 32 != 0, .badTime), (!trig && decide (at_ < k.accept + captureLead), .tooLate),
      (c.state == .armed || c.state == .running, .busy)])
    { status := .ok, next := r.1, out := r.2, apply := if trig then 0 else at_ }

def execRawCapture (c : Frame) (s : State) : Out State := .next (serve { op := 0x0407 } c s rawCaptureBody)

/-- A capture ends (05 R140): DONE, UL0 to UL3 with the hop of R272, and the notice, whose payload the spec
does not give (DESIGN CHOICE, log 22). -/
def captureEnd (s : State) (q : Nat) : State :=
  let c := s.cap q
  let s := s.modCap q (fun x => { x with state := .done, abort := none })
  let s := assertAt s (.uncore q) s.now (c.hop + 1)
  let f := freePayload s
  event f.1 c.part 0x8001 f.2

/-- ABORT: the capture ends at the next tick (05 R139). Of the fields that an ABORT ignores, PAIR still names the quadrant: a
PAIR that is no readout pair, or one of an OFF quadrant, is answered BAD_PARAM or NOT_ACTIVE, which the spec leaves open
(DESIGN CHOICE, log 115). -/
def rawCaptureAbortBody (k : Call) (s : State) : Result :=
  let p := fld k.blk 0 16
  let q := quadOfTile (tidTile p)
  let c := s.cap q
  checked s (oPair, p)
    [(!bit k.blk 20 || !portOk p || tidKind p != 1, .badParam), (tileDown s (tidTile p), .notActive),
     (!mayChange k.who (portOwner s p) || ((c.state == .armed || c.state == .running) && c.part != k.who.part),
       .partDenied)]
    { status := .ok, out := leBytes 4 0
      next := if c.state == .armed || c.state == .running then s.modCap q (fun x => { x with abort := some s.now }) else s }

def execRawCaptureAbort (c : Frame) (s : State) : Out State := .next (serve { op := 0x0407 } c s rawCaptureAbortBody)

/-- The capture's Harness event, delivered in the present tick e, starts it at ADC label 32 × (e − 43) (05 R138). -/
def captureEvent (s : State) (q hop : Nat) : State :=
  let c := s.cap q
  if c.state == .armed && c.trig then
    s.modCap q (fun x => { x with state := .running, label := s.st - 32 * 43, hop := hop })
  else s

/-- START_AT is reached: the capture runs (05 R138). A label is at the tap 44 ticks after its ST. -/
def execCaptureStart (quad : Fin 4) (s : State) : Out State :=
  let c := s.cap quad
  .next (if c.state == .armed && !c.trig && decide (c.label + 44 * 32 ≤ s.st) then
      s.modCap quad (fun x => { x with state := .running })
    else s)

/-- The 16-bit container of a code (05 R137). -/
def codeBytes (c : BitVec 12) : List Byte := leBytes 2 (c.toNat * 16 + b2n (fullScale c.toInt))

/-- An ABORT of an earlier tick ends the capture (05 R139). -/
def abortDue (s : State) (c : Capture) : Bool :=
  (c.state == .armed || c.state == .running) && (match c.abort with | some t => decide (t < s.now) | none => false)

/-- The first `n` ticks of `codes` are written to the capture's addresses (05 R137, R140). -/
def writeCapture (s : State) (q n : Nat) (codes : List (BitVec 12)) : State :=
  let c := s.cap q
  let used := codes.take (16 * n)
  let w := if n = 0 then (s, []) else ddrWrite s c.addr (used.flatMap codeBytes)
  let s := memEvents w.1 c.part (.tile (tidTile c.pair)) w.2
  (noteCodes s c.pair { first := c.label, codes := used }).modCap q (fun x => { x with written := n })

/-- TICKS_WRITTEN of a running capture: what has passed the tap, but for what its buffer of 2,048 ticks may still hold, which
the spec leaves open (05 R140; DESIGN CHOICE, log 122). -/
def ticksWritten (s : State) (c : Capture) : Nat :=
  let hi := min c.length ((s.st - c.label) / 32 - 44)
  let lo := max c.written (hi - 2048)
  lo + Config.freeNat s.freeCtr % (hi + 1 - lo)

/-- A running capture is looked at: TICKS_WRITTEN never falls. -/
def noteTicks (s : State) (q : Nat) : State :=
  let c := s.cap q
  if c.state ≠ .running then s
  else { s.modCap q (fun x => { x with written := ticksWritten s c }) with freeCtr := s.freeCtr + 1 }

/-- A capture stops without its codes being brought: the ticks in DDR hold samples that the spec cannot give (05 R140;
DESIGN CHOICE, log 122). -/
def cutCapture (s : State) (q : Nat) : State :=
  let s := noteTicks s q
  let c := s.cap q
  if c.state ≠ .running then s
  else
    let n := 16 * c.written
    writeCapture { s with freeCtr := s.freeCtr + n } q c.written
      ((List.range n).map (fun i => BitVec.ofNat 12 (Config.freeNat (s.freeCtr + i))))

/-- A capture ends: the whole ticks of `codes` are in DDR (05 R140). It ends complete, aborted, or early with
CAPOVF where its buffer is full. -/
def execCaptureDone (quad : Fin 4) (codes : List (BitVec 12)) (isOverflow : Bool) (s : State) : Out State :=
  let c := s.cap quad
  let n := if c.state == .running then min c.length (codes.length / 16) else 0
  .next (if abortDue s c || (c.state == .running && (isOverflow || n == c.length)) then
      captureEnd ((writeCapture s quad n codes).modCap quad (fun x => { x with
        flags := if !abortDue s c && n != c.length then hit s.now x.flags 4 else x.flags })) quad
    else s)

def capMap : FlagMap := [(4, 32)]

def capCode : CapState → Nat
  | .idle => 0 | .armed => 1 | .running => 2 | .done => 3

def captureImage (s : State) (q : Nat) : Nat :=
  let c := s.cap q
  q + capCode c.state * 4 + flagImage capMap c.flags + c.pair * 2 ^ 16 + c.written * 2 ^ 48 + c.label * 2 ^ 128

/-- The owner of a quadrant's capture: the partition that armed it (DEDUCED, log 23). -/
def captureStatusBody (k : Call) (s : State) : Result :=
  let q := fld k.blk 0 2
  let u := noteTicks s q
  checked s (oPair, (s.cap q).pair)
    [(statusReqBad k 2 192 capMap, .badParam), (k.func != 0 && (s.cap q).part != k.who.part, .partDenied)]
    (report (if k.clear then u.modCap q (fun x => { x with flags := clearFlags s.now capMap k.blk x.flags }) else u)
      (leBytes 24 (captureImage u q)))

def execCaptureStatus (c : Frame) (s : State) : Out State := .next (serve { op := 0x0408 } c s captureStatusBody)

end Sys2Proof.Machine
end

