-- ==== Sys2Proof/Machine/Shots.lean ====
section
/-! DEFINITION. Shots and their marks, orderly stops as they cover scopes, and mutes
(09 R260 to R263; 18 R477 to R479; 03 R79). -/

namespace Sys2Proof.Machine

def State.loom (s : State) (l : Nat) : Loom := tget {} s.looms l
def State.modLoom (s : State) (l : Nat) (g : Loom → Loom) : State := { s with looms := tmod {} s.looms l g }

def tileOfLoom (l : Nat) : Nat := l / 8
def quadOfLoom (l : Nat) : Nat := l / 24
def loomOwner (s : State) (l : Nat) : Owner := ownerOf s oLoom l

/-! ### Marks (09 R260 to R262) -/

/-- Causes of R263 by bit. -/
def cStop : Nat := 0
def cUnderrun : Nat := 1
def cMemErr : Nat := 2
def cTaint : Nat := 3
def cHalt : Nat := 4

/-- The mark of a shot of Loom `l` that started at ST `start`. -/
def markOf (s : State) (l start : Nat) : Option ShotMark := (s.loom l).marks.find? (fun m => m.start == start)

/-- The shot was marked by tick `t`; a mark that its Loom's condition makes in the present sample tick counts (09 R261,
R262). -/
def markedBy (s : State) (l start t : Nat) : Bool :=
  (match markOf s l start with | some m => decide (m.tick ≤ t) | none => false)
    || ((s.loom l).tainted && (s.loom l).lastStart == start && decide (stTick s ≤ t))

/-- The shot was marked UNDERRUN by tick `t`. -/
def underrunBy (s : State) (l start t : Nat) : Bool :=
  match markOf s l start with
  | some m => m.causes.any (fun c => c.1 == cUnderrun && decide (c.2 ≤ t + 1))
  | none => false

/-- The shot runs. -/
def shotRuns (x : Loom) (start : Nat) : Bool := x.state == .running && x.lastStart == start

/-- Mark a shot in tick `t` (09 R261): causes add up, the earliest tick stands. A shot that has ended is
reported at once (R263). -/
def markShot (s : State) (l start shot cause t : Nat) : State :=
  s.modLoom l (fun x =>
    let add (c : Tbl Nat) : Tbl Nat := if c.any (fun e => e.1 == cause) then c else tput c cause (t + 1)
    if x.marks.any (fun m => m.start == start) then
      { x with marks := x.marks.map (fun m =>
          if m.start = start then { m with tick := min m.tick t, causes := add m.causes } else m) }
    else
      { x with marks := { start := start, shot := shot, tick := t, causes := add []
                          ended := if shotRuns x start then none else some s.now } :: x.marks })

/-- A shot of Loom `l` runs in the present tick, the last tick of its END word included (08 R221). -/
def shotInTick (s : State) (x : Loom) : Bool := x.state == .running || x.last == s.now + 1

/-- Mark the running shot of Loom `l` in the present tick. -/
def markRunning (s : State) (l cause : Nat) : State :=
  let x := s.loom l
  if shotInTick s x then markShot s l x.lastStart x.shot cause (stTick s) else s

/-- Mark the running shots of the Looms of `p`. -/
def markLooms (s : State) (p : Nat → Bool) (cause : Nat) : State :=
  ((List.range 96).filter p).foldl (fun s l => markRunning s l cause) s

/-- A shot of Loom `l` ends in the present tick: its notice falls due in the next (09 R263). -/
def shotEnded (s : State) (l : Nat) : State :=
  s.modLoom l (fun x => { x with
    word := none
    marks := x.marks.map (fun m => if m.start = x.lastStart && m.ended.isNone then { m with ended := some s.now } else m) })

/-- The SHOTMARK record (09 R263). -/
def shotMarkRecord (l : Nat) (m : ShotMark) : List Byte :=
  let c (i : Nat) : Nat := b2n (m.causes.any (fun e => e.1 == i))
  leBytes 32 (pack [(0x30, 16), (l, 7), (0, 1), (c 0, 1), (c 1, 1), (c 2, 1), (c 3, 1), (c 4, 1), (0, 3),
    (m.shot, 32), (m.start, 64), (32 * m.tick, 64)])

/-- Notices of shots that ended in an earlier tick (09 R263). -/
def sendShotMarks (s : State) : State :=
  s.looms.foldl (fun s e =>
    e.2.marks.reverse.foldl (fun s m =>
      match m.ended with
      | some t =>
        if t < s.now && !m.sent then
          (errRecord s (loomOwner s e.1).part (shotMarkRecord e.1 m)).modLoom e.1 (fun x => { x with
            marks := x.marks.map (fun n => if n.start = m.start then { n with sent := true } else n) })
        else s
      | none => s) s) s

/-! ### Orderly stops (18 R477 to R479, R481) -/

def quadStop (s : State) (q : Nat) : Option StopRun := tget none s.lehr.quads q

/-- A stop, in progress or held, or the analogue trip, covers quadrant `q`. -/
def stopCovers (s : State) (q : Nat) : Bool := s.lehr.tripped || s.lehr.dev.isSome || (quadStop s q).isSome

/-- An orderly stop mutes quadrant `q` (03 R79, 18 R477). -/
def stopOrderly (s : State) (q : Nat) : Bool :=
  let past (r : Option StopRun) : Bool := match r with | some r => decide (1 ≤ r.step) | none => false
  past s.lehr.dev || past (quadStop s q)

/-- The level of the THERM_TRIP_N ball (18 R481): low while TRIPPED. -/
def thermTripN (s : State) : Bool := !s.lehr.tripped

/-- The STOP mute cause holds in quadrant `q` (03 R79, 18 R477, R481). -/
def stopMutes (s : State) (q : Nat) : Bool := s.lehr.tripped || stopOrderly s q

/-! ### Mutes (03 R79, 07 R185) -/

/-- The clock of a port's quadrant is gone (03 R79): REFCLK is absent, or the PLL is not locked. REFLOSS mutes while REFCLK is
absent, not while its sticky flag stands or the state is LOST (DEDUCED, log 108). -/
def clockMuted (s : State) (p : Nat) : Bool := !s.time.refclk || !(s.quad (tidTile p / 3)).pll

/-- The causes of PORT_STATUS [23:17], NOTYET first (03 R79, R88). Until the tile is first ACTIVE the field holds its reset
value, NOTYET alone (DEDUCED, log 72). -/
def muteCauses (s : State) (p : Nat) : List Bool :=
  let t := tidTile p
  let x := s.port p
  if !(s.tile t).everActive then [true]
  else [false, !tileActive s t, !x.outEn, decide (s.st < x.settle), stopMutes s (t / 3), clockMuted s p,
    s.gaf.state == .sealed]

def portMuted (s : State) (p : Nat) : Bool := (muteCauses s p).any id

/-- The CAUSE field. -/
def causeBits (s : State) (p : Nat) : Nat :=
  ((muteCauses s p).zipIdx.map (fun c => if c.1 then 2 ^ c.2 else 0)).sum

end Sys2Proof.Machine
end

