-- ==== Sys2Proof/Machine/Ports.lean ====
section
/-! DEFINITION. The commands of drive ports, readout tones and flux ports, and of thread lists
(03 R71 to R88; 05 R141, R142; 07 R181 to R188, R197). -/

namespace Sys2Proof.Machine

/-! ### Frames (02 R47 to R56) -/

/-- A list of (label, value), newest first: the value in force at a label. -/
def inForce {α : Type} (d : α) (l : List (Nat × α)) (n : Nat) : α :=
  match l.find? (fun e => decide (e.1 ≤ n)) with | some e => e.2 | none => d

/-- Log a value from label `n`: entries older than 2^18 samples that no label since needs are dropped. -/
def logAt {α : Type} (l : List (Nat × α)) (n : Nat) (v : α) : List (Nat × α) :=
  let l := (l.filter (fun e => decide (e.1 < n)))
  (n, v) :: (l.takeWhile (fun e => decide (n < e.1 + 2 ^ 18)) ++ (l.dropWhile (fun e => decide (n < e.1 + 2 ^ 18))).take 1)

/-- P of a thread: ZACC × 2^16 (02 R47). -/
def phaseOffset (z : BitVec 32) : BitVec 48 := BitVec.ofNat 48 (z.toNat * 65536)

/-- Carrier, F_o and P of a thread in force at a label. -/
def carrierAt (s : State) (p n : Nat) : BitVec 48 := inForce 0 (s.port p).carriers n
def frameAt (s : State) (t n : Nat) : BitVec 48 × BitVec 48 := inForce (0, 0) (s.thread t).frames n

/-- F = F_c + F_o and P of a thread at a label (02 R47). -/
def fullFrame (s : State) (t n : Nat) : BitVec 48 × BitVec 48 :=
  (carrierAt s (portOfTid t) n + (frameAt s t n).1, (frameAt s t n).2)

/-- A change of tone frame marks the windows of the thread that hold its tick (05 R127). -/
def frameChanged (s : State) (t : Nat) : State :=
  if tidKind t = 1 then
    s.modRt (rtOfTid t) (fun x => { x with windows := x.windows.map (fun w =>
      if decide (w.t0 < stTick s) && decide (stTick s ≤ w.tLast) then { w with frameChg := true } else w) })
  else s

/-- A thread takes a new F_o and ZACC from the first sample of the present tick (02 R51). -/
def setFrame (s : State) (t : Nat) (fo : BitVec 48) (z : BitVec 32) : State :=
  frameChanged (s.modThread t (fun x => { x with
    fo := fo, zacc := z, frames := logAt x.frames s.st (fo, phaseOffset z) })) t

/-! ### PORT_CFG and FLUX_CFG (03 R82, R83; 07 R186) -/

def portBad (p : Nat) : Bool := !portOk p || decide (tidKind p > 1)

def portCfgBody (k : Call) (s : State) : Result :=
  let b := k.blk
  let p := fld b 0 16
  let ap := fld b 128 64
  checked s (portType p, p)
    ([(portBad p || decide (fld b 18 5 > 20) || fld b 24 8 != 0 || fld b 89 39 != 0 || fld b 192 64 != 0, .badParam),
      (tileDown s (tidTile p), .notActive), (!mayChange k.who (portOwner s p), .partDenied)]
      ++ timeFail ap k.accept ++ [(isStaged s .portCfg p, .busy)])
    (let st := storeImage s 0x0201 (portType p) p 32 p (b % 2 ^ 89 - (if bit b 23 then 2 ^ 23 else 0))
     scheduled (stage st.1 { kind := .portCfg, obj := p, blk := b, at_ := applyAt ap k.accept, func := k.func })
       (applyAt ap k.accept) [st.2])

def execPortCfg (c : Frame) (s : State) : Out State := .next (serve { op := 0x0201 } c s portCfgBody)

/-- Samples of a level change's mute: 7,500 ticks (03 R78). -/
def settleSamples : Nat := 240000

/-- A new USER_SKEW: its tick is formed from both trim values (03 R83). -/
def newTrim (s : State) (x : Port) (skew : Int) : Option (Int × Nat) :=
  if x.skew = skew then x.trims else some (x.skew, s.now)

/-- A PORT_CFG applies (03 R53, R78, R83). -/
def applyPortCfg (s : State) (p b : Nat) : State :=
  let fc := BitVec.ofNat 48 (fld b 32 48)
  let old := s.port p
  let s := s.modPort p (fun x => { x with
    outEn := bit b 16, mode := bit b 17, fsLevel := fld b 18 5, pdB := x.pdB != bit b 23
    settle := if x.fsLevel = fld b 18 5 then x.settle else s.st + settleSamples
    carrier := fc, carriers := if x.carrier = fc then x.carriers else logAt x.carriers s.st fc
    skew := sgn 9 (fld b 80 9), trims := newTrim s x (sgn 9 (fld b 80 9)) })
  if tidKind p = 1 && old.carrier != fc then
    (List.range 16).foldl (fun s i => frameChanged s (mkTid (tidTile p) 1 (16 * tidIndex p + i))) s
  else s

def fluxBad (p : Nat) : Bool := !portOk p || tidKind p != 2

def fluxCfgBody (k : Call) (s : State) : Result :=
  let b := k.blk
  let p := fld b 0 16
  let ap := fld b 128 64
  checked s (oFluxPort, p)
    ([(fluxBad p || fld b 17 6 != 0 || fld b 24 56 != 0 || fld b 89 39 != 0 || fld b 192 64 != 0, .badParam),
      (tileDown s (tidTile p), .notActive), (!mayChange k.who (portOwner s p), .partDenied)]
      ++ timeFail ap k.accept ++ [(isStaged s .fluxCfg p, .busy)])
    (let st := storeImage s 0x0601 oFluxPort p 32 p (b % 2 ^ 89 - (if bit b 23 then 2 ^ 23 else 0))
     scheduled (stage st.1 { kind := .fluxCfg, obj := p, blk := b, at_ := applyAt ap k.accept, func := k.func })
       (applyAt ap k.accept) [st.2])

def execFluxCfg (c : Frame) (s : State) : Out State := .next (serve { op := 0x0601 } c s fluxCfgBody)

/-- A FLUX_CFG applies; the IIR states carry over a swap (07 R183, R186). -/
def applyFluxCfg (s : State) (p b : Nat) : State :=
  s.modPort p (fun x => { x with
    outEn := bit b 16, pdB := x.pdB != bit b 23
    skew := sgn 9 (fld b 80 9), trims := newTrim s x (sgn 9 (fld b 80 9)) })

/-! ### THREAD_CFG (03 R84; 05 R141, R142; 07 R188) -/

/-- Discrimination fields of a readout THREAD_CFG. -/
def discOf (b : Nat) : Disc :=
  { l3 := bit b 35, eloEn := bit b 36, ehiEn := bit b 37, estLo := fld b 38 2, estHi := fld b 40 2
    confShift := fld b 42 5, shCic := fld b 48 5, shFir := fld b 53 5, shInt := fld b 58 5
    axI := sgn 18 (fld b 64 18), axQ := sgn 18 (fld b 88 18), p0 := sgn 32 (fld b 192 32)
    thA := sgn 32 (fld b 224 32), thB := sgn 32 (fld b 256 32), eLo := sgn 32 (fld b 288 32)
    eHi := sgn 32 (fld b 320 32) }

/-- The checks of R142. -/
def discBad (d : Disc) : Bool :=
  decide (d.thA > d.thB) || (d.eloEn && d.ehiEn && decide (d.eLo ≥ d.eHi))
    || d.estLo == 3 || d.estHi == 3 || (!d.l3 && (d.estLo == 2 || d.estHi == 2))
    || decide (d.shCic > 20) || decide (d.shFir > 16)

/-- Reserved fields of the drive and flux block, and of the readout block. -/
def threadRsv : List (Nat × Nat) := [(17, 1), (35, 93), (192, 64)]
def rthreadRsv : List (Nat × Nat) := [(17, 1), (47, 1), (63, 1), (82, 6), (106, 22), (352, 160)]

/-- The readout block's image at reset, after its TID (R141). -/
def rthreadDefault : Nat := 2 ^ 40 + 20 * 2 ^ 48 + 16 * 2 ^ 53 + 15 * 2 ^ 58 + 0x1FFFF * 2 ^ 64

def threadCfgBody (k : Call) (s : State) : Result :=
  let b := k.blk
  let t := fld b 0 16
  let ap := fld b 128 64
  let ro := tidKind t == 1
  let n := if ro then 64 else 32
  let img := b % 2 ^ (8 * n) - ap * 2 ^ 128
  checked s (tidType t, t)
    ([(tidKind t == 3 && tidOk t, .badParam), (!tidOk t, .badTid),
      (!rsvOk b (if ro then rthreadRsv else threadRsv) || (ro && discBad (discOf b)), .badParam),
      (tileDown s (tidTile t), .notActive), (!mayChange k.who (threadOwner s t), .partDenied)]
      ++ timeFail ap k.accept)
    (let st := storeImage s 0x0202 (tidType t) t n (t + (if ro then rthreadDefault else 0)) img
     scheduled (stage st.1 { kind := .threadCfg, obj := t, blk := b, at_ := applyAt ap k.accept, func := k.func })
       (applyAt ap k.accept) [st.2])

def execThreadCfg (c : Frame) (s : State) : Out State := .next (serve { op := 0x0202 } c s threadCfgBody)

/-- A play ends: a ring it played from starts to prime again (04 R106). -/
def releaseRing (s : State) (t : Nat) : State :=
  match (s.thread t).play with
  | some p =>
    if dStreamed p.desc && !p.busy then
      s.modBobbin (tidTile t) (fun b => { b with rings := tmod {} b.rings (dSlot p.desc) freshRing })
    else s
  | none => s

/-- The thread player stops at once (03 R84): nothing plays, nothing is pending. -/
def stopPlayer (s : State) (t : Nat) : State :=
  (releaseRing s t).modThread t (fun x => { x with play := none, gap := none, now_ := none, next_ := none })

/-- An entry of `w` bits in `n` bytes, of value `v`, as a read delivers it; a bad byte leaves the value open (14 R383;
DESIGN CHOICE, log 120). -/
def entryRead (s : State) (t list i n w : Nat) (v : Int) : Int :=
  let d := (v % 2 ^ (8 * n)).toNat
  match slicedValue s.mem n (listAddr t list i) d with
  | some u => if u = d then v else sgn w (u % 2 ^ w)
  | none => sgn w (Config.freeInt s.freeCtr % 2 ^ w).toNat

/-- What the read reports (14 R391). -/
def noteEntryRead (s : State) (t list i n : Nat) : State :=
  let a := listAddr t list i
  let bad := (slicedValue s.mem n a 0).isNone
  let s := memEvents s (threadOwner s t).part (.tile (tidTile t)) (slicedEvents s.mem n a)
  if bad then { s with freeCtr := s.freeCtr + 1 } else s

/-- Entries of a thread's lists as they are read (03 R71, 07 R180). -/
def freqEntry (s : State) (t i : Nat) : BitVec 48 := BitVec.ofInt 48 (entryRead s t 0 i 8 48 (tget 0 (s.thread t).freqs i).toInt)
def phaseEntry (s : State) (t i : Nat) : BitVec 32 := BitVec.ofInt 32 (entryRead s t 1 i 4 32 (tget 0 (s.thread t).phases i).toInt)
def ampEntry (s : State) (t i : Nat) : Int := entryRead s t 2 i 4 18 (tget 0 (s.thread t).amps i)
def lvlEntry (s : State) (t i : Nat) : Int := entryRead s t 0 i 4 18 (tget 0 (s.thread t).lvls i)

/-- Set-frequency-index: F_o and ZACC from the first sample of the tick on (02 R51). -/
def selectFreq (s : State) (t i : Nat) (z : BitVec 32) : State :=
  setFrame (noteEntryRead (s.modThread t (fun x => { x with freqIdx := i })) t 0 i 8) t (freqEntry s t i) z

/-- Set-amplitude-index (03 R62, R72). -/
def selectAmp (s : State) (t i : Nat) : State :=
  noteEntryRead (s.modThread t (fun x => { x with ampIdx := i, amp := ampEntry s t i })) t 2 i 4

/-- A flux level by its index (07 R180). -/
def selectLvl (s : State) (t i : Nat) : State :=
  noteEntryRead (s.modThread t (fun x => { x with lvlIdx := i, lvl := lvlEntry s t i })) t 0 i 4

/-- A THREAD_CFG applies (03 R84, 05 R142, 07 R188): selections, ZACC := 0, TS_SEL pending. -/
def applyThreadCfg (s : State) (t b : Nat) : State :=
  let fi := fld b 18 6
  let ai := fld b 24 8
  let s := selectAmp (s.modThread t (fun x => { x with en := bit b 16, pendSet := fld b 32 3 })) t ai
  let s := if tidKind t = 2 then selectLvl s t fi else selectFreq s t fi 0
  let s := if tidKind t = 1 then s.modRt (rtOfTid t) (fun x => { x with disc := discOf b }) else s
  if bit b 16 then s else stopPlayer s t

/-! ### TSET_CFG (03 R85) -/

def tsetEntry (b i : Nat) : Nat := fld b (32 + 16 * i) 16

/-- Entries a port has: its thread slots (03 R85, 07 R188). -/
def portSlots (p : Nat) : Nat := match tidKind p with | 0 => 4 | 1 => 16 | _ => 1

def tsetCfgBody (k : Call) (s : State) : Result :=
  let b := k.blk
  let p := fld b 0 16
  let set := fld b 16 3
  checked s (portType p, p)
    [(!portOk p || fld b 19 13 != 0 || (List.range 16).any (fun i => decide (tsetEntry b i ≥ 2 ^ 14))
        || (List.range 16).any (fun i => decide (portSlots p ≤ i) && tsetEntry b i != 0), .badParam),
     (tileDown s (tidTile p), .notActive), (!mayChange k.who (portOwner s p), .partDenied)]
    (let st := storeImage s 0x0203 (portType p) (p + set * 2 ^ 16) 36 (p + set * 2 ^ 16) (b % 2 ^ 288)
     done (st.1.modPort p (fun x => { x with
       tset := (List.range 16).foldl (fun t i => tset 0 t (16 * set + i) (tsetEntry b i)) x.tset }))
       [{ st.2 with objId := p }])

def execTsetCfg (c : Frame) (s : State) : Out State := .next (serve { op := 0x0203 } c s tsetCfgBody)

/-! ### LIST_WRITE (03 R86; 07 R181, R197) -/

/-- What LIST names for a thread of a kind: (entries, container bytes, value bits). -/
def listForm (kind list : Nat) : Option (Nat × Nat × Nat) :=
  match kind, list with
  | 0, 0 => some (64, 8, 48) | 0, 1 => some (64, 4, 32) | 0, 2 => some (256, 4, 18)
  | 1, 0 => some (64, 8, 48) | 1, 1 => some (64, 4, 32) | 1, 2 => some (256, 4, 18)
  | 2, 0 => some (64, 4, 18) | 2, 2 => some (256, 4, 18)
  | 3, 0 => some (64, 4, 20)
  | _, _ => none

/-- Container j of a LIST_WRITE block. -/
def listValue (b cb j : Nat) : Nat := fld b (64 + 8 * cb * j) (8 * cb)

/-- A frequency in range (02 R50). -/
def freqOk (v : Int) : Bool := decide (-(0x066666666666 : Int) ≤ v) && decide (v ≤ 0x066666666666)

/-- Write the entries of a list. -/
def writeList (s : State) (t list first n b cb w : Nat) : State :=
  (List.range n).foldl (fun s j =>
    let v := listValue b cb j
    let i := first + j
    if tidKind t = 3 then
      { s with bias := tmod {} s.bias (32 * tidTile t + tidIndex t) (fun x => { x with
          presets := tset 0 x.presets i (sgn w (v % 2 ^ w)) }) }
    else (clearErrs s (listAddr t list i) cb).modThread t (fun x =>
      match list with
      | 0 => if tidKind t = 2 then { x with lvls := tset 0 x.lvls i (sgn w (v % 2 ^ w)) }
             else { x with freqs := tset 0 x.freqs i (BitVec.ofNat 48 v) }
      | 1 => { x with phases := tset 0 x.phases i (BitVec.ofNat 32 v) }
      | _ => { x with amps := tset 0 x.amps i (sgn w (v % 2 ^ w)) })) s

def listWriteBody (k : Call) (s : State) : Result :=
  let b := k.blk
  let t := fld b 0 16
  let list := fld b 16 2
  let first := fld b 32 8
  let n := fld b 40 9
  let f := (listForm (tidKind t) list).getD (0, 4, 32)
  let vs := (List.range n).map (listValue b f.2.1)
  checked s (tidType t, t)
    [(!tidOk t, .badTid),
     ((listForm (tidKind t) list).isNone || n == 0 || fld b 18 14 != 0 || fld b 49 15 != 0, .badParam),
     (decide (first + n > f.1), .lenExceeds),
     (vs.any (fun v => !extended (8 * f.2.1) f.2.2 v) || (f.2.2 == 48 && vs.any (fun v => !freqOk (sgn 48 (v % 2 ^ 48)))),
       .badParam),
     (tidKind t != 3 && tileDown s (tidTile t), .notActive), (!mayChange k.who (threadOwner s t), .partDenied)]
    (let len := 8 + f.2.1 * n
     let st := storeImage s 0x0204 (tidType t) (t + list * 2 ^ 16) len 0 (b % 2 ^ (8 * len))
     done (writeList st.1 t list first n b f.2.1 f.2.2) [{ st.2 with objId := t }])

def execListWrite (c : Frame) (s : State) : Out State := .next (serve { op := 0x0204 } c s listWriteBody)

/-! ### PD_COEF and FLUX_PD (03 R87; 07 R187) -/

/-- Write the bank that is not active. -/
def writeBank (s : State) (p : Nat) (t : Tbl Int) : State :=
  s.modPort p (fun x => if x.pdB then { x with pd0 := t } else { x with pd1 := t })

/-- The active predistortion bank. -/
def activePd (x : Port) : Tbl Int := if x.pdB then x.pd1 else x.pd0

def pdCoefBody (k : Call) (s : State) : Result :=
  let p := fld k.blk 0 16
  checked s (portType p, p)
    [(portBad p || fld k.blk 16 16 != 0 || !coefsOk k.blk, .badParam),
     (tileDown s (tidTile p), .notActive), (!mayChange k.who (portOwner s p), .partDenied)]
    (let st := storeImage s 0x0205 (portType p) p 132 (p + identityImage) (k.blk % 2 ^ 1056)
     done (writeBank st.1 p (coefsOf k.blk)) [st.2])

def execPdCoef (c : Frame) (s : State) : Out State := .next (serve { op := 0x0205 } c s pdCoefBody)

/-- Coefficients of a FLUX_PD block: c_j at j, P_i at 64 + i, G_i at 68 + i. -/
def fluxCoefs (b : Nat) : Tbl Int :=
  let t := (List.range 64).foldl (fun t j => tset (if j = 0 then 65536 else 0) t j (sgn 18 (fld b (288 + 32 * j) 18))) []
  (List.range 4).foldl (fun t i =>
    tset 0 (tset 0 t (64 + i) (fld b (32 + 64 * i) 24)) (68 + i) (sgn 18 (fld b (64 + 64 * i) 18))) t

def fluxPdBad (b : Nat) : Bool :=
  fld b 16 16 != 0 || (List.range 4).any (fun i => fld b (56 + 64 * i) 8 != 0 || !extended 32 18 (fld b (64 + 64 * i) 32))
    || (List.range 64).any (fun j => !extended 32 18 (fld b (288 + 32 * j) 32))

def fluxPdBody (k : Call) (s : State) : Result :=
  let p := fld k.blk 0 16
  checked s (oFluxPort, p)
    [(fluxBad p || fluxPdBad k.blk, .badParam), (tileDown s (tidTile p), .notActive),
     (!mayChange k.who (portOwner s p), .partDenied)]
    (let st := storeImage s 0x0602 oFluxPort p 292 (p + 0x10000 * 2 ^ 288) (k.blk % 2 ^ 2336)
     done (writeBank st.1 p (fluxCoefs k.blk)) [st.2])

def execFluxPd (c : Frame) (s : State) : Out State := .next (serve { op := 0x0602 } c s fluxPdBody)

/-! ### PORT_STATUS and FLUX_STATUS (03 R88; 07 R188) -/

def fSumSat : Nat := 24
def fPdSat : Nat := 25
def fTsConf : Nat := 26
def fAmpConf : Nat := 27
def fEmitDis : Nat := 28

def portMap : FlagMap := [(24, 32), (25, 48), (26, 64), (27, 80), (28, 96)]

def portImage (s : State) (kind : StagedKind) (p : Nat) : Nat :=
  let x := s.port p
  p + b2n (portMuted s p) * 2 ^ 16 + causeBits s p * 2 ^ 17 + flagImage portMap x.flags + b2n x.pdB * 2 ^ 29
    + b2n (s.staged.any (fun g => g.kind == kind && g.obj == p && bit g.blk 23)) * 2 ^ 30

def portStatusBody (kind : StagedKind) (bad : Nat → Bool) (k : Call) (s : State) : Result :=
  let p := fld k.blk 0 16
  checked s (portType p, p)
    [(bad p || statusReqBad k 16 128 portMap, .badParam),
     (k.func != 0 && (portOwner s p).part != k.who.part, .partDenied)]
    (report (if k.clear then s.modPort p (fun x => { x with flags := clearFlags s.now portMap k.blk x.flags }) else s)
      (leBytes 16 (portImage s kind p)))

def execPortStatus (c : Frame) (s : State) : Out State :=
  .next (serve { op := 0x0206 } c s (portStatusBody .portCfg portBad))

def execFluxStatus (c : Frame) (s : State) : Out State :=
  .next (serve { op := 0x0603 } c s (portStatusBody .fluxCfg fluxBad))

end Sys2Proof.Machine
end

