-- ==== Sys2Proof/Machine/Players.lean ====
section
/-! DEFINITION. Thread players: emissions on threads, segments, jumps, streaming and fill
(02 R51; 03 R62, R72 to R76; 04 R97 to R110; 07 R180). -/

namespace Sys2Proof.Machine

/-! ### Emissions that reach a thread (08 R225 to R228) -/

def kindCode : Kind → Nat
  | .drive => 0 | .readout => 1 | .flux => 2 | .bias => 3

/-- The TID of a thread reference. -/
def tidOf (r : ThreadRef) : Nat := mkTid r.tile (kindCode r.kind) r.index

/-- The TID that an emission targets. -/
def Emission.target (e : Emission) : Nat := mkTid (tileOfLoom e.loom) e.kind e.index

/-- An emission that has reached thread `t`. -/
def reached (s : State) (t : Nat) (e : Emission) : Bool := decide (e.tick ≤ s.now) && e.target == t

/-- Emissions of op `op` that have reached thread `t`. -/
def dueOps (s : State) (t op : Nat) : List Emission := s.emits.filter (fun e => reached s t e && e.op == op)

/-- The lowest-numbered Loom's emission, then the lowest slot's (03 R72). -/
def winner : List Emission → Option Emission
  | [] => none
  | e :: r => some (r.foldl (fun b x => if 8 * x.loom + x.slot < 8 * b.loom + b.slot then x else b) e)

/-- Take the emissions of op `op` off thread `t`. -/
def dropOps (s : State) (t op : Nat) : State :=
  { s with emits := s.emits.filter (fun e => !(reached s t e && e.op == op)) }

def portFlag (s : State) (t b n : Nat) : State :=
  s.modPort (portOfTid t) (fun x => { x with flags := (List.range n).foldl (fun f _ => hit s.now f b) x.flags })

/-- The ops that a kind of thread accepts (08 R226, 07 R180). -/
def opAccepted (kind op : Nat) : Bool :=
  match op with
  | 0 => kind < 3
  | 1 => kind < 3
  | 2 => kind < 2
  | 3 => kind < 2
  | 4 => kind < 3
  | 5 => kind == 1
  | 6 => kind == 2
  | 7 => kind == 3
  | _ => false

/-- Timing-set selections that reach a thread in the tick, whatever op they travel with (03 R74, R75): the
winner becomes the pending set. -/
def takeTs (s : State) (t : Nat) : State :=
  let es := s.emits.filter (fun e => reached s t e && e.ts.isSome && opAccepted (tidKind t) e.op)
  match winner es with
  | none => s
  | some w =>
    let s := { s with emits := s.emits.map (fun e => if reached s t e then { e with ts := none } else e) }
    if !(s.thread t).en then s
    else
      let s := s.modThread t (fun x => { x with pendSet := w.ts.getD 0 })
      if es.length > 1 then portFlag s t fTsConf 1 else s

/-- Handle the emissions of one op on a thread: a disabled thread, or one that does not take the op, discards
them with EMITDIS (03 R84, 07 R180); else `act` runs with the winner and all of them. -/
def onEmission (s : State) (t op : Nat) (act : State → Emission → List Emission → State) : State :=
  let es := dueOps s t op
  let s := dropOps (takeTs s t) t op
  match winner es with
  | none => s
  | some w =>
    if !(s.thread t).en || !opAccepted (tidKind t) op then portFlag s t fEmitDis es.length else act s w es

def execEmitTset (thread : ThreadRef) (s : State) : Out State :=
  .next (onEmission s (tidOf thread) 0 (fun s _ _ => s))

/-- NCOCONF (02 R51), a flag of TIME_STATUS. -/
def ncoConf (s : State) (c : Bool) : State :=
  { s with time := { s.time with flags := hitIf s.now c s.time.flags 6 } }

/-- Set-frequency-index: F_o from the first sample of the tick (02 R51, R52). -/
def execEmitFreq (thread : ThreadRef) (s : State) : Out State :=
  .next (onEmission s (tidOf thread) 2 (fun s w es =>
    let t := tidOf thread
    ncoConf (selectFreq s t (w.param % 64) (s.thread t).zacc) (decide (es.length > 1))))

/-- A phase sum with one more entry of the list, and what that read reports (02 R51). -/
def addPhase (t : Nat) (z : BitVec 32 × State) (i : Nat) : BitVec 32 × State :=
  (z.1 + phaseEntry z.2 t i, noteEntryRead z.2 t 1 i 4)

/-- Add-phase: the LOAD, then the sum of all ADDs (02 R51). -/
def execEmitPhase (thread : ThreadRef) (s : State) : Out State :=
  .next (onEmission s (tidOf thread) 3 (fun s _ es =>
    let t := tidOf thread
    let x := s.thread t
    let loads := es.filter (fun e => bit e.param 6)
    let adds := es.filter (fun e => !bit e.param 6)
    let base := match winner loads with
      | some w => addPhase t (0, s) (w.param % 64)
      | none => (x.zacc, s)
    let z := (adds.map (fun e => e.param % 64)).foldl (addPhase t) base
    ncoConf (setFrame z.2 t x.fo z.1) (decide (loads.length > 1))))

/-- Set-amplitude-index (03 R62, R72). -/
def execEmitAmp (thread : ThreadRef) (s : State) : Out State :=
  .next (onEmission s (tidOf thread) 4 (fun s w es =>
    let t := tidOf thread
    let s := selectAmp s t (w.param % 256)
    if es.length > 1 then portFlag s t fAmpConf 1 else s))

/-- A flux step (07 R180). -/
def execEmitFlux (fp : Fin 192) (s : State) : Out State :=
  let t := mkTid (fp / 16) 2 (fp % 16)
  .next (onEmission s t 6 (fun s w es =>
    let s := selectLvl s t (w.param % 64)
    if es.length > 1 then portFlag s t fAmpConf 1 else s))

/-! ### Starting segments (04 R97, R98, R103; 03 R74) -/

def bobFlag (s : State) (t b : Nat) : State :=
  s.modBobbin (tidTile t) (fun x => { x with flags := hit s.now x.flags b })

/-- A segment's descriptor cannot be read: a word of it is bad. -/
def segBad (s : State) (t seg : Nat) : Bool := (segWords (tidTile t) seg).any (fun a => badWord (maskOf s.mem a))

/-- Why a segment cannot be taken by thread `t`: its flag (R103). A descriptor that cannot be read gives no valid segment
(DESIGN CHOICE, log 120). -/
def segFault (s : State) (t seg : Nat) : Option Nat :=
  let d := segDesc s (tidTile t) seg
  if !dValid d || segBad s t seg then some fJmpBad
  else if dOwner d != (threadOwner s t).part then some fSegDeny
  else none

/-- Entry of a timing set for a thread: COARSE and FINE (03 R85). -/
def placement (s : State) (t set : Nat) : Nat × Nat :=
  let e := tget 0 (s.port (portOfTid t)).tset (16 * set + slotOfTid t)
  (e % 16, e / 16)

/-- A segment begins in tick `k`: a pulse start on a thread that read no sample in the two ticks before latches
its pending timing set (03 R74). `base` is the ring position of tick word 0; `fresh` starts a new play: an iteration that
chains to itself is still the same play for HOLD and REPEAT64 (R108 leaves this open; DESIGN CHOICE, log 113). -/
def startSegment (s : State) (t seg k base src : Nat) (fresh : Bool) : State :=
  let d := segDesc s (tidTile t) seg
  let ring := tget {} (s.bobbin (tidTile t)).rings (dSlot d)
  let taken := dStreamed d && (match ring.playing with | some u => u != t | none => false)
  let s := if taken then bobFlag s t fStreamBusy else s
  let s := if dStreamed d && !taken then
      s.modBobbin (tidTile t) (fun b => { b with rings := tmod {} b.rings (dSlot d) (fun r => { r with playing := some t }) })
    else s
  let pulse := match (s.thread t).lastRead with | some r => decide (r + 3 ≤ k) | none => true
  let pl := placement s t (s.thread t).pendSet
  s.modThread t (fun x => { x with
    play := some { seg := seg, first := k, final := k + dLength d - 1, desc := d, busy := taken, base := base, src := src }
    gap := none
    placeC := if pulse then pl.1 else x.placeC
    placeF := if pulse then pl.2 else x.placeF
    real := if fresh then [] else x.real
    fillPos := if fresh then 0 else x.fillPos })

/-- What the read of a segment's descriptor reports (14 R391). -/
def noteSegRead (s : State) (t seg : Nat) : State :=
  memEvents s (threadOwner s t).part (.tile (tidTile t))
    ((segWords (tidTile t) seg).flatMap (fun a => wordEvents a (maskOf s.mem a)))

/-- Take segment `seg` as a new play on an idle thread or at a boundary; a segment that may not be taken leaves
only its flag (R103). -/
def takeSegment (s : State) (t seg k src : Nat) : State :=
  match segFault s t seg with
  | some f => bobFlag (noteSegRead s t seg) t f
  | none => startSegment (releaseRing (noteSegRead s t seg) t) t seg k 0 src true

/-! ### Boundaries (04 R99 to R102) -/

/-- The thread falls idle at a boundary that ended tick `f`: the gap of R101 follows while a request waits. -/
def goIdle (s : State) (t f : Nat) : State :=
  (releaseRing s t).modThread t (fun x => { x with
    play := none, gap := if x.now_.isSome then some (f + 2) else none })

/-- Ring positions of one iteration of a segment: its tick words, in whole 16-byte units (R105, R300). -/
def ringPeriod (d : Nat) : Nat := (dLength d + 1) / 2 * 2

/-- The playing segment's own chain, or idle (R99, R103); a segment that chains to itself ends at its boundary while the
thread's port is muted (R99; DEDUCED, log 73). -/
def chainOrIdle (s : State) (t : Nat) : State :=
  match (s.thread t).play with
  | none => s
  | some p =>
    if dChain p.desc && dNext p.desc != 0 then
      match segFault s t (dNext p.desc) with
      | some f => goIdle (bobFlag (noteSegRead s t (dNext p.desc)) t f) t p.final
      | none =>
        if dNext p.desc ≠ p.seg then takeSegment s t (dNext p.desc) (p.final + 1) 0
        else if portMuted s (portOfTid t) then goIdle s t p.final
        else startSegment (noteSegRead s t p.seg) t p.seg (p.final + 1) (if p.busy then 0 else p.base + ringPeriod p.desc) 0
          false
    else goIdle s t p.final

/-- The boundary at the end of tick `f` passes: NOW is taken and NEXT becomes NOW (R102). -/
def passBoundary (s : State) (t f : Nat) : State :=
  let req := (s.thread t).now_
  let s := s.modThread t (fun x => { x with now_ := x.next_, next_ := none })
  match req with
  | none => if (s.thread t).play.isSome then chainOrIdle s t else goIdle s t f
  | some j =>
    if j.seg = 0 then goIdle s t f
    else match segFault s t j.seg with
      | none => takeSegment s t j.seg (f + 1) 0
      | some fl =>
        let s := bobFlag (noteSegRead s t j.seg) t fl
        if (s.thread t).play.isSome then chainOrIdle s t else goIdle s t f

/-- The boundary of a thread whose segment or idle gap ended before the present tick. -/
def boundary (s : State) (t : Nat) : State :=
  let x := s.thread t
  match x.play, x.gap with
  | some p, _ => if p.final < s.now then passBoundary (takeTs s t) t p.final else s
  | none, some f => if f < s.now then passBoundary (takeTs s t) t f else s
  | none, none => s

def execSegmentEnd (thread : ThreadRef) (s : State) : Out State := .next (boundary s (tidOf thread))

/-! ### Jump requests (04 R100, R102) -/

/-- The thread is busy, or in the gap that counts as a segment: its final tick (R98, R101). -/
def busyUntil (x : Thread) : Option Nat :=
  match x.play, x.gap with
  | some p, _ => some p.final
  | none, some f => some f
  | none, none => none

/-- Put a request into a slot: Loom requests win over Harness requests of the same tick, the first Loom's
stands among Looms; a replacement of a later tick sets no flag (R102). Answers the slot and a conflict. -/
def slotPut (old : Option Jump) (j : Jump) : Option Jump × Bool :=
  match old with
  | none => (some j, false)
  | some o => if o.reg = j.reg then (if o.loom then some o else some j, true) else (some j, false)

/-- Register a jump request in the present tick on a thread busy to tick `f`. -/
def requestJump (s : State) (t seg f : Nat) (loom : Bool) : State :=
  let j : Jump := { seg := seg, reg := s.now, loom := loom }
  let x := s.thread t
  if s.now + 2 ≤ f then
    let r := slotPut x.now_ j
    let s := s.modThread t (fun x => { x with now_ := r.1 })
    if r.2 then bobFlag s t fJmpConf else s
  else
    let r := slotPut x.next_ j
    let s := bobFlag (s.modThread t (fun x => { x with next_ := r.1 })) t fJLate
    if r.2 then bobFlag s t fJmpConf else s

/-- A play-segment reaches a thread: it starts an idle thread, or requests a jump (R98, R100, R228); SEG 0 has no effect on
an idle one (R97). Where a Harness event of the same tick started the thread, the Loom's segment stands in its place and
JMPCONF is set: R102 speaks of requests for a slot only (DESIGN CHOICE, log 111). -/
def execEmitPlay (thread : ThreadRef) (s : State) : Out State :=
  let t := tidOf thread
  .next (onEmission (boundary s t) t 1 (fun s w es =>
    let s := if es.length > 1 then bobFlag s t fJmpConf else s
    match (s.thread t).play with
    | some p =>
      if p.src = 2 && p.first == s.now then
        if w.param = 0 then s else takeSegment (bobFlag (stopPlayer s t) t fJmpConf) t w.param s.now 1
      else if p.src = 1 && p.first == s.now then bobFlag s t fJmpConf
      else requestJump s t w.param p.final true
    | none =>
      match (s.thread t).gap with
      | some f => requestJump s t w.param f true
      | none => if w.param = 0 then s else takeSegment s t w.param s.now 1))

/-- An event on a thread's segment-jump input (R104). -/
def jumpEvent (s : State) (t : Nat) : State :=
  let x := s.thread t
  if !x.en then portFlag s t fEmitDis 1
  else
    let s := boundary (takeTs s t) t
    match busyUntil (s.thread t) with
    | some f =>
      match (s.thread t).play with
      | some p => if p.src = 1 && p.first == s.now then bobFlag s t fJmpConf else requestJump s t x.jumpTarget f false
      | none => requestJump s t x.jumpTarget f false
    | none => if x.jumpTarget = 0 then s else takeSegment s t x.jumpTarget s.now 2

/-! ### Streaming (04 R105, R106) -/

/-- The valid descriptor bound to ring `i` of a tile. -/
def ringSegment (b : Bobbin) (i : Nat) : Option (Nat × Nat) :=
  b.segs.find? (fun e => dValid e.2 && dStreamed e.2 && dSlot e.2 == i)

/-- Words of tick words that ring `i` may still ask for, and the position and segment word of the next. -/
def fetchRoom (s : State) (t i : Nat) : Option (Nat × Nat × Nat × Nat) :=
  match ringSegment (s.bobbin t) i with
  | none => none
  | some (g, d) =>
    let r := tget {} (s.bobbin t).rings i
    let loops := r.playing.isSome && dChain d && dNext d == g
    let w := if loops then r.issued % ringPeriod d else r.issued
    let room := (r.used + 4096 - r.issued) / 2 * 2
    let n := min (min 512 room) (dLength d - w)
    let n := if n % 2 = 1 && w + n < dLength d then n - 1 else n
    if n = 0 then none else some (d, r.gen, w, n)

/-- Internal address of ring position `p` of ring `i` (R89). -/
def ringAddr (t i p : Nat) : Nat := bobbinBase t + 0x380000 + 0x8000 * i + 8 * (p % 4096)

/-- A stream descriptor: a COPY of the words' 16-byte units; UTAG names the ring and its generation (DEDUCED, log 25). -/
def streamDesc (t i gen d w n pos : Nat) : List Byte :=
  leBytes 32 (pack [(1, 8), (0, 8), ((n + 1) / 2, 24), (0, 24), (dDdr d + 8 * w, 64), (ringAddr t i pos, 64), (0, 16),
    ((i + 16 * gen) % 65536, 16)])

/-- The stream engine asks for the next words of the lowest ring with room (R105, R106). -/
def execStreamFetchIssue (tile : Fin 12) (s : State) : Out State :=
  .next (
    let t := tile.val
    if !tileActive s t || !canPut s (s.spool (32 + t)) then s
    else match (List.range 16).find? (fun i => (fetchRoom s t i).isSome) with
      | none => s
      | some i =>
        match fetchRoom s t i with
        | none => s
        | some (d, gen, w, n) =>
          let pos := (tget {} (s.bobbin t).rings i).issued
          let s := s.modBobbin t (fun b => { b with
            rings := tmod {} b.rings i (fun r => { r with issued := r.issued + (n + 1) / 2 * 2 }) })
          appendEntry s (32 + t) 0 true (streamDesc t i gen d w n pos))

/-- The words of a fetch arrive at their ring positions, each a bad one as the poison pattern; `none`: the fetch faulted
(R106, R109). A ring primes with its words in place, failed ones among them (R106 leaves this open; DESIGN CHOICE, log 112). -/
def ringArrive (s : State) (t i gen units : Nat) (got : Option (List Byte × List Nat)) : State :=
  let r := tget {} (s.bobbin t).rings i
  if r.gen % 4096 ≠ gen then s
  else
    let d := match ringSegment (s.bobbin t) i with | some e => e.2 | none => 0
    let n := min (2 * units) (r.issued - r.arrived)
    let at_ (j : Nat) : Nat := ringAddr t i (r.arrived + j)
    let put (r : Ring) (j : Nat) : Ring :=
      match got with
      | none => { r with bad := tput r.bad (r.arrived + j) true }
      | some g => { r with words := tput r.words (r.arrived + j) (leNat ((g.1.drop (8 * j)).take 8), s.now) }
    let s := if got.isNone then s else (List.range n).foldl (fun s j => clearErrs s (at_ j) 8) s
    let s := match got with
      | none => s
      | some g => { s with mem := { s.mem with
          errs := ((List.range n).filter (fun j => g.2.contains (8 * j))).foldl
            (fun e j => tset 0 e (at_ j) (BitVec.ofNat 80 poisonSyn)) s.mem.errs } }
    let a := r.arrived + n
    s.modBobbin t (fun b => { b with rings := tmod {} b.rings i (fun r =>
      { (List.range n).foldl put r with
        arrived := a, primed := r.primed || (r.playing.isNone && decide (a ≥ min (dLength d) 4096)) }) })

/-- The checks of a stream descriptor of ring `i` (R105): the rows of 11 R301, with the requester's rights those of the
partition whose segment the ring serves (DEDUCED, log 25). -/
def streamFail (s : State) (who : Owner) (v : Nat) : Option Status :=
  firstFail
    [(mOp v != 1 || mLen v == 0 || mSrc v % 16 != 0 || mDst v % 16 != 0, .badParam),
     (!inDdr s (mSrc v) (mBytes v), .lenExceeds), (!ddrMayChange s who (mSrc v) (mBytes v), .partDenied),
     (!chanActive s (chanOf (mSrc v)), .notActive)]

/-- The tile's stream mover completes the descriptor at CI of its Spool (R105, R109): a fault without a bad word leaves a
READ_UE record of the fetch's address (DESIGN CHOICE, log 120). -/
def execStreamFetchDone (tile : Fin 12) (s : State) : Out State :=
  .next (
    let t := tile.val
    let n := 32 + t
    let s := readDesc s n
    let p := s.spool n
    if !spoolLive p || occupancy p = 0 then s
    else
      let e := ringRead s p p.ci
      let s := memEvents s p.owner (.tile t) e.2.2
      let v := leNat e.1
      let i := fld v 208 4
      let gen := fld v 212 12
      let who := partWho s (match ringSegment (s.bobbin t) i with | some g => dOwner g.2 | none => p.owner)
      let s :=
        if e.2.1 then ringArrive s t i gen (mLen v) none
        else if (streamFail s who v).isSome then
          ringArrive (errRecord s (addrOwner s (mSrc v)) (memRecord s 0x0010 who.part (.tile t) (mSrc v) 0 0)) t i gen (mLen v) none
        else
          let h := takeHeader s who.part (.tile t) (mSrc v)
          let s := h.1
          if h.2 then ringArrive s t i gen (mLen v) none
          else
          let r := internalRead s (mSrc v) (mBytes v)
          ringArrive (memEvents r.1 who.part (.tile t) r.2.2.2) t i gen (mLen v) (some (r.2.1, r.2.2.1))
      consume s n)

/-! ### Words of a tick, and fill (04 R107 to R110) -/

/-- Why a tick's word is missing. -/
inductive Miss where
  | busy | late | fault
deriving DecidableEq, Repr

/-- Internal address of the word that play `p` of thread `t` reads in tick `k`. -/
def wordAddr (t k : Nat) (p : Play) : Nat :=
  if dStreamed p.desc then ringAddr (tidTile t) (dSlot p.desc) (p.base + (k - p.first))
  else bobbinBase (tidTile t) + 8 * (dStart p.desc + (k - p.first))

/-- The tick word that play `p` of thread `t` reads in tick `k`. -/
def readTick (s : State) (t k : Nat) (p : Play) : Except Miss Nat :=
  let b := s.bobbin (tidTile t)
  let m := maskOf s.mem (wordAddr t k p)
  if dStreamed p.desc then
    if p.busy then .error .busy
    else
      let r := tget {} b.rings (dSlot p.desc)
      let pos := p.base + (k - p.first)
      if tget false r.bad pos then .error .fault
      else match r.words.find? (fun e => e.1 == pos) with
        | some (_, w, a) => if k ≤ a then .error .late else if badWord m then .error .fault else .ok (delivered w m)
        | none => .error .late
  else if badWord m then .error .fault
  else .ok (delivered (tget 0 b.env (dStart p.desc + (k - p.first))).toNat m)

/-- The play that reads a word in tick `k`. -/
def playAt (x : Thread) (k : Nat) : Option Play :=
  match x.play with
  | some p => if p.first ≤ k && decide (k ≤ p.final) then some p else none
  | none => none

/-- A Loom's draft targets a thread: some emission slot names its kind and index (09 R261). -/
def slotTargets (w kind index : Nat) : Bool :=
  (List.range 6).any (fun i =>
    let e := fld w (128 + 32 * i) 32
    e != 0 && fld e 0 4 != 8 && fld e 4 2 == kind && fld e 6 5 == index)

def draftTargets (x : Loom) (t : Nat) : Bool :=
  x.header != 0 && x.words.any (fun w => slotTargets w.2 (tidKind t) (tidIndex t))

/-- A tick whose word is missing: UNDERRUN and its ST, FETCHFAULT with its record, the tile's line, and the
shots of R261 (R108 to R110). -/
def execUnderrunFill (thread : ThreadRef) (s : State) : Out State :=
  let t := tidOf thread
  let x := s.thread t
  .next (match playAt x s.now with
    | none => s
    | some p =>
      match readTick s t s.now p with
      | .ok _ => s
      | .error why =>
        if x.filled = some s.now then s
        else
          let tile := tidTile t
          let s := s.modThread t (fun x => { x with filled := some s.now })
          let s := s.modBobbin tile (fun b => { b with
            underrunSt := if isOn b.flags fUnderrun then b.underrunSt else s.st
            flags := hitIf s.now (why == .fault) (hit s.now b.flags fUnderrun) fFetchFault })
          let a := wordAddr t s.now p
          let m := maskOf s.mem a
          let s := if why == .fault && badWord m then memEvents s (threadOwner s t).part (.tile tile) (wordEvents a m)
            else s
          let s := assertLine s (.underrun tile)
          let hit (l : Nat) : Bool := tileOfLoom l == tile && draftTargets (s.loom l) t
          let s := markLooms s hit cUnderrun
          if why == .fault then markLooms s hit cMemErr else s)

end Sys2Proof.Machine
end

