-- ==== Sys2Proof/Machine/Bias.lean ====
section
/-! DEFINITION. Precision bias channels (07 R189 to R210). Times are device ticks; slow-tick boundaries and update
instants are those of ST. -/

namespace Sys2Proof.Machine

def State.bc (s : State) (b : Nat) : Bias := tget {} s.bias b
def State.modBc (s : State) (b : Nat) (g : Bias → Bias) : State := { s with bias := tmod {} s.bias b g }

def bcOfTid (t : Nat) : Nat := 32 * tidTile t + tidIndex t
def bcTile (b : Nat) : Nat := b / 32
def bcOwner (s : State) (b : Nat) : Owner := ownerOf s 4 (tidOfBc b)

/-- N of a tile's group (R206). -/
def groupN (s : State) (t : Nat) : Nat := tget 32 s.biasN t

/-! ### Ranges and rates (R189, R199) -/

/-- r in 1/256 codes per slow tick: SLEW × 0.032 / LSB, rounded half to even. -/
def slewRate (range slew : Nat) : Int :=
  let d : Int := match range with | 0 => 1 | 1 => 4 | 2 => 10 | _ => 0
  if d = 0 then roundEven (slew * 32 * 256 * 524288) 2500000000
  else roundEven (slew * 32 * 256 * 524288) (1000000000 * d)

/-- The rate in force: in the power-up and SAFE ramps the NV_SLEW they began with, else SLEW (R192, R202, R203, R209). -/
def rateOf (x : Bias) : Int :=
  slewRate x.range (if x.state = .ramp || (x.state = .safe && !x.clamping) then x.rampSlew else x.slew)

/-- Bits [19:14] of a code. -/
def majorBits (c : Int) : Nat := fld (enc 20 c) 14 6

/-! ### Presenting codes (R199, R200) -/

/-- Codes whose tick has come stand at the output. -/
def settle (now : Nat) (x : Bias) : Bias :=
  let due := x.path.filter (fun e => decide (e.1 ≤ now))
  { x with output := match due.getLast? with | some e => e.2 | none => x.output
           path := x.path.filter (fun e => decide (now < e.1)) }

/-- Present code `c` at the boundary of tick `now`: a change of bits [19:14] starts a hold (R199). The code
compared is the one presented before, which the output holds or is on its way to (DEDUCED, log 28). -/
def presentCode (now : Nat) (x : Bias) (c : Int) : Bias :=
  if c = x.present then x
  else
    let hold := x.dgWin != 0 && majorBits c != majorBits x.present
    let at_ := now + 72 + (if hold then 3 * x.dgWin else 0)
    { x with present := c, path := x.path ++ [(at_, c)]
             holdEnd := if hold then some at_ else x.holdEnd
             moveAt := if hold then now + 24 * ((x.dgWin + 7) / 8 + 1) else x.moveAt }

/-- The limiter moves A toward TARGET by at most r (R199). -/
def moveA (now : Nat) (x : Bias) : Bias :=
  let t := x.target * 256
  if x.accum = t then x
  else
    let r := rateOf x
    let a := if x.accum < t then min t (x.accum + r) else max t (x.accum - r)
    presentCode now { x with accum := a, moveAt := now + 24 } (convRound a 8)

/-- The limiter runs in this state (R191, R203). -/
def moves (x : Bias) : Bool :=
  match x.state with
  | .clamped => false
  | .test => false
  | .held => x.clamping
  | .ranging => x.clampAt.isNone && (match x.ranging with | some (_, _, some _) => false | _ => true)
  | _ => true

/-- What follows once the code presented is the target (R192, R201, R203). -/
def arriveA (now : Nat) (x : Bias) : Bias :=
  if x.present ≠ x.target then x
  else if x.clamping && x.clampAt.isNone then { x with clampAt := some (now + 72) }
  else match x.state with
    | .ramp => { x with state := .run }
    | .ranging => if x.ranging.isSome then { x with clampAt := some (now + 72) } else { x with state := .run }
    | _ => x

def slewStep (now : Nat) (x : Bias) : Bias :=
  let x := settle now x
  if !moves x || decide (now < x.moveAt) then x else arriveA now (moveA now x)

/-- The limiter at a slow-tick boundary (R199). -/
def execBiasSlewStep (bc : Fin 384) (s : State) : Out State :=
  .next (if slowNow s then s.modBc bc (slewStep s.now) else s)

/-- The track-and-hold releases: the output tracks the new code (R199, R200). -/
def execDeglitchHoldEnd (bc : Fin 384) (s : State) : Out State :=
  .next (match (s.bc bc).holdEnd with
    | some t => if t ≤ s.now then s.modBc bc (fun x => { settle s.now x with holdEnd := none }) else s
    | none => s)

/-- The output is shunted: code 0 at the output, and nothing on its way. -/
def shunt (x : Bias) : Bias :=
  { x with present := 0, accum := 0, output := 0, path := [], holdEnd := none, clampAt := none, clamping := false }

/-- 1,563 slow ticks, in ticks (R201). -/
def rangeHold : Nat := 1563 * 24

/-- The clamp engages: the channel reads CLAMPED, or its range switches (R201, R203). -/
def execBiasClampEngage (bc : Fin 384) (s : State) : Out State :=
  .next (match (s.bc bc).clampAt with
    | some t =>
      if s.now < t then s
      else s.modBc bc (fun x =>
        match x.ranging with
        | some (r, c, none) =>
          { shunt x with range := r, ranging := some (r, c, some (s.now + rangeHold)) }
        | _ => { shunt x with state := .clamped, ranging := none, pullUp := false, pullDown := false })
    | none => s)

/-- The clamp of a range change releases at code 0 (R201). -/
def execRangeClampRelease (bc : Fin 384) (s : State) : Out State :=
  .next (match (s.bc bc).ranging with
    | some (_, c, some t) =>
      if s.now < t then s
      else s.modBc bc (fun x => { x with ranging := none, target := c.getD 0, accum := 0, present := 0 })
    | _ => s)

/-! ### Queues (R194 to R198) -/

def bBqLate : Nat := 24
def bBqStarve : Nat := 25
def bBqOvf : Nat := 26
def bBqBad : Nat := 27
def bStepOvf : Nat := 28
def bComply : Nat := 29
def bIlim : Nat := 30
def bSupply : Nat := 31

def bcHit (s : State) (b f : Nat) : State := s.modBc b (fun x => { x with flags := hit s.now x.flags f })

/-- Spool `n` can be a bias queue of owner `p` (R195). -/
def queueOk (s : State) (n : Nat) : Bool :=
  let q := s.spool n
  q.valid && q.cls == 2 && q.esize == 0 && q.target == 2

/-- An entry of the queue is visible at the present update instant (R195). -/
def queueVisible (q : Spool) : Bool :=
  occupancy q != 0 && decide (0 < (q.seen + idxMod - q.ci) % idxMod) && decide ((q.seen + idxMod - q.ci) % idxMod ≤ ringSize q)

/-- Reserved bits of an entry. -/
def queueRsv : List (Nat × Nat) := [(20, 4), (25, 7), (48, 16)]

/-- Events whose time has come join STEPS, which saturates at 255 (R198). -/
def joinSteps (now : Nat) (x : Bias) : Bias :=
  let n := ((x.stepsDue.filter (fun e => decide (e.1 ≤ now))).map (fun e => e.2)).sum
  { x with steps := min 255 (x.steps + n), stepsDue := x.stepsDue.filter (fun e => decide (now < e.1))
           flags := hitIf now (decide (x.steps + n > 255)) x.flags bStepOvf }

/-- The queue's part of an update instant (R196). -/
def takeQueue (s : State) (b : Nat) : State :=
  let x := s.bc b
  let u := s.st
  let s := if x.qspool ≠ 0 then readDesc s x.qspool else s
  let q := s.spool x.qspool
  let seen := x.qspool != 0 && spoolLive q && queueVisible q
  let e := if seen then ringRead s q q.ci else ([], false, [])
  let v := leNat e.1
  let nb := fld v 64 64
  if seen && decide (nb ≤ u) && (!x.trig || decide (0 < x.steps)) then
    let s := consume (memEvents s q.owner .spool e.2.2) x.qspool
    let bad := e.2.1 || !rsvOk v queueRsv
    s.modBc b (fun x =>
      let x := if x.trig then { x with steps := x.steps - 1 } else x
      if bad then { x with flags := hit s.now x.flags bBqBad }
      else { x with
        target := sgn 20 (fld v 0 20)
        repcnt := if x.trig then x.repcnt else fld v 32 16
        flags := hitIf s.now (nb != 0 && decide (nb + 768 * groupN s (bcTile b) ≤ u)) x.flags bBqLate })
  else if x.trig && decide (0 < x.steps) && !seen then
    (s.modBc b (fun x => { x with steps := x.steps - 1, flags := hit s.now x.flags bBqStarve }))
  else s

/-- A channel at an update instant (R194, R196). A channel that ramps to its clamp takes no entry (DEDUCED, log 28). -/
def execBiasUpdate (bc : Fin 384) (s : State) : Out State :=
  .next (
    let b := bc.val
    if !slowNow s || s.st / slowSamples % groupN s (bcTile b) ≠ 0 || (s.bc b).updated = s.now + 1 then s
    else
      let s := s.modBc b (fun x => joinSteps s.now { x with updated := s.now + 1 })
      let x := s.bc b
      if x.state ≠ .run || x.clamping then s
      else if 0 < x.repcnt then s.modBc b (fun x => { x with repcnt := x.repcnt - 1 })
      else takeQueue s b)

/-- A bias queue push (R197): the preset as it stands, NOT_BEFORE 1,536 samples after the tick. -/
def execEmitBias (bc : Fin 384) (s : State) : Out State :=
  let b := bc.val
  let t := tidOfBc b
  let es := (dueOps s t 7).mergeSort (fun a c => decide (8 * a.loom + a.slot ≤ 8 * c.loom + c.slot))
  .next (es.foldl (fun s e =>
    let x := s.bc b
    let q := s.spool x.qspool
    let en := leBytes 16 (pack [(enc 20 (tget 0 x.presets (e.param % 64)), 20), (0, 4), (1, 1), (0, 39), (s.st + 1536, 64)])
    if x.qspool = 0 then s
    else if q.resize.isSome || canPut s q then produce s x.qspool 0 false none en
    else bcHit (if q.valid then dropEntry s x.qspool else s) b bBqOvf) (dropOps s t 7))

/-- Events on the step input (R198): they count from 1,536 samples on; in CLOCKED mode they are ignored. -/
def stepEvent (s : State) (b n : Nat) : State :=
  s.modBc b (fun x => if x.trig && x.stepEn then { x with stepsDue := x.stepsDue ++ [(s.now + 48, n)] } else x)

/-- A load beyond the limits of its range (R190): the code, the state and the queue do not change. -/
def execBiasCompliance (bc : Fin 384) (s : State) : Out State :=
  .next (bcHit s bc (if (s.bc bc).range = 3 then bIlim else bComply))

/-! ### Stops, faults, supplies (R192, R202) -/

/-- Change every channel. -/
def allBias (s : State) (f : Bias → Bias) : State :=
  (List.range 384).foldl (fun s b => s.modBc b f) s

/-- The shunt may not open: no NV record has loaded since the first supply-valid, the supply is invalid, or an
undervoltage clamped the channel (R192, R202). -/
def mustClamp (s : State) (x : Bias) : Bool :=
  x.state == .clamped && (x.uvClamp || s.power.biasBad || s.power.biasFirst || s.power.biasLoad)

/-- A channel enters SAFE at NV_SLEW (R202). -/
def enterSafe (now : Nat) (x : Bias) : Bias :=
  { x with
    state := .safe, clamping := false, clampAt := none, ranging := none, pullUp := false, pullDown := false
    rampSlew := x.nvSlew
    target := if x.range = x.puRange then x.safeCode else 0, moveAt := max x.moveAt (now + 24) }

/-- An orderly stop of the device, or sealed mode: every channel whose shunt may open (R202; DEDUCED, log 28). -/
def biasSafe (s : State) : State := allBias s (fun x => if mustClamp s x then x else enterSafe s.now x)

/-- The analogue trip, or REFLOSS: every channel whose shunt may open freezes at its present code (R202; DEDUCED, log 28). -/
def biasHold (s : State) : State :=
  allBias s (fun x =>
    if mustClamp s x then x
    else { settle s.now x with
      state := .held, clamping := false, clampAt := none, ranging := none, pullUp := false, pullDown := false })

/-- Undervoltage on VDDA_BIAS clamps every channel at once (R202). -/
def biasClampAll (s : State) : State :=
  allBias s (fun x => { shunt x with
    state := .clamped, uvClamp := true, ranging := none, pullUp := false, pullDown := false
    flags := hit s.now x.flags bSupply })

/-- The NV record loads: range PU_RANGE, the clamp releases at code 0, and the ramp to PU_CODE begins (R192); in sealed
mode every channel enters SAFE instead (R202). -/
def biasPowerUp (s : State) : State :=
  allBias s (fun x =>
    let x := { x with
      state := .ramp, uvClamp := false, range := x.puRange, rampSlew := x.nvSlew, target := x.puCode, accum := 0, present := 0 }
    if s.gaf.state = .sealed then enterSafe s.now x else x)

/-! ### BIAS_GROUP_CFG, BIAS_CFG (R206, R207) -/

def biasTidBad (t : Nat) : Bool := !tidOk t || tidKind t != 3

def biasGroupCfgBody (k : Call) (s : State) : Result :=
  let t := fld k.blk 0 4
  let ap := fld k.blk 64 64
  let at_ := slowCeil (applyAt ap k.accept)
  checked s (0x26, t)
    ([(decide (t ≥ 12) || decide (fld k.blk 32 16 < 32) || fld k.blk 4 28 != 0 || fld k.blk 48 16 != 0, .badParam),
      ((List.range 32).any (fun i => !mayChange k.who (bcOwner s (32 * t + i))), .partDenied)]
      ++ timeFail ap k.accept)
    (let st := storeImage s 0x0610 0x26 t 16 (t + 32 * 2 ^ 32) (k.blk % 2 ^ 64)
     scheduled (stage st.1 { kind := .biasGroup, obj := t, blk := k.blk, at_ := at_, func := k.func }) at_ [st.2])

def execBiasGroupCfg (c : Frame) (s : State) : Out State := .next (serve { op := 0x0610 } c s biasGroupCfgBody)

def applyBiasGroup (s : State) (t blk : Nat) : State :=
  { s with biasN := tset 32 s.biasN t (fld blk 32 16) }

def bcfgRsv : List (Nat × Nat) := [(25, 7), (52, 12), (108, 20), (192, 64)]

def biasCfgBody (k : Call) (s : State) : Result :=
  let b := k.blk
  let t := fld b 0 16
  let n := bcOfTid t
  let q := fld b 64 16
  let ap := fld b 128 64
  let at_ := slowCeil (applyAt ap k.accept)
  let o := bcOwner s n
  let ch := tileCand (tidTile t) (112 + tidIndex t) (fld b 22 3)
  let x := s.bc n
  checked s (4, t)
    ([(!tidOk t, .badTid),
      (tidKind t != 3 || !rsvOk b bcfgRsv || fld b 88 20 == 0, .badParam),
      (!mayChange k.who o || (bit b 21 && !routeOk s o ch), .partDenied),
      (q != 0 && !queueOk s q, .badParam), (q != 0 && (s.spool q).owner != o.part, .partDenied)]
      ++ timeFail ap k.accept
      ++ [((bit b 18 || bit b 19) && (x.state == .ranging || x.state == .test || x.state == .safe || x.state == .held),
           .busy), (isStaged s .biasCfg n, .busy)])
    (let img := b % 2 ^ 128 - (b2n (bit b 18)) * 2 ^ 18 - (b2n (bit b 19)) * 2 ^ 19 - fld b 32 20 * 2 ^ 32
     let st := storeImage s 0x0611 4 t 32 (t + 100 * 2 ^ 80 + 1000 * 2 ^ 88) img
     scheduled (stage st.1 { kind := .biasCfg, obj := n, blk := b, at_ := at_, func := k.func }) at_ [st.2])

def execBiasCfg (c : Frame) (s : State) : Out State := .next (serve { op := 0x0611 } c s biasCfgBody)

/-- A BIAS_CFG applies (R201, R207). A channel that an undervoltage clamped takes its range and stays CLAMPED (R202).
CODE_EN and RANGE_EN have no effect if the channel has meanwhile entered a
state in which the block would fail; they end a ramp to the clamp (DEDUCED, log 28). -/
def applyBiasCfg (s : State) (n b : Nat) : State :=
  (storeSel s (tileConsumer (bcTile n) (112 + n % 32))).modBc n (fun x =>
    let x := { x with trig := bit b 20, stepEn := bit b 21, cand := fld b 22 3, qspool := fld b 64 16
                      dgWin := fld b 80 8, slew := fld b 88 20 }
    let closed := x.state = .ranging || x.state = .test || x.state = .safe || x.state = .held
    let code := sgn 20 (fld b 32 20)
    if closed then x
    else if x.state = .clamped && x.uvClamp then
      { x with range := if bit b 18 then fld b 16 2 else x.range, target := if bit b 19 then code else x.target }
    else if bit b 18 && fld b 16 2 != x.range then
      { x with state := .ranging, clamping := false, target := 0
               clampAt := none, ranging := some (fld b 16 2, if bit b 19 then some code else none, none)
               repcnt := if bit b 19 then 0 else x.repcnt }
    else if bit b 19 then { x with target := code, repcnt := 0, clamping := false, clampAt := none }
    else x)

/-! ### BIAS_CTL (R203, R204, R208) -/

/-- An orderly stop of the device is in progress, or Lehr holds STOPPED (18 R477 to R479). -/
def deviceStopped (s : State) : Bool := s.lehr.dev.isSome

/-- The causes that hold RUN and every CLAMP that ramps (R203). -/
def biasCause (s : State) : Bool := s.time.mode == .lost || s.power.biasBad || deviceStopped s

/-- TEST may begin (R204). -/
def testOk (x : Bias) : Bool := x.state == .run && x.present == 0 && x.target == 0 && !x.clamping

/-- The command fails with BUSY in the state `x`: action 0 RUN, 1 TEST, 2 CLAMP. -/
def ctlBusy (s : State) (x : Bias) (act : Nat) : Bool :=
  if act = 1 then !testOk x
  else (x.state == .ramp || x.state == .ranging)
    || (biasCause s && (act == 0 || (x.state != .test && x.state != .clamped)))

def biasCtlBody (act : Nat) (k : Call) (s : State) : Result :=
  let t := fld k.blk 0 16
  let n := bcOfTid t
  let ap := fld k.blk 64 64
  let at_ := slowCeil (applyAt ap k.accept)
  checked s (4, t)
    ([(!tidOk t, .badTid), (tidKind t != 3 || fld k.blk 16 2 != act || fld k.blk 18 46 != 0, .badParam),
      (!mayChange k.who (bcOwner s n), .partDenied)] ++ timeFail ap k.accept
      ++ [(ctlBusy s (s.bc n) act, .busy)])
    (scheduled (stage s { kind := .biasCtl, obj := n, blk := k.blk, at_ := at_, func := k.func }) at_ [])

def execBiasRun (c : Frame) (s : State) : Out State := .next (serve { op := 0x0612 } c s (biasCtlBody 0))
def execBiasTest (c : Frame) (s : State) : Out State := .next (serve { op := 0x0612 } c s (biasCtlBody 1))
def execBiasClamp (c : Frame) (s : State) : Out State := .next (serve { op := 0x0612 } c s (biasCtlBody 2))

/-- A BIAS_CTL applies to the state it finds; where it would fail it has no effect (R203, R204). -/
def applyBiasCtl (s : State) (n blk : Nat) : State :=
  let act := fld blk 16 2
  let x := s.bc n
  if ctlBusy s x act then s
  else s.modBc n (fun x =>
    match act with
    | 1 => { x with state := .test }
    | 0 =>
      (match x.state with
      | .run => x
      | .clamped => { x with state := .run, uvClamp := false, accum := 0, present := 0 }
      | .test => { x with state := .run, accum := 0, present := 0, target := 0, pullUp := false, pullDown := false, clampAt := none }
      | _ => { x with state := .run, clamping := false, clampAt := none, target := x.present, accum := x.present * 256 })
    | _ =>
      (match x.state with
      | .clamped => x
      | .test => { x with pullUp := false, pullDown := false, clampAt := some (s.now + 72) }
      | _ => { x with clamping := true, target := 0, clampAt := none }))

/-! ### BIAS_NV, BIAS_STATUS (R209, R210) -/

def biasNvBody (k : Call) (s : State) : Result :=
  let b := k.blk
  let t := fld b 0 16
  let n := bcOfTid t
  checked s (4, t)
    ([(!tidOk t, .badTid),
      (tidKind t != 3 || !rsvOk b [(18, 14), (52, 12), (84, 12), (116, 12)] || fld b 96 20 == 0, .badParam),
      (!mayChange k.who (bcOwner s n), .partDenied)] ++ nvRefusal s)
    (let st := storeImage s 0x0613 4 t 16 (t + 1000 * 2 ^ 96) (b % 2 ^ 128)
     done (st.1.modBc n (fun x => { x with
       puRange := fld b 16 2, puCode := sgn 20 (fld b 32 20), safeCode := sgn 20 (fld b 64 20), nvSlew := fld b 96 20 }))
       [st.2])

def execBiasNv (c : Frame) (s : State) : Out State := .next (serve { op := 0x0613 } c s biasNvBody)

def biasMap : FlagMap := (List.range 8).map (fun i => (24 + i, 128 + 16 * i))

def biasCode : BiasState → Nat
  | .clamped => 0 | .ramp => 1 | .run => 2 | .ranging => 3 | .test => 4 | .safe => 5 | .held => 6

def biasImage (s : State) (n : Nat) : Nat :=
  let x := joinSteps s.now (s.bc n)
  tidOfBc n + biasCode x.state * 2 ^ 16 + x.range * 2 ^ 19 + flagImage biasMap (s.bc n).flags
    + enc 20 x.present * 2 ^ 32 + enc 20 x.target * 2 ^ 64 + x.steps * 2 ^ 88 + x.repcnt * 2 ^ 96

def biasStatusBody (k : Call) (s : State) : Result :=
  let t := fld k.blk 0 16
  let n := bcOfTid t
  checked s (4, t)
    [(!tidOk t, .badTid), (tidKind t != 3 || statusReqBad k 16 256 biasMap, .badParam),
     (k.func != 0 && (bcOwner s n).part != k.who.part, .partDenied)]
    (report (if k.clear then s.modBc n (fun x => { x with flags := clearFlags s.now biasMap k.blk x.flags }) else s)
      (leBytes 32 (biasImage s n)))

def execBiasStatus (c : Frame) (s : State) : Out State := .next (serve { op := 0x0614 } c s biasStatusBody)

end Sys2Proof.Machine
end

