-- ==== Sys2Proof/Machine/Warp.lean ====
section
/-! DEFINITION. Warp: arming, writing and presenting decisions, imports and exports (09 R244 to R264). Ticks are
ST / 32, except of Harness lines. -/

namespace Sys2Proof.Machine

def State.decBit (s : State) (b : Nat) : DecBit := tget {} s.warp.bits b
def State.modBit (s : State) (b : Nat) (g : DecBit → DecBit) : State :=
  { s with warp := { s.warp with bits := tmod {} s.warp.bits b g } }

def wDueConf : Nat := 176
def wWarpLoss : Nat := 177
def wWarpDeny : Nat := 178
def wTaintSmp : Nat := 179
def wDueOvf : Nat := 180

/-- A flag of one bit (R264). -/
def warpHit (s : State) (b f : Nat) : State :=
  { s with warp := { s.warp with flags := tmod [] s.warp.flags b (fun g => hit s.now g f) } }

/-! ### Decisions (R244 to R246) -/

/-- The decision with the largest D not later than tick `y` (R245). -/
def currentAt (l : List Decision) (y : Nat) : Option Decision :=
  l.foldl (fun b d =>
    if d.due ≤ y then (match b with | some c => if c.due ≤ d.due then some d else b | none => some d) else b) none

def pendingAt (l : List Decision) (y : Nat) : List Decision := l.filter (fun d => decide (y < d.due))

/-- Arm a decision in tick `y`; `false`: refused with DUEOVF (R246). -/
def arm (s : State) (b : Nat) (d : Decision) (y : Nat) : State × Bool :=
  let l := (s.decBit b).armed
  let same := l.any (fun e => e.due == d.due)
  if !same && decide ((pendingAt l y).length ≥ 8) then (warpHit s b wDueOvf, false)
  else
    let s := s.modBit b (fun x => { x with armed := x.armed.filter (fun e => e.due != d.due) ++ [d] })
    (if same then warpHit s b wDueConf else s, true)

/-- Is this the decision of producer (kind, id) armed by window tick `k`? -/
def isDecision (d : Decision) (kind id k : Nat) : Bool := d.kind == kind && d.id == id && d.k == k

/-- The decision of a producer that is armed on bit `b`, current or pending in tick `w` (R246). -/
def findDecision (s : State) (b kind id k w : Nat) : Option Decision :=
  let l := (s.decBit b).armed
  match l.find? (fun d => isDecision d kind id k) with
  | some d => if w < d.due || currentAt l w == some d then some d else none
  | none => none

/-- Write a decision in tick `w` (R244, R246): once only. -/
def writeDecision (s : State) (b kind id k w st : Nat) : State :=
  match findDecision s b kind id k w with
  | none => s
  | some d =>
    if d.written.isSome then s
    else
      s.modBit b (fun x => { x with armed := x.armed.map (fun e =>
        if isDecision e kind id k then { e with written := some (w, st) } else e) })

/-- A decision whose copy arrives in tick `a` becomes valid: its producer's tile is still ACTIVE then (01 R25, R248). -/
def becomesValid (d : Decision) (a : Nat) : Bool :=
  match d.dead with | some t => decide (max d.due a < t) | none => true

/-- The decision is not valid device-wide at its due tick (R249; 05 R132 LATE). -/
def lateDecision (d : Decision) : Bool :=
  match d.written with | some (w, _) => decide (d.due < w + 4) || !becomesValid d (w + 4) | none => true

/-- A tile leaves ACTIVE: its decisions that are not valid yet never are (01 R25). -/
def killDecisions (s : State) (t : Nat) : State :=
  { s with warp := { s.warp with bits := s.warp.bits.map (fun e => (e.1, { e.2 with
      armed := e.2.armed.map (fun d => if d.tile = t && d.dead.isNone then { d with dead := some (stTick s) } else d) })) } }

/-- A producer Loom ends by FAULT, ABORT or RUNLOST in the present tick: its current and armed decisions are
tainted from now on (R260). -/
def taintLoom (s : State) (l : Nat) : State :=
  let y := stTick s
  { s with warp := { s.warp with bits := s.warp.bits.map (fun e => (e.1, { e.2 with
      armed := e.2.armed.map (fun d =>
        if d.kind = 2 && d.id == l && (decide (y < d.due) || currentAt e.2.armed y == some d) && d.taintAt.isNone
        then { d with taintAt := some y } else d) })) } }

/-- A tile reset discards the decisions of its producers that are not yet current (R251). -/
def resetDecisions (p : Nat → Bool) (s : State) : State :=
  let y := stTick s
  let drop (x : DecBit) : DecBit := { armed := x.armed.filter (fun d => !(p d.tile && decide (y < d.due))) }
  { s with warp := { s.warp with
      bits := (s.warp.bits.map (fun e => (e.1, drop e.2))).filter (fun e => e.2 != ({} : DecBit)) } }

/-! ### Presentation (R247, R248, R250, R255) -/

/-- A decision word. -/
structure Shown where
  state : Nat
  valid : Bool
  late  : Bool
  taint : Bool
deriving DecidableEq, Repr

/-- Not decided: 0b01000. -/
def notDecided : Shown := { state := 0, valid := false, late := true, taint := false }

/-- The decision `d` is tainted as it is presented in tick `y` (R260): its Loom has ended, or its shot was marked
before the tick in which it was written, or before its due tick where it has not been. -/
def taintedAt (s : State) (d : Decision) (y : Nat) : Bool :=
  let by_ := match d.written with | some (w, _) => if y < w then d.due else w | none => d.due
  (match d.taintAt with | some t => decide (t ≤ y) | none => false)
    || (decide (0 < by_) && markedBy s d.loom d.start (by_ - 1))

/-- A local bit as the Looms of tile `c` see it in sample tick `y`; tile 12 stands for any other tile. -/
def presentLocal (s : State) (b c y : Nat) : Shown :=
  match currentAt (s.decBit b).armed y with
  | none => notDecided
  | some d =>
    match d.written with
    | none => { notDecided with taint := taintedAt s d y }
    | some (w, st) =>
      let a := w + (if c = d.tile then 1 else 4)
      { state := if w ≤ y then st else 0, valid := decide (a ≤ y) && becomesValid d a
        late := decide (d.due < a) || decide (y < w) || !becomesValid d a
        taint := taintedAt s d y }

/-- Slot of a link's direction in the binding table. -/
def slotKey (link dir slot : Nat) : Nat := (2 * link + dir) * 32 + slot

/-- The bindings in force in tick `y`, the present one or the one before (R257). -/
def bindsAt (s : State) (y : Nat) : Tbl Nat := if y < stTick s then s.warp.bindsWas else s.warp.binds

/-- The import slot bound to a bit by `binds`: link and slot. -/
def importOf (binds : Tbl Nat) (b : Nat) : Option (Nat × Nat) :=
  (binds.find? (fun e => e.1 / 32 % 2 == 1 && e.2 == b + 1)).map (fun e => (e.1 / 64, e.1 % 32))

/-- The presentation of a slot's 3-bit value (R255). -/
def shownCode (v : Nat) : Shown :=
  let t := decide (v / 4 % 2 = 1)
  match v % 4 with
  | 0 => { notDecided with taint := t }
  | c => { state := c - 1, valid := true, late := false, taint := t }

/-- An imported bit in tick `y`: what its slot's frame brought, not decided and tainted without a frame, and
not decided when no slot is bound (R255, R258). -/
def presentImport (s : State) (b y : Nat) : Shown :=
  match importOf (bindsAt s y) b with
  | none => notDecided
  | some (k, i) =>
    match (tget [] s.warp.imports k).find? (fun e => e.1 == y) with
    | some (_, f) => shownCode (fld f (3 * i) 3)
    | none => shownCode 4

def presentBit (s : State) (b c y : Nat) : Shown := if b < 512 then presentLocal s b c y else presentImport s b y

/-- The bit as a Loom of owner `part` in tile `c` sees it (R250): the word, and WARPDENY. -/
def presentTo (s : State) (part b c y : Nat) : Shown × Bool :=
  if part ≠ 0 && (ownerOf s oBit b).part != part then (notDecided, true) else (presentBit s b c y, false)

/-- The value of an export slot (R255). -/
def exportCode (s : State) (link slot y : Nat) : Nat :=
  match tget 0 s.warp.binds (slotKey link 0 slot) with
  | 0 => 0
  | n =>
    let v := presentBit s (n - 1) 12 y
    (if v.valid && !v.late then v.state + 1 else 0) + 4 * b2n v.taint

/-- The Warp field of a frame sent for tick `y` (R255). -/
def exportField (s : State) (link y : Nat) : Nat :=
  ((List.range 21).map (fun i => exportCode s link i y * 8 ^ i)).sum

/-! ### Due ticks (R245, R249) -/

/-- A line asserts in the present tick, once. -/
def assertOnce (s : State) (l : Line) : State :=
  if s.harness.asserts.any (fun a => a.line == l && a.tick == s.now) then s else assertLine s l

/-- A due tick passes: WARP_LATE of the producer's tile for a decision that is not valid device-wide, and the
decisions that no tick presents any more are dropped. -/
def execDueTick (bit : Fin 512) (s : State) : Out State :=
  let y := stTick s
  let l := (s.decBit bit).armed
  let s := (l.filter (fun d => d.due == y && lateDecision d)).foldl
    (fun s d => if tileActive s d.tile then assertOnce s (.warpLate d.tile) else s) s
  let keep := match currentAt l (y - 2) with | some d => d.due | none => 0
  .next (s.modBit bit (fun x => { x with armed := x.armed.filter (fun d => decide (keep ≤ d.due)) }))

/-! ### WARP_BIND (R257) -/

/-- A staged import of bit `b` on another slot. -/
def stagedImport (s : State) (key b : Nat) : Bool :=
  s.staged.any (fun x => x.kind == .warpBind && x.obj != key && bit x.blk 8 && bit x.blk 2 && fld x.blk 16 10 == b)

def warpBindBody (k : Call) (s : State) : Result :=
  let slot := fld k.blk 3 5
  let imp := bit k.blk 2
  let b := fld k.blk 16 10
  let key := slotKey (fld k.blk 0 2) (b2n imp) slot
  let ap := fld k.blk 64 64
  let bound := s.warp.binds.any (fun e => e.1 != key && e.1 / 32 % 2 == 1 && e.2 == b + 1)
  checked s (oBit, b)
    ([(decide (slot > 20) || (imp && decide (b < 512)) || fld k.blk 9 7 != 0 || fld k.blk 26 38 != 0, .badParam),
      (imp && bit k.blk 8 && (bound || stagedImport s key b), .busy),
      ((ownerOf s oBit b).part != k.who.part, .partDenied)] ++ timeFail ap k.accept ++ [(isStaged s .warpBind key, .busy)])
    (let id := key
     let st := storeImage s 0x0801 oBit (id + 2 ^ 16) 16 (k.blk % 2 ^ 8) (k.blk % 2 ^ 64)
     scheduled (stage st.1 { kind := .warpBind, obj := key, blk := k.blk, at_ := applyAt ap k.accept, func := k.func })
       (applyAt ap k.accept) [{ st.2 with objId := b }])

def execWarpBind (c : Frame) (s : State) : Out State := .next (serve { op := 0x0801 } c s warpBindBody)

def applyWarpBind (s : State) (key blk : Nat) : State :=
  { s with warp := { s.warp with
      binds := tset 0 s.warp.binds key (if bit blk 8 then fld blk 16 10 + 1 else 0) } }

/-- A lost frame of link `k` is shown in the present tick (R258): WARPLOSS on each bit bound to an import slot. -/
def warpLoss (s : State) (k : Nat) : State :=
  s.warp.binds.foldl (fun s e => if e.1 / 32 = 2 * k + 1 then warpHit s (e.2 - 1) wWarpLoss else s) s

/-- The lost frames of the present tick are shown (R258). -/
def showLosses (s : State) : State :=
  let due := s.warp.losses.filter (fun e => decide (e.1 ≤ s.now))
  if due.isEmpty then s
  else
    due.foldl (fun s e => warpLoss s e.2)
      { s with warp := { s.warp with losses := s.warp.losses.filter (fun e => decide (s.now < e.1)) } }

/-- The bindings of the tick that ends (R257). -/
def keepBinds (s : State) : State := { s with warp := { s.warp with bindsWas := s.warp.binds } }

/-! ### WARP_STATUS (R264) -/

def warpMap : FlagMap := (List.range 5).map (fun i => (176 + i, 192 + 16 * i))

/-- PKIND and PID of a bit. -/
def producerCode (s : State) (b : Nat) : Nat × Nat :=
  if b < 512 then
    match s.producers b with
    | [] => (0, 0)
    | (kind, id) :: _ => (kind + 1, if kind = 2 then id else tidOfRt id)
  else match importOf s.warp.binds b with
    | some (k, i) => (4, 32 * k + i)
    | none => (0, 0)

def warpImage (s : State) (b : Nat) : Nat :=
  let y := stTick s
  let l := (s.decBit b).armed
  let v := presentBit s b 12 y
  let p := producerCode s b
  let pend := pendingAt l y
  b + v.state * 2 ^ 16 + b2n v.valid * 2 ^ 18 + b2n v.late * 2 ^ 19 + b2n v.taint * 2 ^ 20 + pend.length * 2 ^ 21
    + p.1 * 2 ^ 25 + (match currentAt l y with | some d => 32 * d.due | none => 0) * 2 ^ 32
    + (match pend with | [] => 0 | d :: r => 32 * r.foldl (fun m e => min m e.due) d.due) * 2 ^ 96
    + p.2 * 2 ^ 160 + flagImage warpMap (tget [] s.warp.flags b)

def warpStatusBody (k : Call) (s : State) : Result :=
  let b := fld k.blk 0 10
  checked s (oBit, b)
    [(statusReqBad k 10 384 warpMap, .badParam),
     (k.func != 0 && (ownerOf s oBit b).part != k.who.part, .partDenied)]
    (report (if k.clear then { s with warp := { s.warp with
        flags := tmod [] s.warp.flags b (clearFlags s.now warpMap k.blk) } } else s) (leBytes 48 (warpImage s b)))

def execWarpStatus (c : Frame) (s : State) : Out State := .next (serve { op := 0x0802 } c s warpStatusBody)

end Sys2Proof.Machine
end

