-- ==== Sys2Proof/Machine/Loom.lean ====
section
/-! DEFINITION. Looms: drafts, runs, shots and microwords (08 R211 to R243). -/

namespace Sys2Proof.Machine

/-! ### Microword fields (R213, R214, R225) -/

def uNext (w : Nat) : Nat := fld w 0 12
def uAlt (w : Nat) : Nat := fld w 12 12
def uOpnd (w : Nat) : Nat := fld w 24 6
def uType (w : Nat) : Nat := fld w 30 3
def uInv (w : Nat) : Bool := bit w 33
def uHold (w : Nat) : Nat := fld w 34 20
def uUntil (w : Nat) : Bool := bit w 54
def uCsel (w : Nat) : Nat := fld w 55 3
def uCop (w : Nat) : Nat := fld w 58 3
def uCimm (w : Nat) : Nat := fld w 61 24
def uIxsel (w : Nat) : Nat := fld w 85 2
def uIxop (w : Nat) : Nat := fld w 87 2
def uIximm (w : Nat) : Nat := fld w 89 12
def uPubEn (w : Nat) : Bool := bit w 101
def uPubDb (w : Nat) : Nat := fld w 102 9
def uPubSt (w : Nat) : Nat := fld w 111 2
def uRaise (w : Nat) : Nat := fld w 113 4
def uSpEn (w : Nat) : Bool := bit w 117
def uSpSel (w : Nat) : Nat := fld w 118 2
def uEnd (w : Nat) : Bool := bit w 120
def uSpCode (w : Nat) : Nat := fld w 121 7
def uSlot (w i : Nat) : Nat := fld w (128 + 32 * i) 32

def eOp (e : Nat) : Nat := fld e 0 4
def eKind (e : Nat) : Nat := fld e 4 2
def eIndex (e : Nat) : Nat := fld e 6 5
def eParam (e : Nat) : Nat := fld e 11 12
def eIxen (e : Nat) : Bool := bit e 23
def eIxr (e : Nat) : Nat := fld e 24 2
def eTsen (e : Nat) : Bool := bit e 26
def eTs (e : Nat) : Nat := fld e 27 3

/-! ### Draft checks (R230 to R232) -/

/-- Largest PARAM of an op; for PHASE of its entry field (R226). -/
def paramMax (op : Nat) : Nat :=
  match op with
  | 1 => 4095 | 2 => 63 | 3 => 63 | 4 => 255 | 5 => 15 | 6 => 63 | 7 => 63 | _ => 0

/-- A slot breaks R225 to R227. -/
def slotBad (e : Nat) : Bool :=
  let op := eOp e
  if op = 0 then
    if eTsen e then fld e 30 2 != 0 || eKind e == 3 || (eKind e == 2 && decide (eIndex e ≥ 16)) || eParam e != 0 || eIxen e
    else e != 0
  else if op = 8 then
    fld e 30 2 != 0 || eKind e != 0 || eIndex e != 0 || eIxen e || eTsen e || decide (eParam e ≥ 32) || eParam e / 8 == 3
  else
    decide (op > 8) || fld e 30 2 != 0 || !opAccepted (eKind e) op || (eKind e == 2 && decide (eIndex e ≥ 16))
      || (eTsen e && op == 7)
      || (op == 3 && decide (eParam e ≥ 128))
      || (!eIxen e && decide ((if op = 3 then eParam e % 64 else eParam e) > paramMax op))

/-- Unused OPND bits, or an unused type (R214, R232). -/
def condBad (w : Nat) : Bool :=
  let o := uOpnd w
  match uType w with
  | 0 => o != 0 | 1 => o != 0 | 2 => false | 3 => decide (o ≥ 4) | 7 => true | _ => decide (o ≥ 8)

/-- A word breaks R232, in a draft of `n` words. -/
def wordBad (n w : Nat) : Bool :=
  decide (uNext w ≥ n) || decide (uAlt w ≥ n) || condBad w
    || decide (uCop w ≥ 5) || (uCop w == 0 && (uCsel w != 0 || uCimm w != 0))
    || (uIxop w == 0 && (uIxsel w != 0 || uIximm w != 0)) || (uIxop w == 3 && decide (uIximm w ≥ 8))
    || (uPubEn w && uPubSt w == 3)
    || (uEnd w && (uNext w != 0 || uAlt w != 0 || fld w 24 10 != 0 || uUntil w))
    || (List.range 6).any (fun i => slotBad (uSlot w i))

def hWords (h : Nat) : Nat := fld h 32 13
def hEntry (h : Nat) : Nat := fld h 48 12
def hPersist (h : Nat) : Nat := fld h 64 12
def hBuild (h : Nat) : Nat := fld h 384 64

def draftRsv : List (Nat × Nat) := [(18, 14), (45, 3), (60, 4), (76, 52), (368, 16), (448, 64)]

/-- The words of an image. -/
def draftWords (b : List Byte) (n : Nat) : List Nat :=
  (List.range n).map (fun i => leNat ((b.drop (64 + 40 * i)).take 40))

def draftBad (b : List Byte) : Bool :=
  let h := leNat (b.take 64)
  let n := hWords h
  n == 0 || decide (n > 4096) || b.length != 64 + 40 * n + 96 || decide (hEntry h ≥ n) || !rsvOk h draftRsv
    || (draftWords b n).any (wordBad n)

/-- The key of a slot verifies an image of the owner's partition (20 R522, R523). -/
def imageSigned (s : State) (part slot : Nat) (b : List Byte) : Bool :=
  let k := tget 0 s.keys slot
  bit (tget {} s.parts part).keymask slot && k != 0
    && ecdsaOk (fld k 0 384) (fld k 384 384) (b.take (b.length - 96)) (b.drop (b.length - 96))

/-- The owner's partition owns every object that a draft names (R231). -/
def draftOwned (s : State) (l part : Nat) (ws : List Nat) : Bool :=
  ws.all (fun w =>
    (List.range 6).all (fun i =>
      let e := uSlot w i
      if e = 0 then true
      else if eOp e = 8 then (ownerOf s oMarkOut (eParam e % 8)).part == part
      else (threadOwner s (mkTid (tileOfLoom l) (eKind e) (eIndex e))).part == part)
    && (!uPubEn w || (ownerOf s oBit (uPubDb w)).part == part))

/-- Internal address of code word `j` of microword `a` (23 R561). -/
def draftAddr (l a j : Nat) : Nat := 0x800020000000 + 0x40000 * l + 64 * a + 8 * j

def loomLoadBody (k : Call) (s : State) : Result :=
  let l := fld k.blk 0 7
  let x := s.loom l
  let b := k.data
  let h := leNat (b.take 64)
  let ws := draftWords b (hWords h)
  let o := loomOwner s l
  let tested := match s.gaf.running with | some i => formatTested i 40 (fld h 0 16) | none => false
  checked s (oLoom, l)
    [(decide (l ≥ 96) || fld k.blk 7 121 != 0 || !k.isRef, .badParam),
     (tileDown s (tileOfLoom l) || x.state == .failed, .notActive), (!mayChange k.who o, .partDenied),
     (!(x.state == .empty || x.state == .loaded || x.state == .fault), .busy),
     (!tested, .incompatible), (!imageSigned s o.part (fld h 16 2) b, .sigFail), (draftBad b, .badDraft),
     (!draftOwned s l o.part ws, .partDenied),
     (ws.any (fun w => uPubEn w && (s.producers (uPubDb w)).any (fun p => p != (2, l))), .busy)]
    (done ((clearErrs s (draftAddr l 0 0) 0x40000).modLoom l (fun x => { x with
        state := .loaded, header := h
        words := (ws.zipIdx).foldl (fun t w => tset 0 t w.2 w.1) [] }))
      [item oLoom l (hBuild x.header) (hBuild h)])

def execLoomLoad (c : Frame) (s : State) : Out State :=
  .next (serve { op := 0x0701, inlineF := true } c s loomLoadBody)

/-! ### LOOM_CFG (R235) -/

def cfgSpool (b i : Nat) : Nat := fld b (32 + 16 * i) 16

def loomCfgBody (k : Call) (s : State) : Result :=
  let b := k.blk
  let l := fld b 0 7
  let x := s.loom l
  let o := loomOwner s l
  let sp := ((List.range 4).map (cfgSpool b)).filter (fun n => n != 0)
  checked s (oLoom, l)
    [(decide (l ≥ 96) || fld b 7 25 != 0 || fld b 112 144 != 0, .badParam),
     (tileDown s (tileOfLoom l) || x.state == .failed, .notActive),
     (!mayChange k.who o || (List.range 4).any (fun i => bit b (99 + 4 * i) &&
        !routeOk s o (tileCand (tileOfLoom l) (4 * (l % 8) + i) (fld b (96 + 4 * i) 3))), .partDenied),
     (!(x.state == .empty || x.state == .loaded), .busy), (sp.any (fun n => !recordSpool s n), .badParam),
     (sp.any (fun n => (s.spool n).owner != o.part), .partDenied)]
    (let st := storeImage s 0x0702 oLoom l 32 l (b % 2 ^ 112)
     let s := (List.range 4).foldl (fun s i => storeSel s (tileConsumer (tileOfLoom l) (4 * (l % 8) + i))) st.1
     done (s.modLoom l (fun x => { x with cfg := b % 2 ^ 112 / 2 ^ 32 * 2 ^ 32 })) [st.2])

def execLoomCfg (c : Frame) (s : State) : Out State := .next (serve { op := 0x0702 } c s loomCfgBody)

/-! ### LOOM_RUN (R236, R239) -/

def lSkip : Nat := 16
def lIxRange : Nat := 17
def lFetch : Nat := 18
def lMarkConf : Nat := 19
def lRunLost : Nat := 20
def lAborted : Nat := 21
def lPushDrop : Nat := 22

def loomHit (s : State) (l f : Nat) : State := s.modLoom l (fun x => { x with flags := hit s.now x.flags f })

/-- The checks common to the three actions. -/
def runChecks (k : Call) (s : State) (act : Nat) : List (Bool × Status) :=
  let l := fld k.blk 0 7
  [(decide (l ≥ 96) || fld k.blk 7 1 != 0 || fld k.blk 8 2 != act || fld k.blk 10 22 != 0 || fld k.blk 192 64 != 0, .badParam),
   (tileDown s (tileOfLoom l) || (s.loom l).state == .failed, .notActive), (!mayChange k.who (loomOwner s l), .partDenied)]

def loomActive (x : Loom) : Bool := x.state == .armed || x.state == .running

def loomRunBody (k : Call) (s : State) : Result :=
  let b := k.blk
  let l := fld b 0 7
  let x := s.loom l
  let at_ := fld b 64 64
  let shots := fld b 128 32
  let per := fld b 160 32
  checked s (oLoom, l)
    (runChecks k s 0 ++
     [(stopCovers s (quadOfLoom l), .busy), (at_ % 32 != 0, .badTime), (decide (at_ < k.accept + leadSamples), .tooLate),
      (s.time.mode != .set, .noEpoch), (x.state == .empty || x.state == .fault, .badParam), (loomActive x, .busy),
      (per == 0 && shots != 1, .badParam)])
    (scheduled (s.modLoom l (fun x => { x with
       state := .armed, started := false, run := some { first := fld b 32 32, at_ := at_, shots := shots, period := per } })) at_ [])

def execLoomRun (c : Frame) (s : State) : Out State := .next (serve { op := 0x0703 } c s loomRunBody)

/-- STOP: no shot starts any more; a running shot goes on to its END (R239). -/
def loomStopBody (k : Call) (s : State) : Result :=
  let l := fld k.blk 0 7
  checked s (oLoom, l) (runChecks k s 1 ++ [(!loomActive (s.loom l), .badParam)])
    (done (s.modLoom l (fun x =>
      if x.state = .running then { x with run := x.run.map (fun r => { r with stop := true }) }
      else { x with state := .loaded, run := none })) [])

def execLoomStop (c : Frame) (s : State) : Out State := .next (serve { op := 0x0703 } c s loomStopBody)

/-- ABORT: the Loom presents nothing from the next tick boundary on (R239). -/
def loomAbortBody (k : Call) (s : State) : Result :=
  let l := fld k.blk 0 7
  checked s (oLoom, l) (runChecks k s 2 ++ [(!loomActive (s.loom l), .badParam)])
    (scheduled (s.modLoom l (fun x => { x with abort := some (s.now + 1) })) (k.accept + 32) [])

def execLoomAbort (c : Frame) (s : State) : Out State := .next (serve { op := 0x0703 } c s loomAbortBody)

/-- A run ends before its END word: the shot is marked `mark`, its decisions are tainted, the Loom is LOADED
(R239, R240; 09 R260, R261). -/
def cutRun (s : State) (l : Nat) (mark : Bool) (flag : Nat) : State :=
  if !loomActive (s.loom l) then s
  else
    let s := if mark then markRunning s l cHalt else s
    let s := if (s.loom l).state = .running then shotEnded s l else s
    (taintLoom s l).modLoom l (fun x => { x with
      state := .loaded, run := none, word := none, abort := none, flags := hit s.now x.flags flag })

/-- Aborts whose tick has come. -/
def applyAborts (s : State) : State :=
  s.looms.foldl (fun s e =>
    match e.2.abort with
    | some t => if t ≤ s.now then cutRun (s.modLoom e.1 (fun x => { x with abort := none })) e.1 true lAborted else s
    | none => s) s

/-! ### Shot starts (R236 to R238) -/

/-- Registers at the start of a shot; `first`: the first of the run. -/
def loadRegs (x : Loom) (first : Bool) : Loom :=
  let h := x.header
  let keep (i : Nat) : Bool := bit (hPersist h) i && !first
  { x with
    counters := (List.range 8).foldl (fun t i => if keep i then t else tset 0 t i (fld h (128 + 24 * i) 24)) x.counters
    index := (List.range 4).foldl (fun t i => if keep (8 + i) then t else tset 0 t i (fld h (320 + 12 * i) 12)) x.index
    latches := [], meas := 0 }

/-- The run has no further shot. -/
def runOver (r : LoomRun) : Bool := r.stop || (r.shots != 0 && decide (r.next ≥ r.shots))

/-- The shot start instant of shot `next` is now: it starts, or is skipped (R238, 18 R477; outside SET, 02 R38). -/
def execShotStart (loom : Fin 96) (s : State) : Out State :=
  let l := loom.val
  let x := s.loom l
  .next (match x.run with
    | none => s
    | some r =>
      if !loomActive x || runOver r || s.st != r.at_ + 32 * r.period * r.next then s
      else
        let r' := { r with next := r.next + 1 }
        if x.state = .running || !tileActive s (tileOfLoom l) || stopCovers s (quadOfLoom l) || s.time.mode != .set then
          s.modLoom l (fun x => { x with
            flags := hit s.now x.flags lSkip
            state := if x.state = .armed && runOver r' then .loaded else x.state
            run := if x.state = .armed && runOver r' then none else some r' })
        else
          s.modLoom l (fun x => { loadRegs x (!x.started) with
            state := .running, run := some r', shot := (r.first + r.next) % 2 ^ 32, lastStart := s.st, started := true
            word := some (hEntry x.header, 0) }))

/-! ### Conditions (R214 to R217, R220) -/

/-- Events are delivered to Harness input `i` in device tick `t`. -/
def eventAt (x : Loom) (i t : Nat) : Bool := tget 0 x.events i == t + 1 || tget 0 x.events (4 + i) == t + 1

/-- A condition's effect: the Loom's flags and marks, and whether it is true. -/
structure Tested where
  next : State
  true_ : Bool

/-- A DB or LATE condition on bit IX n (R215; 09 R250, R261). -/
def testBit (s : State) (l w : Nat) : Tested :=
  let x := s.loom l
  let o := uOpnd w
  let n := tget 0 x.ixPre (o % 4)
  let y := stTick s - 1
  let r := presentTo s (loomOwner s l).part (n % 1024) (tileOfLoom l) y
  let v := if n ≥ 1024 then notDecided else r.1
  let s := if n ≥ 1024 then loomHit s l lIxRange
    else
      let s := if r.2 then warpHit s (n % 1024) wWarpDeny else s
      if r.1.taint then markShot (warpHit s (n % 1024) wTaintSmp) l x.lastStart x.shot cTaint y else s
  let dec := v.valid && !v.late
  let eq := v.state == o / 4 % 4
  { next := s
    true_ := if uType w = 3 then !dec
             else match o / 16 with
               | 0 => dec && eq | 1 => dec && !eq | 2 => eq || !dec | _ => !eq || !dec }

/-- The tested condition after INV, in the present tick; `pre` gives the counters before the word's own
operation in its first tick (R212). -/
def testCond (s : State) (l w : Nat) (pre : Tbl Nat) : Tested :=
  let x := s.loom l
  let o := uOpnd w
  let t : Tested := match uType w with
    | 1 => ⟨s, true⟩
    | 2 => testBit s l w
    | 3 => testBit s l w
    | 4 => ⟨s, tget 0 pre o == 0⟩
    | 5 => ⟨s, if o < 4 then eventAt x (o % 4) (s.now - 1) else tget false x.latches (o % 4)⟩
    | 6 => ⟨s, (tget {} s.markIn o).samples.getD 4 false⟩
    | _ => ⟨s, false⟩
  { t with true_ := t.true_ != uInv w }

/-! ### A word's actions (R218 to R227) -/

/-- COP on C[CSEL] (R218). -/
def counterOp (w : Nat) (c : Tbl Nat) : Tbl Nat :=
  let i := uCsel w
  let v := tget 0 c i
  match uCop w with
  | 1 => tset 0 c i (uCimm w)
  | 2 => tset 0 c i (v - 1)
  | 3 => tset 0 c i ((v + 1) % 2 ^ 24)
  | 4 => tset 0 c i ((v + uCimm w) % 2 ^ 24)
  | _ => c

/-- IXOP on IX[IXSEL] (R219); LOADC reads the counter before the word's own operation. -/
def indexOp (w : Nat) (c ix : Tbl Nat) : Tbl Nat :=
  let i := uIxsel w
  match uIxop w with
  | 1 => tset 0 ix i (uIximm w)
  | 2 => tset 0 ix i ((tget 0 ix i + uIximm w) % 4096)
  | 3 => tset 0 ix i (tget 0 c (uIximm w % 8) % 4096)
  | _ => ix

/-- The parameter of a slot with its index register added; none: out of range, not presented (R227). -/
def slotParam (ix : Tbl Nat) (e : Nat) : Option Nat :=
  if !eIxen e then some (eParam e)
  else
    let a := tget 0 ix (eIxr e)
    if eOp e = 3 then
      if eParam e % 64 + a > 63 then none else some (eParam e - eParam e % 64 + (eParam e % 64 + a))
    else if eParam e + a > paramMax (eOp e) then none else some (eParam e + a)

/-- Present the six slots (R225 to R227): each emission reaches its target two ticks later (03 R59). -/
def presentSlots (s : State) (l w : Nat) : State :=
  (List.range 6).foldl (fun s i =>
    let e := uSlot w i
    let x := s.loom l
    if e = 0 then s
    else match slotParam x.index e with
      | none => loomHit s l lIxRange
      | some p =>
        let em : Emission :=
          { tick := s.now + 2, loom := l, slot := i, op := eOp e, kind := eKind e, index := eIndex e, param := p
            ts := if eTsen e then some (eTs e) else none, start := x.lastStart, shot := x.shot, meas := x.meas }
        let s := { s with emits := s.emits ++ [em] }
        if eOp e = 5 then s.modLoom l (fun x => { x with meas := x.meas + 1 }) else s) s

/-- The publication of a word presented in tick x (R222): it is armed and written in x + 1. -/
def publish (s : State) (l w : Nat) : State :=
  if !uPubEn w then s
  else s.modLoom l (fun x => { x with pub := some (stTick s, uPubDb w, uPubSt w, x.lastStart) })

/-- The publication of tick x is armed and written in the present tick, x + 1, and due at x + 5 (09 R244). -/
def armPub (s : State) (l : Nat) : State :=
  match (s.loom l).pub with
  | none => s
  | some (x, b, st, start) =>
    let d : Decision := { due := x + 5, kind := 2, id := l, tile := tileOfLoom l, loom := l, start := start, k := x }
    let r := arm (s.modLoom l (fun y => { y with pub := none })) b d (x + 1)
    if r.2 then writeDecision r.1 b 2 l x (x + 1) st else r.1

/-- The publications of the tick before. -/
def armPubs (s : State) : State := ((s.looms.filter (fun e => e.2.pub.isSome)).map (fun e => e.1)).foldl armPub s

/-- Harness lines of a word (R223). -/
def raises (s : State) (l w : Nat) : State :=
  (List.range 4).foldl (fun s i => if bit (uRaise w) i then assertAt s (.loom (4 * l + i)) (s.now + 1) 1 else s) s

/-- The Loom record of a word (R224), without UNDERRUN and NONDET; it takes its tag now (11 R297) and reaches
the Spool engine in two ticks. -/
def pushRecord (s : State) (l a w : Nat) : State :=
  if !uSpEn w then s
  else
    let x := s.loom l
    let n := cfgSpool x.cfg (uSpSel w)
    if n = 0 then loomHit s l lPushDrop
    else
      let img := pack [(x.shot, 32), (l, 7), (0, 1), (uSpCode w, 7), (0, 1), (a, 12), (0, 4), (s.st, 64),
        (tget 0 x.counters (uCsel w), 24), (0, 8), (tget 0 x.index (uIxsel w), 12)]
      let r := reserve s n (some (tileOfLoom l)) rowLoom l
      let p : Push := { tick := s.now + 2, spool := n, resv := r.2, image := img, start := x.lastStart }
      r.1.modLoom l (fun x => { x with pushes := x.pushes ++ [p] })

/-- Records whose tick has come enter their Spools, marked by the tick of their word (R224, 09 R262). -/
def handPushes (s : State) : State :=
  s.looms.foldl (fun s e =>
    let due := e.2.pushes.filter (fun p => decide (p.tick ≤ s.now))
    if due.isEmpty then s
    else
      let s := s.modLoom e.1 (fun x => { x with pushes := x.pushes.filter (fun p => decide (s.now < p.tick)) })
      due.foldl (fun s p =>
        let t := fld p.image 64 64 / 32
        handOn s p.spool e.1 false p.resv (leBytes 32 (p.image
          + b2n (underrunBy s e.1 p.start t) * 2 ^ 176 + b2n (markedBy s e.1 p.start t) * 2 ^ 177))) s) s

/-! ### The microword of a tick (R211, R220, R221, R233) -/

/-- A draft-store fetch that finds an uncorrectable word: FAULT, and the run ends (R233). -/
def draftFault (s : State) (l : Nat) : State :=
  let s := shotEnded (markRunning s l cMemErr) l
  (taintLoom s l).modLoom l (fun x => { x with state := .fault, run := none, word := none, flags := hit s.now x.flags lFetch })

/-- The shot ends with its END word's last tick (R221, R239; 18 R477). -/
def endShot (s : State) (l : Nat) : State :=
  let ended := (match (s.loom l).run with | some r => runOver r | none => true) || stopCovers s (quadOfLoom l)
  (shotEnded s l).modLoom l (fun x => { x with
    state := if ended then .loaded else .armed, run := if ended then none else x.run })

/-- A LATCH condition that makes the word take ALT clears its latch (R216). -/
def clearLatch (s : State) (l w : Nat) : State :=
  if uType w = 5 && decide (uOpnd w ≥ 4) && !uInv w then
    s.modLoom l (fun x => { x with latches := tset false x.latches (uOpnd w % 4) false })
  else s

/-- The word that follows: tick `j` of the word at `a` (R220). -/
def advance (s : State) (l a w j : Nat) (pre : Tbl Nat) : State :=
  let goto (s : State) (p : Nat × Nat) : State := s.modLoom l (fun x => { x with word := some p })
  if uEnd w then (if j = uHold w then endShot s l else goto s (a, j + 1))
  else if j = uHold w || uUntil w then
    let t := testCond s l w pre
    if t.true_ then goto (clearLatch t.next l w) (uAlt w, 0)
    else goto t.next (if j = uHold w then (uNext w, 0) else (a, j + 1))
  else goto s (a, j + 1)

/-- The bit that Loom `l` samples in the present tick: the word it presents next tests a DB or LATE condition then (R214,
R215, R220). -/
def sampledBit (s : State) (l : Nat) : Option Nat :=
  let x := s.loom l
  match x.word with
  | none => none
  | some (a, j) =>
    let w := tget 0 x.words a
    if x.state != .running || x.abort.isSome || uEnd w || !(uType w == 2 || uType w == 3) || !(j == uHold w || uUntil w) then none
    else some (tget 0 (if j = 0 then x.index else x.ixPre) (uOpnd w % 4))

/-- What each condition samples in the present tick: whether it is tainted (09 R261, R262). -/
def sampleTaints (s : State) : State :=
  (s.looms.map (fun e => e.1)).foldl (fun s l =>
    let t := match sampledBit s l with
      | some n => decide (n < 1024) && (presentTo s (loomOwner s l).part n (tileOfLoom l) (stTick s)).1.taint
      | none => false
    if (s.loom l).tainted = t then s else s.modLoom l (fun x => { x with tainted := t })) s

/-- A Loom that runs a shot presents its microword of the tick (R211). -/
def execMicroword (loom : Fin 96) (s : State) : Out State :=
  let l := loom.val
  let x := s.loom l
  .next (match x.word with
    | none => s
    | some (a, j) =>
      if x.state != .running || x.last == s.now + 1 then s
      else
        let s := s.modLoom l (fun x => { x with last := s.now + 1 })
        let evs := (List.range 5).flatMap (fun i => wordEvents (draftAddr l a i) (maskOf s.mem (draftAddr l a i)))
        let bad := (List.range 5).any (fun i => badWord (maskOf s.mem (draftAddr l a i)))
        let s := memEvents s (loomOwner s l).part (.tile (tileOfLoom l)) evs
        if bad then draftFault s l
        else
          let w := tget 0 x.words a
          let s := s.modLoom l (fun x => { x with pc := a, ixPre := if j = 0 then x.index else x.ixPre })
          if j = 0 then
            let pre := x.counters
            let s := presentSlots s l w
            let s := s.modLoom l (fun x => { x with
              index := indexOp w x.counters x.index, counters := counterOp w x.counters })
            advance (pushRecord (raises (publish s l w) l w) l a w) l a w 0 pre
          else advance s l a w j (s.loom l).counters)

/-! ### LOOM_STATUS (R242) -/

def loomMap : FlagMap := (List.range 7).map (fun i => (16 + i, 160 + 16 * i))

def loomCode : LoomState → Nat
  | .empty => 0 | .loaded => 1 | .armed => 2 | .running => 3 | .fault => 4 | .failed => 5

/-- LOOM_STATUS (R242): its table has no field for the BUILD_ID that R230 says it reports; the header keeps it (DEDUCED,
log 123). -/
def loomImage (s : State) (l : Nat) : Nat :=
  let x := s.loom l
  l + loomCode x.state * 2 ^ 8 + flagImage loomMap x.flags + x.pc * 2 ^ 32 + x.shot * 2 ^ 64 + x.lastStart * 2 ^ 96

def loomStatusBody (k : Call) (s : State) : Result :=
  let l := fld k.blk 0 7
  checked s (oLoom, l)
    [(decide (l ≥ 96) || statusReqBad k 7 320 loomMap, .badParam),
     (k.func != 0 && (loomOwner s l).part != k.who.part, .partDenied)]
    (report (if k.clear then s.modLoom l (fun x => { x with flags := clearFlags s.now loomMap k.blk x.flags }) else s)
      (leBytes 40 (loomImage s l)))

def execLoomStatus (c : Frame) (s : State) : Out State := .next (serve { op := 0x0704 } c s loomStatusBody)

/-! ### Resets (R241) -/

/-- A tile reset's effect on a Loom; its draft and configuration stay. -/
def resetLoom (x : Loom) : Loom :=
  { x with
    state := if x.state = .failed then .failed else if x.header = 0 then .empty else .loaded
    counters := [], index := [], ixPre := [], latches := [], events := [], run := none, word := none, pc := 0
    abort := none, shot := 0, lastStart := 0, meas := 0, flags := [], pushes := [], started := false, pub := none
    tainted := false }

/-- The warm-reset state of a Loom (R241; FAILED stays, 20 R509). -/
def warmLoom (x : Loom) : Loom := { state := if x.state = .failed then .failed else .empty, marks := x.marks }

/-! ### Marker outputs (R229) -/

/-- A MARK emission reaches the marker: it acts 32 ticks later, from ST 32(t + 34) (R229). SET and CLEAR of
different Looms in one tick: the lowest-numbered Loom wins, and the losers set MARKCONF. -/
def execEmitMark (marker : Fin 8) (s : State) : Out State :=
  let es := s.emits.filter (fun e => e.op == 8 && decide (e.tick ≤ s.now) && e.param % 8 == marker.val)
  let s := { s with emits := s.emits.filter (fun e => !(e.op == 8 && decide (e.tick ≤ s.now) && e.param % 8 == marker.val)) }
  let levels := es.filter (fun e => e.param / 8 % 4 != 0)
  let pulses := es.filter (fun e => e.param / 8 % 4 == 0)
  let at_ := s.now + 32
  let put (s : State) (a : Nat) : State :=
    { s with markOut := tmod {} s.markOut marker (fun m => { m with due := m.due ++ [(at_, a, 32, true)] }) }
  let s := pulses.foldl (fun s _ => put s 3) s
  .next (match winner levels with
    | none => s
    | some w =>
      (levels.filter (fun e => e.loom != w.loom && e.param / 8 % 4 != w.param / 8 % 4)).foldl
        (fun s e => loomHit s e.loom lMarkConf) (put s (w.param / 8 % 4)))

end Sys2Proof.Machine
end

