-- ==== Sys2Proof/Machine/HarnessRun.lean ====
section
/-! DEFINITION. The Harness as it runs: what channels carry, deliveries to consumers, marker outputs
(10 R265 to R277, R284; 08 R216, R229). Times are device ticks. -/

namespace Sys2Proof.Machine

/-! ### What a channel carries (R265, R271, R272) -/

/-- A contribution to a channel: count, hop number, asynchronous class. -/
abbrev Contribution := Nat × Nat × Bool

/-- What channel `c` carried in tick `t`, if its relays stand. -/
def carriedAt (s : State) (c t : Nat) : Option Carry :=
  s.harness.carried.find? (fun x => x.chan == c && x.tick == t && !x.cut)

/-- The contribution of input `i` of channel `ch` in tick `k`. -/
def contribution (s : State) (ch i k : Nat) : Option Contribution :=
  if !bit (s.chan ch).pen i then none
  else match sourceOf ch i with
    | .line l =>
      match s.harness.asserts.filter (fun a => a.line == l && a.tick == k) with
      | [] => none
      | a :: r => some (1, r.foldl (fun h b => max h b.hop) a.hop, lineAsync l)
    | .relay c =>
      let d := hopTicks c (segmentOf ch)
      if k < d then none else (carriedAt s c (k - d)).map (fun x => (x.count, x.hop + 1, x.async))

/-- What a channel carries in tick `k`; a contribution of hop number 5 is dropped (R272). -/
def carryOf (s : State) (ch k : Nat) : Option Carry × Nat :=
  let cs := (List.range 16).filterMap (fun i => contribution s ch i k)
  let live := cs.filter (fun c => decide (c.2.1 < 5))
  let gone := tget 0 s.harness.resets (segmentOf ch) == k + 1
  (if live.isEmpty then none
   else some { chan := ch, tick := k, count := min 8 ((live.map (fun c => c.1)).sum)
               hop := live.foldl (fun h c => max h c.2.1) 0, async := live.any (fun c => c.2.2), lost := gone, cut := gone },
   cs.length - live.length)

/-- Every channel carries what its inputs contribute in tick `k`, which ends: LOOPDROP and ASSERT_CNT. -/
def closeHarness (s : State) (k : Nat) : State :=
  let rs := (s.harness.chans.map (fun e => e.1)).map (fun c => (c, carryOf s c k))
  let s := rs.foldl (fun s r =>
    if r.2.1.isNone && r.2.2 == 0 then s
    else s.modChan r.1 (fun x => { x with
      flags := (List.range r.2.2).foldl (fun f _ => hit s.now f hLoopDrop) x.flags
      assertCnt := if r.2.1.isSome then min (x.assertCnt + 1) 0xFFFFFFFF else x.assertCnt })) s
  { s with harness := { s.harness with
      carried := s.harness.carried.filter (fun c => decide (k ≤ c.tick + 2)) ++ rs.filterMap (fun r => r.2.1)
      asserts := s.harness.asserts.filter (fun a => decide (k < a.tick)) } }

/-- A tile reset discards what its segment carries in the present tick, and the relays in flight out of it
(R284). -/
def cutSegment (s : State) (tile : Nat) : State :=
  { s with harness := { s.harness with
      resets := tset 0 s.harness.resets tile (s.now + 1)
      carried := s.harness.carried.map (fun c => if segmentOf c.chan = tile then { c with cut := true } else c) } }

/-- A HARNESS_FIRE asserts in the tick of its APPLY_AT (R281). -/
def applyHarnessFire (s : State) (ch : Nat) : State := assertOnce s (.fire ch)

/-! ### Deliveries (R271, R274, R275) -/

/-- An edge input receives an event of a carry: COINC when the count is 2 or more (R274). -/
def coinc (s : State) (c : Carry) : State :=
  if c.count ≥ 2 then s.modChan c.chan (fun x => { x with flags := hit s.now x.flags hCoinc }) else s

/-- The channel that Harness input `i` of a Loom has selected (08 R235). -/
def loomSel (s : State) (l i : Nat) : Option Nat :=
  let b := (s.loom l).cfg
  if bit b (99 + 4 * i) then some (tileCand (tileOfLoom l) (4 * (l % 8) + i) (fld b (96 + 4 * i) 3)) else none

/-- An event on a Loom's input (08 R216). -/
def loomEvent (s : State) (l i : Nat) : State :=
  s.modLoom l (fun x => { x with
    events := tset 0 (tset 0 x.events (4 + i) (tget 0 x.events i)) i (s.now + 1), latches := tset false x.latches i true })

/-- The channel that a thread's segment-jump input, or a bias channel's step input, has selected. -/
def jumpSel (s : State) (t : Nat) : Option Nat :=
  let x := s.thread t
  if x.jumpEn then some (tileCand (tidTile t) (jumpInput t) x.jumpCand) else none

def stepSel (s : State) (b : Nat) : Option Nat :=
  let x := s.bc b
  if x.stepEn then some (tileCand (bcTile b) (112 + b % 32) x.cand) else none

/-! ### The table check (R283) -/

/-- Internal address of byte `j` of a channel's table entry (23 R560). -/
def chanEntryAddr (ch j : Nat) : Nat := 0x800050000000 + 16 * ch + j

/-- Internal address of a consumer's selection (23 R560). -/
def selAddr (key : Nat) : Nat := 0x800050004000 + (Config.selAt key).toNat

/-- The bytes of a channel's stored entry that are uncorrectable. -/
def badBytes (s : State) (ch : Nat) : List Nat :=
  (List.range 16).filter (fun j => byteBad (maskOf s.mem (chanEntryAddr ch j)))

/-- TBLERR on a channel, and its error record: the byte at `j` of the entry is uncorrectable. -/
def tblErr (s : State) (ch j : Nat) : State :=
  errRecord (s.modChan ch (fun x => { x with flags := hit s.now x.flags hTblErr })) (ownerOf s oChan ch).part
    (spoolRecord 0x50 ch j s.st 0)

/-- One channel's registers are compared with their stored copy: a byte of the enables that can be read repairs its register,
and an uncorrectable byte is reported. The enables are the first two bytes of the entry (DESIGN CHOICE, log 131). -/
def checkChan (s : State) (ch : Nat) : State :=
  let bad := badBytes s ch
  let keep (j v w : Nat) : Nat := (if bad.contains j then fld v (8 * j) 8 else fld w (8 * j) 8) * 2 ^ (8 * j)
  let s := s.modChan ch (fun x => { x with pen := keep 0 x.pen x.stored + keep 1 x.pen x.stored })
  bad.foldl (fun s j => tblErr s ch j) s

/-- The registers of a consumer's selection: EN, CAND, ACTION. -/
def selRegs (s : State) (key : Nat) : Nat :=
  if key < 2112 then
    let t := key / 176
    let u := key % 176
    if u < 32 then fld (s.loom (8 * t + u / 4)).cfg (96 + 4 * (u % 4)) 4 / 8 + 2 * fld (s.loom (8 * t + u / 4)).cfg (96 + 4 * (u % 4)) 3
    else if u < 112 then
      let x := s.thread (mkTid t ((u - 32) / 32) ((u - 32) % 32))
      b2n x.jumpEn + 2 * x.jumpCand
    else b2n (s.bc (32 * t + (u - 112) % 32)).stepEn + 2 * (s.bc (32 * t + (u - 112) % 32)).cand
  else
    let v := key - 2112
    if v < 104 then b2n (sinkOf s v).en + 2 * (sinkOf s v).cand + 16 * (sinkOf s v).action
    else b2n ((s.cap (v - 104)).state == .armed && (s.cap (v - 104)).trig) + 2 * (s.cap (v - 104)).cand

/-- The registers of a selection take the value of the stored copy. -/
def setSel (s : State) (key w : Nat) : State :=
  let en := bit w 0
  let cand := fld w 1 3
  let s := storeSel s key
  if key < 2112 then
    let t := key / 176
    let u := key % 176
    if u < 32 then s.modLoom (8 * t + u / 4) (fun x =>
      let lo := 96 + 4 * (u % 4)
      { x with cfg := x.cfg - fld x.cfg lo 4 * 2 ^ lo + (cand + 8 * b2n en) * 2 ^ lo })
    else if u < 112 then s.modThread (mkTid t ((u - 32) / 32) ((u - 32) % 32)) (fun x => { x with jumpEn := en, jumpCand := cand })
    else s.modBc (32 * t + (u - 112) % 32) (fun x => { x with stepEn := en, cand := cand })
  else
    let v := key - 2112
    if v < 104 then { s with harness := { s.harness with
      sinks := tset {} s.harness.sinks v { en := en, cand := cand, action := fld w 4 2 } } }
    else s.modCap (v - 104) (fun x => { x with cand := cand })

/-- The channel of a selection with value `w`. -/
def selChan (key w : Nat) : Nat :=
  if key < 2112 then tileCand (key / 176) (key % 176) (fld w 1 3) else uncoreCand (key - 2112) (fld w 1 3)

/-- One selection is compared with its stored copy. -/
def checkSel (s : State) (key : Nat) : State :=
  if byteBad (maskOf s.mem (selAddr key)) then tblErr s (selChan key (selRegs s key)) (selAddr key % 2 ^ 16)
  else match tget none s.harness.sels key with
    | some w => setSel s key w
    | none => s

/-- Channels whose entry differs or is in error. -/
def checkNeeded (s : State) : List Nat :=
  (s.harness.chans.filterMap (fun e => if e.2.pen = e.2.stored then none else some e.1))
  ++ ((s.mem.errs.filterMap (fun e =>
        if 0x800050000000 ≤ e.1 && decide (e.1 < 0x800050004000) && byteBad e.2.toNat
        then some ((e.1 - 0x800050000000) / 16) else none)))

/-- The consumers that the spec numbers: of each tile, and of the uncore. -/
def consumers : List Nat :=
  (List.range 12).flatMap (fun t => (List.range 144).map (tileConsumer t)) ++ (List.range 108).map uncoreConsumer

/-- Selections whose stored copy differs or is in error. -/
def selsNeeded (s : State) : List Nat :=
  s.harness.sels.map (fun e => e.1)
  ++ (if s.mem.errs.any (fun e => decide (0x800050004000 ≤ e.1) && decide (e.1 < 0x80005000C000) && byteBad e.2.toNat)
      then consumers.filter (fun k => byteBad (maskOf s.mem (selAddr k))) else [])

def execHarnessTableCheck (s : State) : Out State :=
  .next (if !slowNow s then s
    else (selsNeeded s).eraseDups.foldl checkSel ((checkNeeded s).eraseDups.foldl checkChan s))

/-! ### Deliveries to consumers -/

/-- The consumers of tile `t` receive the event of `c`: tile consumers of an ACTIVE tile, and the bias step inputs
always (R276, R284). -/
def deliverTile (s : State) (t : Nat) (c : Carry) : State :=
  let s := if !tileActive s t || c.lost then s
    else
      let s := (List.range 32).foldl (fun s u =>
        if loomSel s (8 * t + u / 4) (u % 4) = some c.chan then loomEvent (coinc s c) (8 * t + u / 4) (u % 4) else s) s
      (tilePlayers t).foldl (fun s p => if jumpSel s p = some c.chan then jumpEvent (coinc s c) p else s) s
  (List.range 32).foldl (fun s i =>
    if stepSel s (32 * t + i) = some c.chan then stepEvent s (32 * t + i) c.count else s) s

/-- A marker output acts 32 ticks after the event; SET and CLEAR yield to a Loom's in the same tick (R277). -/
def markerEvent (s : State) (m action ch : Nat) : State :=
  let at_ := s.now + 32
  let x := tget {} s.markOut m
  if action ≠ 0 && x.due.any (fun d => d.1 == at_ && d.2.2.2 && d.2.1 != 3) then
    s.modChan ch (fun y => { y with flags := hit s.now y.flags hSinkConf })
  else
    { s with markOut := tmod {} s.markOut m (fun y => { y with
        due := y.due ++ [(at_, if action = 0 then 3 else action, 32, false)] }) }

/-- An event on interrupt cause `n` (12 R323). -/
def causeEvent (s : State) (n : Nat) : State :=
  let c : IcCfg := tget {} s.ics n
  let was := isOn (s.fn c.func).ic n
  let s := s.modFn c.func (fun x => { x with ic := hit s.now x.ic n })
  if c.en && !was then msix s c.func c.vector else s

/-- Uncore consumer `v` receives the event of `c` (R275). -/
def deliverSink (s : State) (v : Nat) (c : Carry) : State :=
  if sinkSel s v ≠ some c.chan then s
  else if v < 8 then markerEvent (coinc s c) v (sinkOf s v).action c.chan
  else if v < 40 then dmaKick s (v - 8) c.count c.hop
  else if v < 104 then causeEvent (coinc s c) (v - 40)
  else captureEvent (coinc s c) (v - 104) c.hop

/-- The consumers of segment `g` receive the event of `c`. -/
def deliverSegment (s : State) (g : Nat) (c : Carry) : State :=
  if g < 12 then deliverTile s g c
  else if c.lost then s
  else (List.range 108).foldl (fun s v => deliverSink s v c) s

/-- Mark a carry as delivered in its own segment, or in the others. -/
def delivered_ (s : State) (c : Carry) (near : Bool) : State :=
  { s with harness := { s.harness with carried := s.harness.carried.map (fun x =>
      if x.chan = c.chan && x.tick == c.tick then (if near then { x with near := true } else { x with far := true }) else x) } }

/-- Deliveries of channel `ch` in the present tick: to its own segment what it carried one tick ago, to the others
what it carried three ticks ago. -/
def pendingDelivery (s : State) (ch : Nat) (near : Bool) : Option Carry :=
  s.harness.carried.find? (fun c => c.chan == ch && (if near then c.tick + 1 == s.now && !c.near else c.tick + 3 == s.now && !c.far))

def execHarnessEventDelivery (chan : Fin 1024) (s : State) : Out State :=
  let ch := chan.val
  let s := match pendingDelivery s ch true with
    | some c => deliverSegment (delivered_ s c true) (segmentOf ch) c
    | none => s
  .next (match pendingDelivery s ch false with
    | some c => ((List.range 13).filter (fun g => g != segmentOf ch)).foldl (fun s g => deliverSegment s g c) (delivered_ s c false)
    | none => s)

/-! ### Marker outputs (08 R229, R277) -/

/-- The level at a marker output ball in the present tick. -/
def markerLevel (s : State) (m : Nat) : Bool :=
  let x := tget {} s.markOut m
  x.level || decide (s.now < x.pulseEnd)

/-- Marker outputs act at the begin of the present tick: a level action, and pulses of one tick. -/
def actMarkers (s : State) : State :=
  s.markOut.foldl (fun s e =>
    let due := e.2.due.filter (fun d => decide (d.1 ≤ s.now))
    if due.isEmpty then s
    else
      { s with markOut := tmod {} s.markOut e.1 (fun x => { x with
          due := x.due.filter (fun d => decide (s.now < d.1))
          level := due.foldl (fun l d => match d.2.1 with | 1 => true | 2 => false | _ => l) x.level
          pulseEnd := if due.any (fun d => d.2.1 == 3) then s.now + 1 else x.pulseEnd }) }) s

end Sys2Proof.Machine
end

