-- ==== Sys2Proof/Machine/ReadoutRun.lean ====
section
/-! DEFINITION. Readout windows as they run: emission, first sample, early decision, close, decision and record
(05 R122 to R136). Ticks are ST / 32. -/

namespace Sys2Proof.Machine

/-! ### FLAGS of a record (R135) -/

def gCicSat : Nat := 0
def gFirSat : Nat := 1
def gIntSat : Nat := 2
def gAdcOvr : Nat := 3
def gSwapMid : Nat := 4
def gFirMid : Nat := 5
def gFrameChg : Nat := 6
def gMuted : Nat := 7
def gLate : Nat := 8
def gUnderrun : Nat := 9
def gNonDet : Nat := 10
def gFetchFault : Nat := 11
def gPriv : Nat := 12
def gGov : Nat := 13
def gDropped : Nat := 14

/-- FLAGS from its set bits. -/
def flagBits (l : List (Nat × Bool)) : Nat := (l.map (fun e => if e.2 then 2 ^ e.1 else 0)).sum

/-- Bit position of FLAGS in the record image. -/
def flagsAt : Nat := 214

def pairHit (s : State) (r f : Nat) : State := s.modPair (pairOfRt r) (fun x => { x with flags := hit s.now x.flags f })

/-! ### MV_THREAD_CFG fields (06 R175) -/

def mvValid (c : Nat) : Bool := bit c 16
def mvDbEn (c : Nat) : Bool := bit c 17
def mvRecEn (c : Nat) : Bool := bit c 18
def mvEvtMask (c : Nat) : Nat := fld c 19 3
def mvEarlyEvt (c : Nat) : Bool := bit c 22
def mvDb (c : Nat) : Nat := fld c 32 9
def mvSpool (c : Nat) : Nat := fld c 48 16

def State.core (s : State) (c : Nat) : Core := tget {} s.cores c
def State.modCore (s : State) (c : Nat) (g : Core → Core) : State := { s with cores := tmod {} s.cores c g }

/-- The lane of that core (06 R151). -/
def laneOfRt (r : Nat) : Nat := r % 16 / 2

/-! ### Opening (R122, R124 to R126; 09 R244, R246; 11 R297) -/

/-- Arm a window's decision: the state and whether it was armed, or none was asked for. -/
def armWindow (s : State) (r prof mv : Nat) (e : Emission) : State × Bool :=
  let y := stTick s
  let d (kind : Nat) : Decision :=
    { due := y + wDue prof, kind := kind, id := r, tile := r / 32, loom := e.loom, start := e.start, k := y }
  if wDest prof = 0 then (if wDbEn prof then arm s (wDb prof) (d 0) y else (s, true))
  else if mvValid mv && mvDbEn mv then arm s (mvDb mv) (d 1) y else (s, true)

/-- A window opens on thread `r` from emission `e` with profile image `prof`. -/
def openWindow (s : State) (r : Nat) (e : Emission) (prof : Nat) : State :=
  let y := stTick s
  let mv := (s.rt r).mvCfg
  let w : Window :=
    { k := y, prof := prof, num := e.param % 16, loom := e.loom, shot := e.shot, start := e.start, meas := e.meas
      resv := .arrival, mv := if wDest prof = 0 then 0 else mv }
  let live := (s.rt r).windows.filter (fun x => x.inFlight y)
  let ovf := decide (live.length ≥ 4)
  let ovl := live.any (fun x => decide (w.t0 ≤ x.tLast))
  let armed := armWindow s r prof mv e
  let s := if ovf then pairHit armed.1 r fWinOvf else armed.1
  let s := if ovl then pairHit s r fWinOvl else s
  let record := wDest prof == 0 && wRecEn prof
  let q := if record then reserve s (wSpool prof) (some (r / 32)) rowWindow r else (s, .arrival)
  let s := q.1
  let dropped := !armed.2 || ovf || ovl
  if dropped && !record then s
  else
    let s := s.modRt r (fun x => { x with windows := x.windows ++ [{ w with resv := q.2, dropped := dropped }] })
    if wDest prof = 0 then s
    else s.modCore (coreOfRt r) (fun c => { c with
      wins := c.wins ++ [{ rt := r, k := y, prof := prof, num := w.num, loom := w.loom, shot := w.shot, start := w.start
                           meas := w.meas, cfg := mv }] })

/-- Open-readout-window emissions reach a thread (R122, R124, R126). -/
def execEmitWindow (rt : Fin 384) (s : State) : Out State :=
  let r := rt.val
  .next (onEmission s (tidOfRt r) 5 (fun s e es =>
    let s := if es.length > 1 then pairHit s r fWinConf else s
    let prof := tget 0 (s.rt r).profiles (e.param % 16)
    if wValid prof then openWindow s r e prof else pairHit s r fWinBad))

/-- The slot is privileged (R118). -/
def privSlot (s : State) (r : Nat) : Bool :=
  let p := s.pair (pairOfRt r)
  slotOfRt r == p.priv0 || slotOfRt r == p.priv1

/-- A window's first sample: it latches its frame, discrimination and privilege (R123, 02 R56). -/
def execWindowFirstSample (rt : Fin 384) (s : State) : Out State :=
  let r := rt.val
  .next (s.modRt r (fun x => { x with windows := x.windows.map (fun w =>
    if !w.dropped && w.latched.isNone && w.t0 == stTick s then
      let f := fullFrame s (tidOfRt r) (32 * w.t0)
      { w with latched := some (f.1, f.2, x.disc, privSlot s r) }
    else w) }))

/-! ### The chain over a window's samples (R117 to R121, R131) -/

/-- The frame of an ADC label for window `w`: its own, that of an earlier window, or the live one (02 R56). -/
def windowFrame (s : State) (r : Nat) (w : Window) (f : BitVec 48 × BitVec 48) (n : Nat) : BitVec 48 × BitVec 48 :=
  if 32 * w.t0 ≤ n then f
  else
    let x := s.rt r
    match x.windows.find? (fun v => v.latched.isSome && decide (32 * v.t0 ≤ n) && decide (n ≤ 32 * v.tLast + 30)) with
    | some v => (match v.latched with | some l => (l.1, l.2.1) | none => f)
    | none =>
      match x.past.find? (fun v => decide (v.1 ≤ n) && decide (n ≤ v.2.1)) with
      | some v => v.2.2
      | none => fullFrame s (tidOfRt r) n

/-- FIR bank in force for sample `t` (R127). -/
def firAt (x : Pair) (t : Nat) : Tbl Int :=
  match (x.firOld.filter (fun e => decide (t < e.1))).getLast? with
  | some e => e.2
  | none => activeFir x

/-- Weights in force for sample `t` of a window, and whether they stand in bank B (R120). -/
def weightsAt (x : RThread) (w : Window) (t : Nat) : Tbl Nat × Bool :=
  let later := w.oldW.filter (fun e => decide (t < e.1))
  (match later with | e :: _ => e.2 | [] => activeWeights x, x.activeB != (later.length % 2 == 1))

/-- Weight `j` as the chain reads it, the address of its code word, and the word's stored error (R121). -/
def readWeight (s : State) (r : Nat) (w : Window) (j : Nat) : Nat × Nat × Nat :=
  let b := weightsAt (s.rt r) w (w.t0 + j)
  let a := (weightBase r (b2n b.2) + 4 * j) / 8 * 8
  let m := maskOf s.mem a
  let v := tget 0 b.1 (j / 2 * 2) + tget 0 b.1 (j / 2 * 2 + 1) * 2 ^ 32
  (if badWord m then 0 else fld (delivered v m) (32 * (j % 2)) 32, a, m)

/-- What the chain has formed of a window after some samples. -/
structure Demod where
  acc    : Int × Int := (0, 0)
  y      : Int × Int := (0, 0)
  cicSat : Bool := false
  firSat : Bool := false
  /-- State and sample of the early decision. -/
  early  : Option (Nat × Nat) := none
  /-- First sample whose weight could not be read. -/
  bad    : Option Nat := none

/-- CIC outputs of the decimated samples `t0` − 31 on. -/
def cicRun (s : State) (r : Nat) (w : Window) (adc : AdcTrace) (f : BitVec 48 × BitVec 48) (sh n : Nat) :
    List ((Int × Int) × Bool) :=
  (List.range (n + 31)).map (fun i =>
    if w.t0 + i < 31 then ((0, 0), false) else cic adc (windowFrame s r w f) sh (w.t0 + i - 31))

/-- Shifts of a window: CIC, FIR, integration (R118). -/
def shifts (d : Disc) (priv : Bool) : Nat × Nat × Nat := if priv then (d.shCic, d.shFir, d.shInt) else (20, 16, 15)

/-- The chain over samples 0 to n − 1 of a window. -/
def demod (s : State) (r : Nat) (w : Window) (adc : AdcTrace) (n : Nat) : Demod :=
  match w.latched with
  | none => {}
  | some (f, p, d, priv) =>
    let sh := shifts d priv
    let cs := cicRun s r w adc (f, p) sh.1 n
    let weighted := wWeighted w.prof
    (List.range n).foldl (fun (m : Demod) j =>
      let y := fir (firAt (s.pair (pairOfRt r)) (w.t0 + j)) sh.2.1 (((cs.drop j).take 32).map (fun c => c.1)).reverse
      let q := if weighted then readWeight s r w j else (0, 0, 0)
      let acc := addSample weighted q.1 m.acc y.1
      let e := if wEarlyEn w.prof && m.early.isNone && decide (j + 1 < wLen w.prof) then
          (earlyOf d (axis d (integrated sh.2.2 acc).1)).map (fun st => (st, j))
        else m.early
      { acc := acc, y := y.1, cicSat := m.cicSat || (cs.getD (j + 31) ((0, 0), false)).2, firSat := m.firSat || y.2
        early := e, bad := if m.bad.isNone && badWord q.2.2 then some j else m.bad }) {}

/-- A full-scale code among the samples 0 to n − 1 of a window (R127). -/
def adcOver (w : Window) (adc : AdcTrace) (n : Nat) : Bool :=
  (List.range (16 * n)).any (fun i => fullScale (adcAt adc (32 * w.t0 + 2 * i)))

/-- FLAGS that the window has gathered itself (R127, R118). -/
def windowFlags (w : Window) : Nat :=
  flagBits [(gSwapMid, w.swapMid), (gFirMid, w.firMid), (gFrameChg, w.frameChg), (gMuted, w.muted),
    (gPriv, match w.latched with | some (_, _, _, p) => p | none => false)]

/-! ### Decisions (R131 to R133) -/

/-- The window of thread `r` that came in tick `k`. -/
def modWindow (s : State) (r k : Nat) (g : Window → Window) : State :=
  s.modRt r (fun x => { x with windows := x.windows.map (fun w => if w.k = k && !w.dropped then g w else w) })

/-- The weight that a window reads in the present tick: its events, FETCHFAULT, and the shot's MEMERR mark (R121; 09 R261). -/
def noteWeight (r : Nat) (s : State) (w : Window) : State :=
  let y := stTick s
  if w.dropped || !wWeighted w.prof || wDest w.prof = 2 || y < w.t0 + 59 || w.tLast + 59 < y then s
  else
    let q := readWeight s r w (y - 59 - w.t0)
    if q.2.2 = 0 then s
    else
      let s := memEvents s (threadOwner s (tidOfRt r)).part (.tile (r / 32)) (wordEvents q.2.1 q.2.2)
      if badWord q.2.2 then modWindow (markShot s w.loom w.start w.shot cMemErr y) r w.k (fun w => { w with badW := true })
      else s

/-- A window writes its decision in the present tick (R132, R133). -/
def decide_ (s : State) (r : Nat) (w : Window) (st : Nat) : State :=
  let y := stTick s
  let s := if wDbEn w.prof then writeDecision s (wDb w.prof) 0 r w.k y st else s
  let s := if bit (wEvtMask w.prof) st then assertLine s (.rtDec r) else s
  modWindow s r w.k (fun w => { w with wrote := some y, verdict := none })

/-- The window can form samples: its first sample has been latched and it has not been closed. -/
def openNow (w : Window) : Bool := w.latched.isSome && !w.closed

/-- The early line of a window (R131). -/
def earlyLine (s : State) (r : Nat) (w : Window) : State := if wEarlyEvt w.prof then assertLine s (.rtEarly r) else s

/-- An early state is formed (R131): samples whose early tick has come are looked at. -/
def earlyWindow (s : State) (r : Nat) (w : Window) (adc : AdcTrace) : State :=
  let y := stTick s
  if wDest w.prof ≠ 0 || !openNow w || w.early.isSome || !wEarlyEn w.prof || y < w.t0 + 65 then s
  else match (demod s r w adc (min (wLen w.prof) (y - w.t0 - 64))).early with
    | none => s
    | some (st, j) =>
      modWindow (earlyLine (decide_ (noteCodes s (pairOfRt r) adc) r w st) r w) r w.k (fun w => { w with early := some (st, j) })

def execEarlyDecision (rt : Fin 384) (adc : AdcTrace) (s : State) : Out State :=
  .next ((s.rt rt).windows.foldl (fun s w => earlyWindow s rt w adc) s)

/-! ### Close (R128 to R132, R135) -/

/-- A record's image without LATE, UNDERRUN, NONDET, DROPPED and wall time. -/
def recordImage (r : Nat) (w : Window) (st : Nat) (S : Int × Int) (conf : Nat) (early : Option (Nat × Nat)) (flags : Nat) :
    Nat :=
  pack [(w.shot, 32), (w.meas, 16), (r, 9), (w.num, 4), (st, 2), (b2n early.isSome, 1), (32 * (w.tLast + 63), 64),
    (enc 32 S.1, 32), (enc 32 S.2, 32), (conf, 8), ((early.getD (0, 0)).1, 2), ((early.getD (0, 0)).2, 12), (flags, 16)]

/-- A window of the threshold path closes: p, STATE and CONF, then its verdict and its record. -/
def closeWindow (s : State) (r : Nat) (w : Window) (adc : AdcTrace) : State :=
  match w.latched with
  | none => s
  | some (_, _, d, priv) =>
    let n := wLen w.prof
    let m := demod s r w adc n
    let S := integrated (shifts d priv).2.2 m.acc
    let p := projection d S.1
    let st := stateOf d p.1
    let early := match w.early with | some e => some e | none => m.early
    let verdict := match early with | some e => (e.1, w.t0 + e.2 + 65) | none => (st, w.tLast + 65)
    let over_ := adcOver w adc n
    let intSat := S.2 || p.2
    let flags := windowFlags w + flagBits [(gCicSat, m.cicSat), (gFirSat, m.firSat), (gIntSat, intSat), (gAdcOvr, over_),
      (gFetchFault, m.bad.isSome || w.badW)]
    let s := noteCodes s (pairOfRt r) adc
    let s := if m.cicSat || m.firSat || intSat then pairHit s r fStageSat else s
    modWindow s r w.k (fun w => { w with
      closed := true, early := early
      verdict := if w.wrote.isSome then none else some verdict
      record := recordImage r w st S.1 (confOf d p.1) early flags })

/-- The window's close tick has come (R122). -/
def closeDue (s : State) (w : Window) : Bool :=
  wDest w.prof == 0 && openNow w && decide (w.tLast + 63 ≤ stTick s)

/-- Decisions whose tick has come are written: T_last + 65, or the early tick of a state that the close has found
(R122, R131). -/
def writeVerdicts (s : State) (r : Nat) : State :=
  (s.rt r).windows.foldl (fun s w =>
    match w.verdict with
    | some (st, t) =>
      if stTick s < t then s
      else
        let s := decide_ s r w st
        if w.early.isSome then earlyLine s r w else s
    | none => s) s

/-- WALL_V and WALL_LO of a record image, in the tick of its hand-on (16 R439). -/
def wallFields (s : State) (img : Nat) : Nat :=
  b2n s.wall.valid * 2 ^ 230 + wallNs s.wall (fld img 64 64) / 32 % 2 ^ 25 * 2 ^ 231

/-- A record is handed to the Spool engine (R125, R132, R135, R136; 09 R262). -/
def handRecord (s : State) (r : Nat) (w : Window) : State :=
  if wDest w.prof ≠ 0 || !wRecEn w.prof then s
  else
    let y := stTick s
    let late := wDbEn w.prof && (match w.wrote with | some t => decide (w.k + wDue w.prof < t + 4) | none => true)
    let img := if w.dropped then recordImage r w 3 (0, 0) 0 none 0 else w.record
    let fl := flagBits [(gLate, late), (gUnderrun, underrunBy s w.loom w.start y), (gNonDet, markedBy s w.loom w.start y),
      (gDropped, w.dropped)]
    handOn s (wSpool w.prof) r false w.resv (leBytes 32 (img + fl * 2 ^ flagsAt + wallFields s img))

/-- The window's last tick is over: its record leaves, or nothing of it remains to be done. -/
def leaves (s : State) (w : Window) : Bool :=
  (w.dropped || w.closed) && w.verdict.isNone && decide (w.tLast + 68 ≤ stTick s)

/-- Windows of a thread whose tick T_last + 68 has come hand on their records, in window order, and leave. -/
def handRecords (s : State) (r : Nat) : State :=
  let out := (s.rt r).windows.filter (leaves s)
  if out.isEmpty then s
  else
    let s := out.foldl (fun s w => handRecord s r w) s
    s.modRt r (fun x => { x with
      windows := x.windows.filter (fun w => !leaves s w)
      past := (out.filterMap (fun w => w.latched.map (fun l => (32 * w.t0, 32 * w.tLast + 30, l.1, l.2.1))) ++ x.past).take 16 })

/-- A window closes with the ADC samples it covers; what is due already is done at once (R122). -/
def execWindowClose (rt : Fin 384) (adc : AdcTrace) (s : State) : Out State :=
  let r := rt.val
  .next (match (s.rt r).windows.find? (closeDue s) with
    | none => s
    | some w => handRecords (writeVerdicts (closeWindow s r w adc) r) r)

/-! ### Ticks -/

/-- The windows of every thread at the begin of a tick: decisions that are due. -/
def windowsOpenTick (s : State) : State := (s.rts.map (fun e => e.1)).foldl writeVerdicts s

/-- The windows of every thread at the end of a tick: mutes (R127) and weights (R121), then records that are due. -/
def windowsCloseTick (s : State) : State :=
  let y := stTick s
  let s := (s.rts.map (fun e => e.1)).foldl (fun s r =>
    if (s.rt r).windows.isEmpty then s
    else if portMuted s (pairOfRt r) then
      s.modRt r (fun x => { x with windows := x.windows.map (fun w =>
        if decide (w.k ≤ y) && decide (y ≤ w.tLast) then { w with muted := true } else w) })
    else s) s
  let s := (s.rts.map (fun e => e.1)).foldl (fun s r => (s.rt r).windows.foldl (noteWeight r) s) s
  (s.rts.map (fun e => e.1)).foldl handRecords s

/-- A tile leaves ACTIVE: its windows are abandoned and their reservations cancelled (R125, R126). -/
def abandonWindows (s : State) (t : Nat) : State :=
  ((List.range 32).map (fun i => 32 * t + i)).foldl (fun s r =>
    let ws := (s.rt r).windows
    if ws.isEmpty then s
    else
      let s := ws.foldl (fun s w =>
        let s := cancelResv s (wSpool w.prof) w.resv
        if w.inFlight (stTick s) then pairHit s r fAbandon else s) s
      (s.modRt r (fun x => { x with windows := [] })).modCore (coreOfRt r) (fun c => { c with
        wins := c.wins.filter (fun w => w.rt != r || w.ended)
        queue := c.queue.filter (fun e => e.rt != r || c.wins.any (fun w => w.rt == r && w.k == e.k && w.ended)) })) s

end Sys2Proof.Machine
end

