-- ==== Sys2Proof/Machine/Marver.lean ====
section
/-! DEFINITION. Marver cores: commands, images, windows, events, dispatch and faults (06 R150 to R176). Core cycles
are counted as 2 × device tick + cycle. -/

namespace Sys2Proof.Machine

/-! ### Flags (R176) -/

def mGov : Nat := 16
def mSat : Nat := 17
def mInOvf : Nat := 18
def mPubDup : Nat := 19
def mOverBudget : Nat := 20
def mFetchFault : Nat := 21
def mNoBind : Nat := 22
def mNotRun : Nat := 23
def mNoWin : Nat := 24

def coreHit (s : State) (c f : Nat) : State := s.modCore c (fun x => { x with flags := hit s.now x.flags f })

def tileOfCore (c : Nat) : Nat := c / 2
def coreOwner (s : State) (c : Nat) : Owner := ownerOf s oMarver c

/-! ### Instruction fields (R158) -/

def iOp (w : Nat) : Nat := fld w 58 6
def iAcc (w : Nat) : Nat := fld w 56 2
def iVd (w : Nat) : Nat := fld w 52 4
def iVa (w : Nat) : Nat := fld w 48 4
def iVb (w : Nat) : Nat := fld w 44 4
def iXa (w : Nat) : Nat := fld w 41 3
def iXm (w : Nat) : Nat := fld w 38 3
def iXmode (w : Nat) : Nat := fld w 36 2
def iYa (w : Nat) : Nat := fld w 33 3
def iYm (w : Nat) : Nat := fld w 30 3
def iYmode (w : Nat) : Nat := fld w 28 2
def iYl (w : Nat) : Bool := bit w 27
def iConj (w : Nat) : Bool := bit w 26
def iImm (w n : Nat) : Nat := fld w 0 n

/-! ### Program checks (R160) -/

/-- Fields (low bit, width) that an opcode uses beside OP; none: an undefined opcode (R158, R159). Bits of a field that the
opcode does not read count as unused: they must be 0 (DEDUCED, log 118). -/
def usedFields (op : Nat) : Option (List (Nat × Nat)) :=
  let acc := (56, 2)
  let vd := (52, 4)
  let va := (48, 4)
  let vb := (44, 4)
  let xa := (41, 3)
  let x := [xa, (38, 3), (36, 2)]
  let y := [(33, 3), (30, 3), (28, 2), (27, 1)]
  let conj := (26, 1)
  let imm (n : Nat) := (0, n)
  match op with
  | 0x00 => some [] | 0x01 => some [] | 0x02 => some [imm 14] | 0x03 => some [xa, imm 14] | 0x04 => some [xa, imm 14]
  | 0x05 => some [imm 16] | 0x06 => some [xa, imm 16] | 0x07 => some [(38, 3), imm 16] | 0x08 => some [xa, imm 16]
  | 0x09 => some [xa, imm 4] | 0x0A => some [imm 14] | 0x10 => some [vd, imm 5] | 0x11 => some [vd, (44, 1), imm 24]
  | 0x12 => some [vd, va] | 0x13 => some (vd :: x) | 0x14 => some (vd :: y) | 0x15 => some (va :: x)
  | 0x16 => some [vd, va, vb] | 0x17 => some [vd, va, vb] | 0x18 => some [vd, va, imm 5]
  | 0x20 => some [acc, va, vb, conj] | 0x21 => some [acc, va, vb, conj] | 0x22 => some (acc :: va :: conj :: y)
  | 0x23 => some (acc :: conj :: (x ++ y)) | 0x24 => some [acc] | 0x25 => some [] | 0x26 => some [acc, vd, imm 6]
  | 0x28 => some [va, vb, imm 6] | 0x29 => some [imm 10] | 0x2A => some [va, vb] | 0x2B => some []
  | 0x30 => some [] | 0x31 => some [va, imm 5]
  | _ => none

/-- A control instruction (R160). -/
def isControl (op : Nat) : Bool := decide (1 ≤ op) && decide (op ≤ 5)

/-- A program word that R160 refuses, in a program of `n` words; `next`: the word after it. -/
def mvWordBad (n w : Nat) (next : Option Nat) : Bool :=
  let op := iOp w
  match usedFields op with
  | none => true
  | some l =>
    w % 2 ^ 58 != (l.map (fun f => fld w f.1 f.2 * 2 ^ f.1)).sum
      || iXmode w == 3 || iYmode w == 3
      || (op == 5 && (iImm w 16 == 0 || (match next with | some v => isControl (iOp v) | none => false)))
      || ((op == 2 || op == 3 || op == 4) && decide (iImm w 14 ≥ n))
      || (op == 9 && decide (iImm w 4 > 11)) || (op == 0x29 && iImm w 2 == 3) || (op == 0x26 && decide (iImm w 6 > 55))

/-! ### Images (R174) -/

def cWords (h : Nat) : Nat := fld h 32 15
def cXinit (h : Nat) : Nat := fld h 48 12
def cYinit (h : Nat) : Nat := fld h 64 15
def cVec (h kind : Nat) : Nat := fld h (80 + 16 * kind) 14
def cYstride (h : Nat) : Nat := fld h 128 14
def cK (h i : Nat) : Nat := fld h (160 + 4 * i) 4
def cBuild (h : Nat) : Nat := fld h 192 64

def marverRsv : List (Nat × Nat) :=
  [(18, 14), (47, 1), (60, 4), (79, 1), (94, 2), (110, 2), (126, 2), (142, 18), (256, 256)]

/-- The 8-byte words of a section. -/
def sectionWords (b : List Byte) (off n : Nat) : List Nat :=
  (List.range n).map (fun i => leNat ((b.drop (off + 8 * i)).take 8))

def progWords (b : List Byte) (h : Nat) : List Nat := sectionWords b 64 (cWords h)

def progBad (b : List Byte) : Bool :=
  let h := leNat (b.take 64)
  let n := cWords h
  n == 0 || decide (n > 16384) || decide (cXinit h > 2048) || decide (cYinit h > 16384) || !rsvOk h marverRsv
    || b.length != 64 + 8 * n + 64 * cXinit h + 8 * cYinit h + 96
    || (List.range 3).any (fun k => decide (cVec h k ≥ n))
    || (let ws := progWords b h; (ws.zip (ws.drop 1 |>.map some |>.append [none])).any (fun p => mvWordBad n p.1 p.2))

/-- A table from consecutive words. -/
def tableOf (base : Nat) (l : List Nat) (t : Tbl Nat) : Tbl Nat :=
  (l.zipIdx).foldl (fun t w => tset 0 t (base + w.2) w.1) t

/-- The core that an image leaves: its registers are cleared; lane latches and flags stay (R156, R172, R174). An MK nibble of
12 to 15 is taken as it stands, modulo 2^K: R154 gives K 1 to 11 and R160 names no refusal (DESIGN CHOICE, log 117). -/
def loadedCore (x : Core) (b : List Byte) : Core :=
  let h := leNat (b.take 64)
  let xo := 64 + 8 * cWords h
  let n := cXinit h
  { state := .stopped, header := h, prog := tableOf 0 (progWords b h) []
    x := (List.range 8).foldl (fun t l => tableOf (2048 * l) (sectionWords b (xo + 8 * n * l) n) t) []
    y := tableOf 0 (sectionWords b (xo + 64 * n) (cYinit h)) []
    ystride := cYstride h, k := (List.range 8).foldl (fun t i => tset 0 t i (cK h i)) []
    govl := x.govl, satl := x.satl, ffl := x.ffl, flags := x.flags, wins := x.wins, records := x.records }

/-- Internal address of a core's memories (23 R561, R153). -/
def coreBase (c : Nat) : Nat := 0x800030000000 + 0x80000 * c

def marverLoadBody (k : Call) (s : State) : Result :=
  let c := fld k.blk 0 5
  let x := s.core c
  let b := k.data
  let h := leNat (b.take 64)
  let o := coreOwner s c
  let tested := match s.gaf.running with | some i => formatTested i 56 (fld h 0 16) | none => false
  checked s (oMarver, c)
    [(decide (c ≥ 24) || fld k.blk 5 123 != 0 || !k.isRef, .badParam),
     (tileDown s (tileOfCore c) || x.state == .failed, .notActive), (!mayChange k.who o, .partDenied),
     (x.state == .running, .busy),
     (!tested, .incompatible), (!imageSigned s o.part (fld h 16 2) b, .sigFail), (progBad b, .badProg)]
    (done ((clearErrs s (coreBase c) 0x60000).modCore c (fun x => loadedCore x b))
      [item oMarver c (cBuild x.header) (cBuild h)])

def execMarverLoad (c : Frame) (s : State) : Out State :=
  .next (serve { op := 0x0501, inlineF := true } c s marverLoadBody)

/-! ### MARVER_CTL (R173) -/

def marverCtlBody (act : Nat) (k : Call) (s : State) : Result :=
  let b := k.blk
  let c := fld b 0 5
  let x := s.core c
  let ap := fld b 64 64
  let at_ := applyAt ap k.accept
  checked s (oMarver, c)
    ([(decide (c ≥ 24) || fld b 5 1 != act || fld b 6 58 != 0, .badParam),
      (tileDown s (tileOfCore c) || x.state == .failed, .notActive), (!mayChange k.who (coreOwner s c), .partDenied),
      (act == 0 && (x.state == .empty || x.state == .fault || x.state == .running), .badParam)]
      ++ timeFail ap k.accept ++ [(isStaged s .marverCtl c, .busy)])
    (scheduled (stage s { kind := .marverCtl, obj := c, blk := b, at_ := at_, func := k.func }) at_ [])

def execMarverStart (c : Frame) (s : State) : Out State := .next (serve { op := 0x0502 } c s (marverCtlBody 0))
def execMarverStop (c : Frame) (s : State) : Out State := .next (serve { op := 0x0502 } c s (marverCtlBody 1))

/-- A STOP takes effect. -/
def haltCore (x : Core) : Core := { x with state := .stopped, queue := [], stop := false, wait := false, rpt := 0 }

/-- A MARVER_CTL applies; a STOP inside a repeat waits for its end (R161). -/
def applyMarverCtl (s : State) (c blk : Nat) : State :=
  s.modCore c (fun x =>
    if bit blk 5 then
      if x.state = .running then (if x.rpt = 0 then haltCore x else { x with stop := true }) else x
    else if x.state = .stopped then
      { x with
        state := .running, pc := 0, lp := 255, mask := 255, wait := false, rpt := 0, cycle := 2 * s.now, ins := 0 }
    else x)

/-! ### MV_THREAD_CFG (R175) -/

def mvThreadCfgBody (k : Call) (s : State) : Result :=
  let b := k.blk
  let t := fld b 0 16
  let r := rtOfTid t
  checked s (2, t)
    [(!tidOk t, .badTid),
     (tidKind t != 1 || decide (mvDb b > 511) || fld b 23 9 != 0 || fld b 41 7 != 0 || fld b 64 64 != 0, .badParam),
     (tileDown s (tidTile t), .notActive),
     (!mayChange k.who (threadOwner s t) || !mayChange k.who (coreOwner s (coreOfRt r)), .partDenied),
     (mvRecEn b && !recordSpool s (mvSpool b), .badParam),
     ((mvDbEn b && (ownerOf s oBit (mvDb b)).part != k.who.part)
        || (mvRecEn b && (s.spool (mvSpool b)).owner != k.who.part), .partDenied),
     (mvDbEn b && (s.producers (mvDb b)).any (fun p => p != (1, r)), .busy)]
    (let st := storeImage s 0x0503 2 t 16 t (b % 2 ^ 64)
     done (st.1.modRt r (fun x => { x with mvCfg := if b % 2 ^ 64 / 2 ^ 16 = 0 then 0 else b % 2 ^ 64 })) [st.2])

def execMvThreadCfg (c : Frame) (s : State) : Out State := .next (serve { op := 0x0503 } c s mvThreadCfgBody)

/-! ### MARVER_STATUS (R176) -/

def marverMap : FlagMap := (List.range 9).map (fun i => (16 + i, 64 + 16 * i))

def coreCode : CoreState → Nat
  | .empty => 0 | .stopped => 1 | .running => 2 | .fault => 3 | .failed => 4

/-- MARVER_STATUS (R176): its table has no field for the BUILD_ID that R174 says it reports; the header keeps it (DEDUCED,
log 123). -/
def marverImage (s : State) (c : Nat) : Nat :=
  let x := s.core c
  c + coreCode x.state * 2 ^ 8 + flagImage marverMap x.flags + x.govl * 2 ^ 32 + x.pc * 2 ^ 40

def marverStatusBody (k : Call) (s : State) : Result :=
  let c := fld k.blk 0 5
  checked s (oMarver, c)
    [(decide (c ≥ 24) || statusReqBad k 5 256 marverMap, .badParam),
     (k.func != 0 && (coreOwner s c).part != k.who.part, .partDenied)]
    (report (if k.clear then s.modCore c (fun x => { x with flags := clearFlags s.now marverMap k.blk x.flags }) else s)
      (leBytes 32 (marverImage s c)))

def execMarverStatus (c : Frame) (s : State) : Out State := .next (serve { op := 0x0504 } c s marverStatusBody)

/-! ### Resets (R172) -/

def resetCore (x : Core) : Core :=
  { state := if x.state = .failed then .failed else if x.header = 0 then .empty else .stopped
    header := x.header, prog := x.prog, x := x.x, y := x.y }

def warmCore (x : Core) : Core := { state := if x.state = .failed then .failed else .empty }

/-! ### Windows of a core -/

def MvWindow.tLast (w : MvWindow) : Nat := w.k + wDelay w.prof + wLen w.prof - 1
def MvWindow.due (w : MvWindow) : Nat := w.k + wDue w.prof

def findWin (x : Core) (rt k : Nat) : Option MvWindow := x.wins.find? (fun w => w.rt == rt && w.k == k)

def modWin (s : State) (c rt k : Nat) (g : MvWindow → MvWindow) : State :=
  s.modCore c (fun x => { x with wins := x.wins.map (fun w => if w.rt = rt && w.k == k then g w else w) })

/-- The current window of a lane. -/
def curWin (x : Core) (lane : Nat) : Option MvWindow :=
  match tget none x.cur lane with | some p => findWin x p.1 p.2 | none => none

/-- Mark the shot of a window MEMERR in the present tick (09 R261). -/
def markWin (s : State) (w : MvWindow) : State := markShot s w.loom w.start w.shot cMemErr (stTick s)

/-! ### Events (R164, R165) -/

/-- An event is discarded: its window publishes nothing (R165). -/
def loseEvent (s : State) (r k : Nat) : State := modWin s (coreOfRt r) r k (fun v => { v with lost := true })

/-- An event reaches its lane slot: queued, or discarded. -/
def deliver (s : State) (w : Window) (r kind j chain : Nat) (datum : Int × Int) : State :=
  let c := coreOfRt r
  let x := s.core c
  let bound := mvValid w.mv
  let s := if !bound then coreHit s c mNoBind else s
  if x.state ≠ .running then
    let s := loseEvent (coreHit s c mNotRun) r w.k
    if x.state = .fault then markShot s w.loom w.start w.shot cMemErr (stTick s) else s
  else if !bound then loseEvent s r w.k
  else if (x.queue.filter (fun e => e.lane == laneOfRt r && e.slot == r % 2)).length ≥ 16 then
    loseEvent (coreHit s c mInOvf) r w.k
  else s.modCore c (fun x => { x with queue := x.queue ++
    [{ tick := s.now, at_ := stTick s, kind := kind, lane := laneOfRt r, slot := r % 2, rt := r, k := w.k, j := j
       chain := chain, datum := datum }] })

/-- What the end of a Marver window leaves: pair flags, and the window has left flight. -/
def endMvWindow (s : State) (r : Nat) (w : Window) (adc : AdcTrace) (sat : Bool) : State :=
  let s := noteCodes s (pairOfRt r) adc
  let s := if sat then pairHit s r fStageSat else s
  modWin (modWindow s r w.k (fun w => { w with closed := true })) (coreOfRt r) r w.k (fun v => { v with ended := true })

/-- The window's next event of a kind, if its tick has come. -/
def eventDue (s : State) (w : Window) (e : MvEvent) : Bool :=
  let y := stTick s
  openNow w && !w.dropped &&
    (match e with
     | .trc j => wDest w.prof == 2 && j == w.fed && decide (j < wLen w.prof) && decide (w.t0 + j + 59 ≤ y)
     | .endw => wDest w.prof == 2 && w.fed == wLen w.prof && decide (w.tLast + 59 ≤ y)
     | .int => wDest w.prof == 1 && decide (w.tLast + 63 ≤ y))

/-- Flags of the chain over the samples 0 to n − 1. -/
def chainFlags (w : Window) (m : Demod) (over_ : Bool) : Nat :=
  windowFlags w + flagBits [(gCicSat, m.cicSat), (gFirSat, m.firSat), (gAdcOvr, over_)]

/-- An event of a window arrives (R164): TRC with its sample, END, INT with the integrated sum. -/
def execMvEventArrival (rt : Fin 384) (kind : MvEvent) (adc : AdcTrace) (s : State) : Out State :=
  let r := rt.val
  .next (match (s.rt r).windows.find? (fun w => eventDue s w kind) with
    | none => s
    | some w =>
      match kind with
      | .trc j =>
        let m := demod s r { w with prof := w.prof % 2 ^ 23 + w.prof / 2 ^ 24 * 2 ^ 24 } adc (j + 1)
        deliver (modWindow (noteCodes s (pairOfRt r) adc) r w.k (fun w => { w with fed := j + 1 })) w r 0 j (chainFlags w m (adcOver w adc (j + 1))) m.y
      | .endw =>
        let n := wLen w.prof
        let m := demod s r { w with prof := w.prof % 2 ^ 23 + w.prof / 2 ^ 24 * 2 ^ 24 } adc n
        let o := adcOver w adc n
        endMvWindow (deliver s w r 1 0 (chainFlags w m o) (0, 0)) r w adc (m.cicSat || m.firSat)
      | .int =>
        let n := wLen w.prof
        let m := demod s r w adc n
        let o := adcOver w adc n
        let sh := match w.latched with | some (_, _, d, priv) => (shifts d priv).2.2 | none => 15
        let S := integrated sh m.acc
        endMvWindow (deliver s w r 2 0 (chainFlags w m o + flagBits [(gFetchFault, m.bad.isSome || w.badW)]) S.1) r w adc
          (m.cicSat || m.firSat || S.2))

/-- A window without a decision at the end of tick T_last + 87 (R168). -/
def overBudget (y : Nat) (w : MvWindow) : Bool :=
  !w.overdue && decide (w.tLast + 87 ≤ y)
    && (match w.pub with | some (t, _) => decide (w.tLast + 87 < t) | none => true)

def execMvOverbudget (rt : Fin 384) (s : State) : Out State :=
  let r := rt.val
  let c := coreOfRt r
  let y := stTick s
  .next (((s.core c).wins.filter (fun w => w.rt == r && overBudget y w)).foldl
    (fun s w => coreHit (modWin s c r w.k (fun v => { v with overdue := true })) c mOverBudget) s)

/-! ### Dispatch (R165) -/

/-- The order of pending groups. -/
def groupKey (e : MvQueued) : Nat := 6 * e.tick + 3 * e.slot + e.kind

/-- The core runs in this tick. -/
def coreRuns (s : State) (c : Nat) : Bool := (s.core c).state == .running && tileActive s (tileOfCore c)

/-- The group a core dispatches now: its key; an event's group is ready in the tick after its arrival. -/
def readyGroup (s : State) (c : Nat) : Option Nat :=
  let x := s.core c
  if !coreRuns s c || !x.wait || decide (2 * s.now + 1 < x.cycle) then none
  else ((x.queue.filter (fun e => decide (e.tick < s.now))).map groupKey).min?

/-- The next group is dispatched: its lanes, slot, windows and data, and the handler's address (R165). -/
def execMvDispatch (core : Fin 24) (s : State) : Out State :=
  let c := core.val
  .next (match readyGroup s c with
    | none => s
    | some g =>
      let es := (s.core c).queue.filter (fun e => groupKey e == g)
      let s := es.foldl (fun s e => modWin s c e.rt e.k (fun w => { w with
        chain := e.chain, arrival := e.at_, trc := if e.kind = 0 then e.j else w.trc })) s
      let lanes := (es.map (fun e => 2 ^ e.lane)).sum
      s.modCore c (fun x => { x with
        queue := x.queue.filter (fun e => groupKey e != g), wait := false, lp := lanes, mask := lanes
        a := tset 0 x.a 7 ((g / 3) % 2), pc := cVec x.header (g % 3), cycle := max x.cycle (2 * s.now)
        cur := es.foldl (fun t e => tset none t e.lane (some (e.rt, e.k))) x.cur
        datum := es.foldl (fun t e => tset none t e.lane (some e.datum)) x.datum }))

/-! ### Fetch faults (R170) -/

/-- The core enters FAULT: its queue is discarded, and the shots of the queued events' windows are marked. -/
def coreFault (s : State) (c : Nat) : State :=
  let x := s.core c
  let s := x.queue.foldl (fun s e => match findWin x e.rt e.k with | some w => markWin s w | none => s) s
  coreHit (s.modCore c (fun x => { x with state := .fault, queue := [], stop := false, wait := false, rpt := 0 })) c mFetchFault

/-! ### Ticks -/

/-- Records whose tick has come enter their Spools (R167). -/
def handMvRecords (s : State) : State :=
  s.cores.foldl (fun s e =>
    let due := e.2.records.filter (fun p => decide (p.tick ≤ s.now))
    if due.isEmpty then s
    else
      due.foldl (fun s p =>
        handOn s p.spool p.rt false p.resv (leBytes 32 (p.image + wallFields s p.image)))
        (s.modCore e.1 (fun x => { x with records := x.records.filter (fun p => decide (s.now < p.tick)) }))) s

/-- Windows that nothing needs any more leave their core. -/
def dropWins (s : State) : State :=
  let y := stTick s
  s.cores.foldl (fun s e =>
    if e.2.wins.any (fun w => w.ended && decide (w.tLast + 87 < y)) then
      s.modCore e.1 (fun x => { x with wins := x.wins.filter (fun w =>
        !(w.ended && decide (w.tLast + 87 < y)) || x.cur.any (fun p => p.2 == some (w.rt, w.k))
          || x.queue.any (fun q => q.rt == w.rt && q.k == w.k)) })
    else s) s

/-- A tile leaves ACTIVE: the records of its cores that are on their way are not written (01 R25). -/
def dropMvRecords (s : State) (t : Nat) : State :=
  [2 * t, 2 * t + 1].foldl (fun s c =>
    let rs := (s.core c).records
    rs.foldl (fun s p => cancelResv s p.spool p.resv) (s.modCore c (fun x => { x with records := [] }))) s

end Sys2Proof.Machine
end

