-- ==== Sys2Proof/Machine/Power.lean ====
section
/-! DEFINITION. Power states of quadrants and tiles, tile and quadrant resets (17 R452 to R460, R465 to R470;
13 R358). Entry instants are kept as ST in the count in force. -/

namespace Sys2Proof.Machine

def quadTiles (q : Nat) : List Nat := [3 * q, 3 * q + 1, 3 * q + 2]

/-- LAST_ST (R470). -/
def stateChanged (s : State) : State := { s with power := { s.power with lastSt := s.st } }

def setTile (s : State) (t : Nat) (x : TState) : State :=
  if (s.tile t).state = x then s else stateChanged (s.modTile t (fun y => { y with state := x }))

def setQuad (s : State) (q : Nat) (x : QState) : State :=
  if (s.quad q).state = x then s else stateChanged (s.modQuad q (fun y => { y with state := x }))

/-! ### Leaving ACTIVE, tile reset and warm state (R25, R126, R240, R454, R465) -/

/-- The tile that a Harness producer lies in (01 R25). -/
def lineTile : Line → Option Nat
  | .rtDec r => some (r / 32)
  | .rtEarly r => some (r / 32)
  | .loom g => some (g / 32)
  | .warpLate t => some t
  | .underrun t => some t
  | _ => none

/-- The Harness producers of a tile assert nothing from now on (01 R25). -/
def dropAsserts (s : State) (t : Nat) : State :=
  { s with harness := { s.harness with
      asserts := s.harness.asserts.filter (fun a => !(lineTile a.line == some t && decide (s.now ≤ a.tick))) } }

/-- What follows when a tile that was ACTIVE no longer is: runs end with RUNLOST, windows are abandoned, Marver
records on their way and players end, producers assert nothing and decisions that are not valid never are (01 R25). -/
def endActivity (s : State) (t : Nat) : State :=
  let looms := (List.range 8).map (fun i => 8 * t + i)
  let s := looms.foldl (fun s l => (cutRun s l true lRunLost).modLoom l (fun x => { x with pub := none })) s
  let s := dropAsserts (killDecisions s t) t
  (tilePlayers t).foldl stopPlayer (dropMvRecords (abandonWindows s t) t)

/-- A tile leaves ACTIVE for state `x`. -/
def leaveActive (s : State) (t : Nat) (x : TState) : State :=
  setTile (if tileActive s t then endActivity s t else s) t x

/-- The store at internal addresses [a, a + n) is rewritten with valid check bits. -/
def cleanStore (s : State) (a n : Nat) : State := clearErrs s a n

/-- Port identifiers of a tile. -/
def tilePorts (t : Nat) : List Nat :=
  (List.range 8).map (mkTid t 0) ++ (List.range 2).map (mkTid t 1) ++ (List.range 16).map (mkTid t 2)

/-- A thread in its tile-reset state: its frame is 0 from the present label on (02 R51, 03 R71 to R76); JUMP_CFG, which a warm
reset restores, stays (04 R104, 10 R284). -/
def resetThread (n : Nat) (x : Thread) : Thread :=
  { frames := logAt x.frames n (0, 0), jumpEn := x.jumpEn, jumpCand := x.jumpCand, jumpTarget := x.jumpTarget }

/-- A port in its tile-reset state; what is on its way to the ball goes on (03 R80). -/
def resetPort (n : Nat) (x : Port) : Port := { carriers := logAt x.carriers n 0, out := x.out, cutAt := x.cutAt }

/-- The Bobbin after a tile reset (04 R112): memory, runs and descriptors stay, the rings hold nothing. -/
def resetBobbin (b : Bobbin) : Bobbin :=
  { b with rings := b.rings.map (fun e => (e.1, freshRing e.2)), flags := [], underrunSt := 0 }

/-- The Bobbin after a warm reset (04 R112). -/
def warmBobbin (b : Bobbin) : Bobbin := { rings := b.rings.map (fun e => (e.1, freshRing e.2)) }

/-- Stored block images of a tile's objects; `all`: those of its Looms, cores, runs and segments too. -/
def tileImage (t : Nat) (all : Bool) (key : Nat) : Bool :=
  let ty := key / 2 ^ 32 % 256
  let id := key % 2 ^ 32
  ([1, 2, 3, 5, 6, 7].contains ty && id / 4096 == t && key / 2 ^ 40 != 0x0305)
    || (all && ((ty == 8 && id / 8 == t) || (ty == 9 && id / 2 == t) || ((ty == 0x13 || ty == 0x14) && id / 2 ^ 28 == t)))

def clearImages (s : State) (t : Nat) (all : Bool) : State :=
  { s with images := tclear (tileImage t all) s.images }

/-- Fields of the tile, its ports and threads take their tile-reset values (R465, 05 R147, 06 R172). -/
def resetFields (s : State) (t : Nat) : State :=
  let s := (tilePlayers t).foldl (fun s x => s.modThread x (resetThread s.st)) s
  let s := (tilePorts t).foldl (fun s p => s.modPort p (resetPort s.st)) s
  let s := ((List.range 2).map (mkTid t 1)).foldl (fun s p => s.modPair p (fun _ => {})) s
  let s := ((List.range 32).map (fun i => 32 * t + i)).foldl
    (fun s r => s.modRt r (fun x => { past := x.past, swap := x.swap })) s
  cleanStore (clearImages s t false) (weightBase (32 * t) 0) 0x100000

/-- The tile's blocks take their tile-reset state (R465; 04 R112, 06 R172, 08 R241, 09 R251, 10 R284, 11 R310). -/
def resetBlocks (s : State) (t : Nat) : State :=
  let s := cancelTiles (· == t) (cutSegment (resetDecisions (· == t) (resetFields s t)) t)
  let s := ((List.range 8).map (fun i => 8 * t + i)).foldl (fun s l => s.modLoom l resetLoom) s
  let s := [2 * t, 2 * t + 1].foldl (fun s c => s.modCore c resetCore) s
  s.modBobbin t resetBobbin

/-- The warm-reset state of a tile's Bobbin, Looms and cores, with its T and Q fields (R460). -/
def warmTile (s : State) (t : Nat) : State :=
  let s := resetFields s t
  let s := ((List.range 8).map (fun i => 8 * t + i)).foldl (fun s l => s.modLoom l warmLoom) s
  let s := [2 * t, 2 * t + 1].foldl (fun s c => s.modCore c warmCore) s
  let s := cleanStore (s.modBobbin t warmBobbin) (bobbinBase t) 0x400000
  let s := cleanStore s (draftAddr (8 * t) 0 0) (8 * 0x40000)
  cleanStore (clearImages s t true) (coreBase (2 * t)) (2 * 0x80000)

/-! ### Entering OFF (R460, R465) -/

/-- The tile of the object that a pending block names; none: no tile's. -/
def stagedTile (x : Staged) : Option Nat :=
  match x.kind with
  | .portCfg => some (tidTile x.obj)
  | .threadCfg => some (tidTile x.obj)
  | .jumpCfg => some (tidTile x.obj)
  | .readpairCfg => some (tidTile x.obj)
  | .fluxCfg => some (tidTile x.obj)
  | .marverCtl => some (tileOfCore x.obj)
  | .harnessCfg => if x.obj < 768 then some (x.obj / 64) else none
  | .harnessFire => if x.obj < 768 then some (x.obj / 64) else none
  | _ => none

/-- Pending blocks of a tile are discarded; a WEIGHT_SWAP that waits is answered NOT_ACTIVE. -/
def discardTile (s : State) (t : Nat) : State :=
  let s := { s with staged := s.staged.filter (fun x => stagedTile x != some t) }
  ((List.range 32).map (fun i => 32 * t + i)).foldl (fun s r =>
    match (s.rt r).swap with
    | some w => answer (s.modRt r (fun x => { x with swap := none })) w.func w.tag .notActive 0 [] []
    | none => s) s

/-- Scrub passes of engine `e` end with ABORTED (14 R388). -/
def abortScrub (s : State) (e : Nat) : State :=
  { s with mem := { s.mem with scrubs := tmod {} s.mem.scrubs e (fun x =>
      { x with run := x.run.map (fun r => { r with aborted := true }) }) } }

/-- A capture that is armed or running ends as if aborted (R455, R466). -/
def stopCapture (s : State) (q : Nat) : State :=
  if (s.cap q).state == .armed || (s.cap q).state == .running then captureEnd (cutCapture s q) q else s

def dropTilePower (s : State) (t : Nat) : State :=
  s.modTile t (fun x => { x with pend := none, entry := none, resetAt := none })

/-- A waiting QUAD_POWER ends without its target. -/
def dropQuadPower (s : State) (q : Nat) : State :=
  match (s.quad q).pend with
  | some p => answer (s.modQuad q (fun x => { x with pend := none })) p.func p.tag .notActive 0 [] []
  | none => s

/-- A quadrant enters OFF. -/
def enterOff (s : State) (q : Nat) : State :=
  if (s.quad q).state = .off then s
  else
    let s := stopCapture (abortScrub s q) q
    let s := (quadTiles q).foldl (fun s t =>
      (dropTilePower (warmTile (discardTile (leaveActive s t .off) t) t) t).modTile t (fun x => { x with wasOff := true })) s
    setQuad (s.modQuad q (fun x => { x with pll := false, conv := false, fromOff := false, resetAt := none })) q .off

/-- A quadrant goes from ACTIVE to STANDBY, or its converter die powers down (R453). -/
def enterStandby (s : State) (q : Nat) : State :=
  let s := if (s.quad q).state = .active then abortScrub (stopCapture s q) q else s
  let s := (quadTiles q).foldl (fun s t => (leaveActive s t .standby).modTile t (fun x => { x with entry := none })) s
  setQuad (s.modQuad q (fun x => { x with conv := false, fromOff := false })) q .standby

/-! ### Pending commands (R459, R470) -/

/-- A command of R459 is pending in the quadrant. -/
def powerPending (s : State) (q : Nat) : Bool :=
  (s.quad q).pend.isSome || (s.quad q).resetAt.isSome
    || (quadTiles q).any (fun t => (s.tile t).pend.isSome || (s.tile t).resetAt.isSome
        || ((s.tile t).rst && (s.tile t).entry.isSome))

/-- A Loom of the tiles `l` is ARMED or RUNNING. -/
def runsIn (s : State) (l : List Nat) : Bool :=
  l.any (fun t => (List.range 8).any (fun i => loomActive (s.loom (8 * t + i))))

def captureBusy (s : State) (q : Nat) : Bool := (s.cap q).state == .armed || (s.cap q).state == .running

/-- 2 ms, and the 4,800 samples of a tile's wake (R453). -/
def dieSamples : Nat := 48000000
def wakeSamples : Nat := 4800

/-! ### QUAD_POWER (R468) -/

def quadTarget : Nat → QState
  | 0 => .off | 1 => .standby | _ => .active

def quadObj (q : Nat) : Nat × Nat := (0x25, q)

def quadPowerBody (k : Call) (s : State) : Result :=
  let q := fld k.blk 0 2
  let tg := fld k.blk 2 2
  let ap := fld k.blk 64 64
  let now_ := (s.quad q).state
  let down := tg = 0 || (tg = 1 && now_ = .active)
  checked s (quadObj q)
    ([(tg == 3 || fld k.blk 5 59 != 0, .badParam),
       (now_ != quadTarget tg && now_ == .off && tget false s.power.rfBad q, .notActive)] ++ timeFail ap k.accept
      ++ [(powerPending s q, .busy)]
      ++ (if now_ = quadTarget tg then []
          else
            [(now_ == .off && stopCovers s q, .busy),
             (decide down && !bit k.blk 4 && (runsIn s (quadTiles q) || captureBusy s q), .busy)]))
    (if now_ = quadTarget tg then done s []
     else waiting (s.modQuad q (fun x => { x with
       pend := some { target := tg, force := bit k.blk 4, at_ := applyAt ap k.accept, func := k.func, tag := k.tag } })))

def execQuadPower (c : Frame) (s : State) : Out State :=
  .next (serve { op := 0x0F01, pf0 := true } c s quadPowerBody)

/-- The response of a QUAD_POWER whose target is reached. -/
def quadReached (s : State) (q : Nat) (p : PowerCmd) (at_ : Nat) : State :=
  answer (s.modQuad q (fun x => { x with pend := none })) p.func p.tag .ok at_ [] [item 0x25 q]

/-- APPLY_AT of a QUAD_POWER (R453): down at once; up, the transition begins. -/
def applyQuadPower (s : State) (q : Nat) : State :=
  match (s.quad q).pend with
  | none => s
  | some p =>
    if p.begun || decide (s.st < p.at_) then s
    else if p.target = 0 then quadReached (enterOff s q) q p p.at_
    else if p.target = 1 && (s.quad q).state != .off then quadReached (enterStandby s q) q p p.at_
    else
      let off := (s.quad q).state = .off
      setQuad (s.modQuad q (fun x => { x with
        fromOff := off
        pend := some { p with begun := true, entry := if off then none else some (slowCeil (p.at_ + dieSamples)) } }))
        q .transition

/-- PLL lock and DDR training are complete (R453; 14 R359, R360): S, or 2 ms after it, is the entry instant. -/
def trainChannel (s : State) (q : Nat) (d : DimmReport) : State :=
  let bad := !d.passed || (d.modules.val != 0
    && (!([16, 32, 64, 128].contains d.gbEach) || d.ranks.val == 0 || decide (d.speed.toNat < 4800)
        || decide (d.speed.toNat > (if d.modules.val = 1 then 6400 else 5600))))
  { s with mem := { s.mem with chans := tmod {} s.mem.chans q (fun c => { c with
      failed := bad, modules := d.modules.val, ranks := d.ranks.val, speed := d.speed.toNat
      capacity := d.modules.val * d.gbEach * 2 ^ 30 }) } }

def execQuadTrainingDone (quad : Fin 4) (modules : DimmReport) (s : State) : Out State :=
  .next (match (s.quad quad).pend with
    | some p =>
      if p.begun && (s.quad quad).fromOff && p.entry.isNone then
        let at_ := nextSlow s
        (trainChannel s quad modules).modQuad quad (fun x => { x with
          pll := true, pend := some { p with entry := some (if p.target = 1 then at_ else slowCeil (at_ + dieSamples)) } })
      else s
    | none => s)

/-- The entry instant of a quadrant on its way up (R453): its tiles are in STANDBY, and the response is posted. -/
def execQuadEntry (quad : Fin 4) (s : State) : Out State :=
  let q := quad.val
  .next (match (s.quad q).pend with
    | some p =>
      (match p.entry with
      | some e =>
        if s.st < e then s
        else
          let s := (quadTiles q).foldl (fun s t => if (s.tile t).state = .off then setTile s t .standby else s) s
          let s := s.modQuad q (fun x => { x with fromOff := false, conv := p.target == 2 })
          quadReached (setQuad s q (quadTarget p.target)) q p e
      | none => s)
    | none => s)

/-! ### TILE_POWER (R469) -/

/-- The objects of a tile that have an owner (20 R519). -/
def tileOwners (s : State) (t : Nat) : List Owner :=
  (tilePlayers t).map (threadOwner s) ++ (List.range 32).map (fun i => ownerOf s 4 (mkTid t 3 i))
  ++ (tilePorts t).map (portOwner s)
  ++ (List.range 8).map (fun i => ownerOf s oLoom (8 * t + i))
  ++ [ownerOf s oMarver (2 * t), ownerOf s oMarver (2 * t + 1)]
  ++ (List.range 64).map (fun i => ownerOf s oChan (64 * t + i))
  ++ (s.bobbin t).runs.map (fun e => { part := e.2.owner })
  ++ (s.bobbin t).segs.map (fun e => { part := dOwner e.2 })

/-- The caller owns every object of the tile. -/
def ownsTile (s : State) (c : Owner) (t : Nat) : Bool := (tileOwners s t).all (mayChange c)

/-- The quadrant is ACTIVE at `e`, as it stands or by a pending QUAD_POWER. -/
def activeBy (s : State) (q e : Nat) : Bool :=
  match (s.quad q).pend with
  | some p => if p.target = 2 then (match p.entry with
        | some x => decide (x ≤ e)
        | none => decide ((s.quad q).state = .standby && slowCeil (p.at_ + dieSamples) ≤ e))
              else decide ((s.quad q).state = .active && e < p.at_)
  | none => (s.quad q).state == .active

def tileObj (t : Nat) : Nat × Nat := (0x26, t)

def tilePowerBody (k : Call) (s : State) : Result :=
  let t := fld k.blk 0 4
  let q := t / 3
  let tg := fld k.blk 4 2
  let ap := fld k.blk 64 64
  let at_ := applyAt ap k.accept
  let e := if tg = 2 then slowCeil (at_ + wakeSamples) else at_
  checked s (tileObj t)
    ([(decide (t ≥ 12) || tg == 0 || tg == 3 || fld k.blk 7 57 != 0, .badParam),
      (if tg = 2 then !activeBy s q e else quadOff s q, .notActive),
      (!ownsTile s k.who t, .partDenied)] ++ timeFail ap k.accept
      ++ [(powerPending s q || (tg == 2 && (stopCovers s q || s.time.mode == .lost))
            || (tg == 1 && !bit k.blk 6 && runsIn s [t]), .busy)])
    (scheduled (s.modTile t (fun x => { x with
        pend := some { target := tg, force := bit k.blk 6, at_ := at_, func := k.func, tag := k.tag } }))
      e [item 0x26 t])

def execTilePower (c : Frame) (s : State) : Out State := .next (serve { op := 0x0F02 } c s tilePowerBody)

/-- APPLY_AT of a TILE_POWER: STANDBY at once; ACTIVE, the tile is WAKING until E (R453). -/
def applyTilePower (s : State) (t : Nat) : State :=
  match (s.tile t).pend with
  | none => s
  | some p =>
    if p.begun || decide (s.st < p.at_) then s
    else if p.target = 1 then
      (leaveActive s t .standby).modTile t (fun x => { x with pend := none, entry := none })
    else if (s.tile t).state = .active then s.modTile t (fun x => { x with pend := none })
    else
      (setTile s t .waking).modTile t (fun x => { x with
        pend := some { p with begun := true, entry := some (slowCeil (p.at_ + wakeSamples)) } })

/-- E of a waking tile: by its TILE_POWER, or by R458 and R465. -/
def wakeAt (x : Tile) : Option Nat :=
  match x.pend with
  | some p => p.entry
  | none => x.entry

/-- E has come: the tile becomes ACTIVE (R454); its counter and NCOs follow ST (02 R43). -/
def execTileWake (tile : Fin 12) (s : State) : Out State :=
  let x := s.tile tile
  .next (match wakeAt x with
    | some e =>
      if x.state != .waking || decide (s.st < e) || s.time.mode == .lost then s
      else (setTile s tile .active).modTile tile (fun y => { y with
        pend := none, entry := none, rst := false, everActive := true, wasOff := false })
    | none => s)

/-! ### Tile and quadrant resets (R465, R466; 13 R358) -/

def resetRsv (b : Nat) : Bool := fld b 6 58 != 0

def resetTileBody (k : Call) (s : State) : Result :=
  let t := fld k.blk 2 4
  let q := t / 3
  let ap := fld k.blk 64 64
  let at_ := applyAt ap k.accept
  checked s (tileObj t)
    ([(fld k.blk 0 2 != 2 || decide (t ≥ 12) || resetRsv k.blk, .badParam), ((s.quad q).state == .off, .notActive),
      (!ownsTile s k.who t, .partDenied)] ++ timeFail ap k.accept ++ [(powerPending s q, .busy)])
    (scheduled (s.modTile t (fun x => { x with resetAt := some at_ })) at_ [item 0x26 t])

def execResetTile (c : Frame) (s : State) : Out State := .next (serve { op := 0x0003 } c s resetTileBody)

def resetQuadrantBody (k : Call) (s : State) : Result :=
  let q := fld k.blk 2 4
  let ap := fld k.blk 64 64
  let at_ := applyAt ap k.accept
  checked s (quadObj q)
    ([(fld k.blk 0 2 != 1 || decide (q ≥ 4) || resetRsv k.blk, .badParam), (k.func != 0, .partDenied),
      ((s.quad q).state == .off, .notActive),
      (!(quadTiles q).all (ownsTile s k.who), .partDenied)] ++ timeFail ap k.accept ++ [(powerPending s q, .busy)])
    (scheduled (s.modQuad q (fun x => { x with resetAt := some at_ })) at_ [item 0x25 q])

def execResetQuadrant (c : Frame) (s : State) : Out State := .next (serve { op := 0x0003 } c s resetQuadrantBody)

/-- The scrub pass of SE4 over a store of tile `t` ends (14 R388). -/
def abortTileScrub (s : State) (t : Nat) : State :=
  match (tget ({} : Scrub) s.mem.scrubs 4).run with
  | some r =>
    let a := r.start
    let inTile :=
      (bobbinBase t ≤ a && decide (a < bobbinBase t + 0x400000))
      || (weightBase (32 * t) 0 ≤ a && decide (a < weightBase (32 * t) 0 + 0x100000))
      || (draftAddr (8 * t) 0 0 ≤ a && decide (a < draftAddr (8 * t) 0 0 + 8 * 0x40000))
      || (coreBase (2 * t) ≤ a && decide (a < coreBase (2 * t) + 2 * 0x80000))
    if inTile then abortScrub s 4 else s
  | none => s

/-- A tile reset at ST `at_`: the tile leaves ACTIVE; one that was ACTIVE or WAKING is ACTIVE again at E. -/
def tileReset (s : State) (t at_ : Nat) : State :=
  let st := (s.tile t).state
  let again := st = .active || st = .waking
  let s := abortTileScrub (resetBlocks (leaveActive s t (if again then .waking else st)) t) t
  s.modTile t (fun x => { x with resetAt := none, rst := again, entry := if again then some (slowCeil (at_ + wakeSamples)) else none })

def execTileResetApply (tile : Fin 12) (s : State) : Out State :=
  .next (match (s.tile tile).resetAt with
    | some t => if s.st < t then s else tileReset s tile t
    | none => s)

/-- A quadrant reset: its tiles, and its capture (R466). -/
def execQuadrantResetApply (quad : Fin 4) (s : State) : Out State :=
  let q := quad.val
  .next (match (s.quad q).resetAt with
    | some t =>
      if s.st < t then s
      else
        let s := (quadTiles q).foldl (fun s i => tileReset s i t) s
        ((stopCapture s q).modCap q (fun _ => {})).modQuad q (fun x => { x with resetAt := none })
    | none => s)

/-! ### POWER_STATUS (R470) -/

def quadCode : QState → Nat
  | .off => 0 | .standby => 1 | .active => 2 | .transition => 3

def tileCode : TState → Nat
  | .off => 0 | .standby => 1 | .active => 2 | .waking => 3

def powerMap : FlagMap := [(41, 48)]

def powerImage (s : State) : Nat :=
  pack ((List.range 4).map (fun q => (quadCode (s.quad q).state, 2))
    ++ (List.range 12).map (fun t => (tileCode (s.tile t).state, 2))
    ++ (List.range 4).map (fun q => (b2n (s.quad q).pll, 1)) ++ (List.range 4).map (fun q => (b2n (s.quad q).conv, 1))
    ++ [(b2n s.weave.refSrc, 1)])
  + flagImage powerMap s.power.flags
  + pack ((List.range 4).map (fun q => (b2n (powerPending s q), 1))) * 2 ^ 64 + s.power.lastSt * 2 ^ 128

def powerStatusBody (k : Call) (s : State) : Result :=
  checked s (0, 0)
    [(statusReqBad k 0 256 powerMap, .badParam), (k.clear && k.func != 0, .partDenied)]
    (report (if k.clear then { s with power := { s.power with flags := clearFlags s.now powerMap k.blk s.power.flags } } else s)
      (leBytes 32 (powerImage s)))

def execPowerStatus (c : Frame) (s : State) : Out State := .next (serve { op := 0x0F03 } c s powerStatusBody)

end Sys2Proof.Machine
end

