-- ==== Sys2Proof/Machine/LinkCodes.lean ====
section
/-! DEFINITION. The codes of the Weave links: the BCH check of a frame, the scramblers, training words and the
CRC of a Shuttle (15 R393, R397, R399, R400, R412). -/

namespace Sys2Proof.Machine

/-! ### GF(2^10) and the BCH code (15 R397) -/

/-- g(x): the product of the minimal polynomials of α, α^3, α^5 and α^7. -/
def bchGen : Nat := 0x182EBE91E9B

/-- The 600-bit frame of 560 bits: the check in bits [599:560]. -/
def bchEncode (d : Nat) : Nat := d % 2 ^ 560 + 2 ^ 560 * polyRem bchGen 40 600 (d % 2 ^ 560 * 2 ^ 40)

/-- The polynomial of a frame: bit i of 0 to 559 is the coefficient of x^(40 + i), bit 560 + j that of x^j. -/
def bchPoly (f : Nat) : Nat := f % 2 ^ 560 * 2 ^ 40 + f / 2 ^ 560 % 2 ^ 40

/-- A product by α. -/
def gfDouble (a : Nat) : Nat := if 2 * a / 1024 % 2 = 1 then (2 * a) ^^^ 0x409 else 2 * a

/-- A product in GF(2^10), by the bits of `b` from the top. -/
def gfMul (a b : Nat) : Nat :=
  (List.range 10).reverse.foldl (fun r i => if b / 2 ^ i % 2 = 1 then gfDouble r ^^^ a else gfDouble r) 0

def gfPow (a : Nat) : Nat → Nat
  | 0 => 1
  | n + 1 => gfMul (gfPow a n) a

/-- The inverse of a nonzero element: its power 1,022 = 2 + 4 + … + 512. -/
def gfInv (a : Nat) : Nat :=
  ((List.range 9).foldl (fun (p : Nat × Nat) _ => let q := gfMul p.1 p.1; (q, gfMul p.2 q)) (a, 1)).2

/-- The value of a polynomial over GF(2), of 600 coefficients, at `x`. -/
def gfEval (v x : Nat) : Nat :=
  (List.range 600).reverse.foldl (fun r i => gfMul r x ^^^ (v / 2 ^ i % 2)) 0

/-- The locator polynomial of eight syndromes and its length (Berlekamp and Massey). -/
def locator (syn : List Nat) : List Nat × Nat :=
  let r := (List.range 8).foldl
    (fun (p : List Nat × List Nat × Nat × Nat × Nat) n =>
      let (c, b, l, m, d0) := p
      let d := (List.range (l + 1)).foldl (fun a i => a ^^^ gfMul (c.getD i 0) (syn.getD (n - i) 0)) 0
      if d = 0 then (c, b, l, m + 1, d0)
      else
        let q := List.replicate m 0 ++ b.map (gfMul (gfMul d (gfInv d0)))
        let c' := (List.range (max c.length q.length)).map (fun i => c.getD i 0 ^^^ q.getD i 0)
        if 2 * l ≤ n then (c', c, n + 1 - l, 1, d) else (c', b, l, m + 1, d0))
    ([1], [1], 0, 1, 1)
  (r.1, r.2.2.1)

/-- The class of a received frame; `corrected m`: the wrong frame bits. -/
def bchClass (f : Nat) : WordClass :=
  let v := bchPoly f
  let syn := (List.range 8).map (fun j => gfEval v (gfPow 2 (j + 1)))
  if syn.all (fun x => x == 0) then .clean
  else
    let r := locator syn
    let inv := gfPow 2 1022
    let roots := ((List.range 600).foldl (fun (p : Nat × List Nat) i =>
      let e := r.1.foldr (fun c a => gfMul a p.1 ^^^ c) 0
      (gfMul p.1 inv, if e = 0 then i :: p.2 else p.2)) (1, [])).2
    if r.2 > 4 || roots.length != r.2 then .ue
    else .corrected (roots.map (fun i => 2 ^ (if 40 ≤ i then i - 40 else 560 + i))).sum

/-! ### Scramblers and lanes (15 R393, R399) -/

/-- The scrambler state of physical lane `n` at transmit enable. -/
def scramblerInit (n : Nat) : Nat := 0x40000000 + n

/-- `n` bits of a scrambler from state `s`: the bits, first at bit 0, and the state after them. -/
def scramble (n s : Nat) : Nat × Nat :=
  (List.range n).foldl (fun (p : Nat × Nat) i =>
    let o := (p.2 / 2 ^ 30 + p.2 / 2 ^ 27) % 2
    (p.1 + o * 2 ^ i, p.2 % 2 ^ 30 * 2 + o)) (0, s)

/-- The 150 bits of position `p` of a frame, and their places in it. -/
def laneBits (f p : Nat) : Nat := ((List.range 150).map (fun i => f / 2 ^ (4 * i + p) % 2 * 2 ^ i)).sum
def spreadBits (w p : Nat) : Nat := ((List.range 150).map (fun i => w / 2 ^ i % 2 * 2 ^ (4 * i + p))).sum

/-! ### Training words (15 R400) -/

def tMark : Nat := 0x9B3E61C0A5

/-- The first 57 bits of x^7 + x^6 + 1 from the all-ones state. -/
def trainFill : Nat :=
  ((List.range 57).foldl (fun (p : Nat × Nat) i =>
    let o := (p.2 / 64 + p.2 / 32) % 2
    (p.1 + o * 2 ^ i, p.2 % 64 * 2 + o)) (0, 127)).1

/-- A lane's training word. -/
def trainWord (plane pos : Nat) (spare : Bool) (dev link : Nat) (adm rxok : Bool) (seed : Nat) : Nat :=
  pack [(tMark, 40), (plane, 5), (pos, 2), (b2n spare, 1), (dev, 6), (link, 2), (3, 4), (b2n adm, 1), (b2n rxok, 1),
        (seed, 31), (trainFill, 57)]

/-! ### The Shuttle's CRC (15 R412) -/

/-- CRC-32 of IEEE 802.3. -/
def crc32 (l : List Byte) : Nat :=
  (l.foldl (fun c b =>
    (List.range 8).foldl (fun (c : Nat) _ => if c % 2 = 1 then (c / 2) ^^^ 0xEDB88320 else c / 2) (c ^^^ b.toNat))
    0xFFFFFFFF) ^^^ 0xFFFFFFFF

end Sys2Proof.Machine
end

