-- ==== Sys2Proof/Machine/Links.lean ====
section
/-! DEFINITION. Weave links: their states, what they report, routing, Shuttles, membership and time stamps
(15 R393 to R425, R428, R431, R432; 11 R306). -/

namespace Sys2Proof.Machine

def State.link (s : State) (k : Nat) : Link := tget {} s.links k
def State.modLink (s : State) (k : Nat) (g : Link → Link) : State := { s with links := tmod {} s.links k g }

/-- Flags of LINK_STATUS and WEAVE_STATUS (R428, R430). -/
def kFrameUe : Nat := 32
def kCrcErr : Nat := 33
def kRetryLim : Nat := 34
def kAlignErr : Nat := 35
def kAdaptGuard : Nat := 36
def kLaneFail : Nat := 37
def kTopoErr : Nat := 38
def kLos : Nat := 39
def kSpared : Nat := 40
def kTrimLimit : Nat := 192
def kAlignLost : Nat := 193

def linkHit (s : State) (k f : Nat) : State := s.modLink k (fun x => { x with flags := hit s.now x.flags f })
def weaveHit (s : State) (f : Nat) : State := { s with weave := { s.weave with flags := hit s.now s.weave.flags f } }

/-! ### LINK_STATUS (R428), records (R431), events (R432) -/

def txCode : TxState → Nat
  | .off => 0 | .train => 1 | .up => 2 | .sleepLight => 3 | .sleepDeep => 4 | .wake => 5

def rxCode : RxState → Nat
  | .off => 0 | .acquire => 1 | .align => 2 | .deskew => 3 | .up => 4 | .aligned => 5 | .sleep => 6 | .down => 7

def linkMap : FlagMap := (List.range 9).map (fun i => (32 + i, 256 + 16 * i))

def State.lane (s : State) (k l : Nat) : Lane := tget {} (s.link k).lanes l
def State.modLane (s : State) (k l : Nat) (g : Lane → Lane) : State :=
  s.modLink k (fun x => { x with lanes := tmod {} x.lanes l g })

/-- The receive lane that carries position `p`: the spare is lane 4. -/
def rxLane (x : Link) (p : Nat) : Nat := if x.sparePos = some p then 4 else p
def txLane (x : Link) (p : Nat) : Nat := if x.txSpare = some p then 4 else p

/-- Physical lane number of lane `l` of link `k` (R393). -/
def plane (k l : Nat) : Nat := if l = 4 then 16 + k / 2 else 4 * k + l

def linkImage (s : State) (k : Nat) : Nat :=
  let x := s.link k
  let lane (p : Nat) : Lane := tget {} x.lanes (rxLane x p)
  pack [(k, 2), (txCode x.tx, 3), (rxCode x.rx, 3), (x.sparePos.getD 7, 3), (0, 5), (x.peerDev, 6), (x.peerLink, 2),
    (x.peerProto, 4), (b2n x.peerAdm, 1), (0, 3), (0, 32), (x.corrBits, 32), (x.delay.getD 0, 32), (x.pad, 16),
    (0, 16), ((lane 0).margin, 8), ((lane 1).margin, 8), ((lane 2).margin, 8), ((lane 3).margin, 8),
    (b2n (lane 0).frozen, 1), (b2n (lane 1).frozen, 1), (b2n (lane 2).frozen, 1), (b2n (lane 3).frozen, 1)]
    + flagImage linkMap x.flags

/-- A link error record (R431): direction 1 is receive. -/
def linkRecord (s : State) (kind k dir pl detail data part : Nat) : State :=
  errRecord s part (leBytes 32 (pack [(kind, 16), (k, 2), (dir, 1), (pl, 5), (detail, 8), (0, 32), (s.st, 64), (data, 64)]))

/-- LINK_EVT of link `k` asserts (R432). -/
def linkEvt (s : State) (k : Nat) : State :=
  if s.harness.asserts.any (fun a => a.line == .uncore (8 + k) && a.tick == s.now) then s else uncore s (8 + k)

/-- A link's Ledger entry (20 R512, R514). -/
def linkNote (s : State) (k : Nat) (o : Origin := fromNirdin) : State :=
  ledgerNote s o 0x24 k 0x8006 (digest8 (leBytes 32 (linkImage s k % 2 ^ 256)))

/-- A change of TX_STATE or RX_STATE: LINK_EVT, the LINK_STATE notice and the Ledger entry (R432). -/
def linkChanged (s : State) (k : Nat) : State :=
  let s := linkNote (linkEvt s k) k
  event s 0 0x8003 (leBytes 32 (linkImage s k % 2 ^ 256))

def setTx (s : State) (k : Nat) (t : TxState) : State :=
  if (s.link k).tx = t then s else linkChanged (s.modLink k (fun x => { x with tx := t })) k

/-- A member that takes its reference from the receive direction of link `k` loses it when the direction stops, sleeps or goes
down (R408, R422, R425; DEDUCED, log 137). -/
def losesReference (s : State) (k : Nat) (r : RxState) : Bool :=
  s.weave.refSrc && s.weave.role == .member && fld s.weave.config 11 2 == k
    && ((s.link k).rx == .up || (s.link k).rx == .aligned) && (r == .off || r == .sleep || r == .down)

/-- The receive state changes. A direction that leaves ALIGNED presents nothing it has received (09 R258). A lost reference
counts as REFCLK: 64 ns without an edge, 48 ticks (02 R42). -/
def setRx (s : State) (k : Nat) (r : RxState) : State :=
  if (s.link k).rx = r then s
  else
    let s := if losesReference s k r then { s with weave := { s.weave with refLoss := some (s.now + 48) } } else s
    let s := s.modLink k (fun x => { x with rx := r })
    let s := if r = .aligned then s
      else { s with warp := { s.warp with
        imports := tset [] s.warp.imports k ((tget [] s.warp.imports k).filter (fun e => decide (e.1 < stTick s))) } }
    linkChanged s k

/-! ### Bring-up (R401 to R404) -/

/-- An admission fails (R419). -/
def admitFail (s : State) (reason : Nat) (st : Status) : State :=
  match s.weave.admission with
  | some a =>
    answer { s with
      weave := { s.weave with admission := none, reason := reason, refSrc := a.oldSrc, refTrim := a.oldTrim }
      time := { s.time with slowPhase := a.oldPhase } } a.func a.tag st 0 [] []
  | none => s

/-- The uplink of an admission in progress goes down (R419). -/
def admitDown (s : State) (k : Nat) : State :=
  match s.weave.admission with
  | some a => if fld a.blk 19 2 = k then admitFail s 1 .linkDown else s
  | none => s

/-- Transmit enable: every lane's scrambler is loaded (R399). -/
def loadScramblers (s : State) (k : Nat) : State :=
  s.modLink k (fun x => { x with
    scr := (List.range 5).foldl (fun t l => tset 0 t l (scramblerInit (plane k l))) [] })

/-- Step 1 of R401, on both directions. The equalisers keep their coefficients and thaw (R404, R405). -/
def startLink (s : State) (k : Nat) : State :=
  let s := admitDown (if (s.link k).tx = .off then loadScramblers s k else s) k
  let s := s.modLink k (fun x => { x with
    startAt := s.now, rxok := false, okRun := 0, wasAligned := false, ueRun := 0, alignRun := 0
    sleepReq := none, spareAt := none, spareReq := none, wakeAt := 0, stamped := none, delay := none
    lanes := (List.range 5).foldl (fun t l =>
      tmod {} t l (fun y => { y with found := false, slips := 0, frozen := false })) x.lanes })
  setRx (setTx s k .train) k .acquire

/-- LOS and the LINK_DOWN record of a failed bring-up, and the restart (R401 to R403). -/
def failStart (s : State) (k detail : Nat) : State :=
  startLink (linkRecord (linkHit s k kLos) 0x41 k 1 0 detail 0 0) k

/-- A receive direction leaves UP or ALIGNED: DOWN, LOS, and the link restarts at step 1 (R404). -/
def linkDown (s : State) (k detail : Nat) : State := failStart (setRx s k .down) k detail

/-- Both directions of a link stop (R425, R426). -/
def stopLink (s : State) (k : Nat) : State :=
  let s := (admitDown s k).modLink k (fun x => { x with
    sleepReq := none, spareAt := none, spareReq := none, rxok := false })
  setRx (setTx s k .off) k .off

/-- Lanes that a bring-up searches: the four positions and a claimed spare (R402). -/
def searched (x : Link) : List Nat := if x.spareEn then [0, 1, 2, 3, 4] else [0, 1, 2, 3]

/-! ### Topology and routing (R415, R416) -/

def isMember (s : State) : Bool := s.weave.role != .none

/-- Fields of the accepted WEAVE_ADMIT, by their bits above 8 (R429). -/
def wTorus (c : Nat) : Bool := bit c 0
def wSizeX (c : Nat) : Nat := fld c 1 6
def wSizeY (c : Nat) : Nat := fld c 7 4
def wUplink (c : Nat) : Nat := fld c 11 2
def wTrack (c : Nat) : Bool := bit c 14

/-- The device and link that the topology puts at the other end of link `k` of device `n`. -/
def neighbour (c n k : Nat) : Option (Nat × Nat) :=
  let x := wSizeX c
  let y := wSizeY c
  if wTorus c then
    match k with
    | 0 => some (n / x * x + (n % x + 1) % x, 1)
    | 1 => some (n / x * x + (n % x + x - 1) % x, 0)
    | 2 => some ((n / x + 1) % y * x + n % x, 3)
    | _ => some ((n / x + y - 1) % y * x + n % x, 2)
  else match k with
    | 0 => some ((n + 1) % x, 1)
    | 1 => some ((n + x - 1) % x, 0)
    | _ => none

/-- The peer read from the training frames is the one the topology requires. -/
def topoOk (s : State) (k : Nat) : Bool :=
  neighbour s.weave.config s.weave.device k == some ((s.link k).peerDev, (s.link k).peerLink)

/-- TOPO_ERR, for a member's link past its training (R415). -/
def checkTopo (s : State) (k : Nat) : State := if isMember s && !topoOk s k then linkHit s k kTopoErr else s

/-- The shorter way round `n` positions (R416): true upwards. -/
def upwards (d n : Nat) : Bool := 2 * d ≤ n

/-- The link a Shuttle for device `d` goes out on; none: it is here. -/
def route (s : State) (d : Nat) : Option Nat :=
  let c := s.weave.config
  let n := s.weave.device
  let x := wSizeX c
  if d = n then none
  else if wTorus c then
    let dx := (d % x + x - n % x) % x
    let dy := (d / x + wSizeY c - n / x) % wSizeY c
    if dx ≠ 0 then some (if upwards dx x then 0 else 1) else some (if upwards dy (wSizeY c) then 2 else 3)
  else some (if upwards ((d + x - n) % x) x then 0 else 1)

/-! ### Membership (R414) -/

def fourMs : Nat := 3000000

/-- The view of a link's peer, while it stands and the peer is a member. -/
def freshView (s : State) (x : Link) : Option View :=
  match x.view with
  | some v => if x.peerAdm && decide (s.now ≤ v.tick + fourMs) then some v else none
  | none => none

/-- The admitted devices (R414); a device that is no member has itself. -/
def view (s : State) : Nat :=
  let own := 2 ^ s.weave.device
  if isMember s then
    (List.range 4).foldl (fun m k =>
      match freshView s (s.link k) with
      | some v => m ||| (v.mask &&& s.weave.members)
      | none => m) own
  else own

/-- HOPS of a member (R414). -/
def refreshHops (s : State) : State :=
  let l := (List.range 4).filterMap (fun k => (freshView s (s.link k)).map (fun v => v.hops))
  match s.weave.role, l.min? with
  | .member, some h => { s with weave := { s.weave with hops := (h + 1) % 64 } }
  | _, _ => s

/-! ### Shuttles (11 R306; R412, R413) -/

def hSrc (p : Nat) : Nat := fld p 10 6
def hDst (p : Nat) : Nat := fld p 16 6
def hLen (p : Nat) : Nat := fld p 22 6
def hOwner (p : Nat) : Nat := fld p 28 4
def hSpool (p : Nat) : Nat := fld p 32 16
def hHops (p : Nat) : Nat := fld p 48 6
def hPayload (p : Nat) : Nat := fld p 64 384

/-- A Shuttle with its SSEQ and CRC. -/
def sealShuttle (p sseq : Nat) : Nat :=
  let v := p % 2 ^ 448 / 1024 * 1024 + sseq % 1024
  v + 2 ^ 448 * crc32 (leBytes 56 v)

def crcGood (p : Nat) : Bool := fld p 448 32 == crc32 (leBytes 56 (p % 2 ^ 448))

/-- The check of R306 that an arriving Shuttle fails. -/
def rejects (s : State) (p : Nat) : Option Nat :=
  let q := s.spool (hSpool p)
  if !spoolLive q then some 2
  else if q.cls != 1 && q.cls != 2 then some 3
  else if hLen p > entryBytes q then some 4
  else if q.owner != hOwner p then some 5
  else if q.resize.isNone && !canPut s q then some 6
  else none

/-- A Shuttle at its destination (11 R306). -/
def arrive (s : State) (p : Nat) : State :=
  let s := readDesc s (hSpool p)
  match rejects s p with
  | some d =>
    let s := if d = 6 then dropEntry s (hSpool p) else s
    errRecord s (s.spool (hSpool p)).owner (spoolRecord 4 (hSpool p) d s.st (p % 2 ^ 64))
  | none => produce s (hSpool p) 4 false none ((leBytes 48 (hPayload p)).take (hLen p))

/-- A Shuttle that goes no further (R416). -/
def lose (s : State) (k dir p detail : Nat) : State := linkRecord s 0x44 k dir 0 detail (p % 2 ^ 64) (hOwner p)

/-- A Shuttle received in order: it has arrived, or it goes on (R416). A device in no Weave has no route onwards. -/
def passShuttle (s : State) (k p : Nat) : State :=
  match route s (hDst p) with
  | none => arrive s p
  | some o =>
    if !isMember s then lose s k 1 p 1 else
    let h := hHops p + 1
    let p' := p % 2 ^ 48 + h % 64 * 2 ^ 48 + p / 2 ^ 54 * 2 ^ 54
    if h > 32 then lose s k 1 p 3
    else if (s.link o).tx != .up || !(s.link o).peerAdm then lose s o 0 p 1
    else if (s.link o).transit.length ≥ 64 then lose s o 0 p 2
    else s.modLink o (fun x => { x with transit := x.transit ++ [p'] })

/-- A Shuttle frame's payload (R413). -/
def takeShuttle (s : State) (k p : Nat) : State :=
  let x := s.link k
  if crcGood p && fld p 0 10 == x.expected then
    passShuttle (s.modLink k (fun x => { x with expected := (x.expected + 1) % 1024, nak := false })) k p
  else (linkHit s k kCrcErr).modLink k (fun x => { x with nak := true })

/-- ACK and NAK of a received header (R413). -/
def takeAck (s : State) (ack : Nat) (nak : Bool) (k : Nat) : State :=
  s.modLink k (fun x =>
    let n := match x.unacked.findIdx? (fun e => e.1 == ack) with | some i => i + 1 | none => 0
    let x := if n = 0 then x
      else { x with unacked := x.unacked.drop n, cursor := x.cursor - n, resends := 0, progress := s.now }
    if nak && decide (x.cursor ≥ x.unacked.length) && !x.unacked.isEmpty then
      { x with cursor := 0, resends := x.resends + 1 } else x)

/-- The retry limit (R413). -/
def retryLimit (s : State) (k : Nat) : State :=
  if (s.link k).resends > 16 then
    let s := linkRecord (linkHit s k kRetryLim) 0x46 k 0 0 0 0 0
    startLink ((linkEvt s k).modLink k (fun x => { x with resends := 0, progress := s.now })) k
  else s

/-! ### Spares (R409 to R411) -/

/-- A spare that can take a position of the receive direction (R411). -/
def spareFree (x : Link) : Bool := x.spareEn && x.sparePos.isNone && x.tx == .up

/-- A switch takes place on one end (R410). -/
def spareSwitch (s : State) (k pos : Nat) (unspare : Bool) (receive : Bool) : State :=
  let now_ : Option Nat := if unspare then none else some pos
  let s := s.modLink k (fun x => if receive then { x with sparePos := now_ } else { x with txSpare := now_ })
  let s := linkHit s k kSpared
  linkNote (linkRecord (linkEvt s k) 0x42 k (b2n receive) (plane k 4) (pos + 4 * b2n unspare) 0 0) k

/-- A bad lane (R410, R411): a request for the spare, or LANE_FAIL. -/
def badLane (s : State) (k pos : Nat) : State :=
  let x := s.link k
  if spareFree x then
    if x.autoSpare then s.modLink k (fun x => { x with spareReq := some (pos, false) }) else s
  else linkHit s k kLaneFail

/-! ### Time stamps (R417, R421, R423) -/

/-- A fresh choice between the two integers next to a quotient that is not exact (DESIGN CHOICE, log 30). -/
def average (s : State) (l : List Int) : State × Int :=
  let n : Int := l.length
  let q := l.sum / n
  if l.sum % n = 0 then (s, q)
  else ({ s with freeCtr := s.freeCtr + 1 }, if Config.freeBool s.freeCtr then q else q + 1)

/-- RTT, DELAY and θ of an exchange in 1/64 sample (R417): t1 and t4 in the peer's ST, t2 and t3 in ours. -/
def exchange (asym t1 t2 t3 t4 : Int) : Int × Int × Int :=
  let rtt := (t4 - t1) - (t3 - t2)
  let delay := (rtt + asym) / 2
  (rtt, delay, t2 - t1 - delay)

/-- The ball time of a TSTAMP of ours, or of the peer (R417; TXC: DESIGN CHOICE, log 31). -/
def ballTime (k txt : Nat) : Int := ((txt : Int) + 352) * 64 + (Config.txc k).toInt

/-- The skew between lanes in 1/64 sample: 150 bits are a tick (R393, R403). -/
def skewUnits (x : Link) : Int := (x.skew : Int) * 2048 / 150

/-- 26 ticks minus DELAY minus the lane skew, in 1/64 sample (R421). -/
def padUnits (x : Link) (delay : Nat) : Int := 26 * 32 * 64 - (delay : Int) - skewUnits x

/-- A receive direction whose two ends are members becomes ALIGNED (R415, R421, R423). -/
def tryAlign (s : State) (k : Nat) : State :=
  let x := s.link k
  match x.delay with
  | some d =>
    if x.rx == .up && isMember s && x.peerAdm && topoOk s k && decide (0 ≤ padUnits x d)
        && !(s.weave.role == .member && wUplink s.weave.config == k && s.weave.lost) then
      setRx (s.modLink k (fun x => { x with pad := (padUnits x d / 64).toNat, alignRun := 0 })) k .aligned
    else s
  | none => s

/-- A θ of the uplink (R423): the last 256 are kept, and 64 give OFFSET. After a relink it decides whether the
direction may become ALIGNED again. -/
def uplinkTheta (s : State) (k : Nat) (th : Int) : State :=
  let w := s.weave
  let ts := (th :: w.thetas).take 256
  let s := { s with weave := { w with thetas := ts } }
  let a : State × Int := if ts.length ≥ 64 then average s (ts.take 64) else (s, w.offset)
  let s := { a.1 with weave := { a.1.weave with offset := a.2 } }
  if w.role == .member && (s.link k).rx == .up && !w.lost && decide (16 < th.natAbs) then
    weaveHit { s with weave := { s.weave with lost := true } } kAlignLost
  else s

/-- DELAY plus the lane skew is above 25 ticks (R419). -/
def tooFar (x : Link) : Bool :=
  match x.delay with | some d => decide ((d : Int) + skewUnits x > 25 * 32 * 64) | none => false

/-- The 256 exchanges of an admission are in: REF_TRIM, the shift of the slow-tick divider and the load's
periods (R419 steps 3 to 5; DEDUCED, log 32). -/
def admitMeasured (s : State) (k : Nat) : State :=
  match s.weave.admission with
  | some a =>
    if tooFar (s.link k) then admitFail s 5 .badParam
    else if a.load.isNone && decide (s.weave.thetas.length ≥ 256) then
      let m := average s s.weave.thetas
      let back := -m.2
      let periods := back / 6144
      { m.1 with
        weave := { m.1.weave with refTrim := (back % 6144).toNat, admission := some { a with load := some periods } }
        time := { m.1.time with slowPhase := m.1.time.slowPhase + 3 * (periods % 8).toNat } }
    else s
  | none => s

/-- A received TSTAMP (R417): the peer's TXT, the TXT of ours that it stamped, its stamp, and ours of its
frame. It completes the exchange that the peer's TSTAMP before it began, unless the peer has stamped no TSTAMP of ours yet:
its ECHO, RXT and RXF are then 0 (DEDUCED, log 136). -/
def takeTstamp (s : State) (k txt echo rxt rxf : Nat) (stamp : Int) : State :=
  let x := s.link k
  let keep (s : State) : State := s.modLink k (fun x => { x with stamped := some (txt, stamp) })
  match x.stamped with
  | none => keep s
  | some (t1, t2) =>
    if echo = 0 && rxt = 0 && rxf = 0 then keep s else
    let e := exchange x.asym (ballTime k t1) t2 (ballTime k echo) ((rxt : Int) * 64 + rxf)
    let s := s.modLink k (fun x => { x with delay := some (e.2.1.toNat % 2 ^ 32) })
    let mine : Bool := match s.weave.admission with
      | some a => fld a.blk 19 2 == k
      | none => s.weave.role == .member && wUplink s.weave.config == k
    let s := if mine then admitMeasured (uplinkTheta s k e.2.2) k else s
    tryAlign (keep s) k

/-- A received MEMBERS message (R414). -/
def takeMembers (s : State) (k mask : Nat) (refdep : Bool) (hops : Nat) : State :=
  let s := s.modLink k (fun x => { x with
    peerAdm := true, view := some { tick := s.now, mask := mask, refdep := refdep, hops := hops } })
  tryAlign (refreshHops s) k

/-! ### Sleep (R407) -/

/-- A received SLEEP notice: the direction sleeps after the frame with COUNT 0. -/
def takeSleep (s : State) (k count : Nat) : State :=
  let x := s.link k
  if count = 0 && (x.rx == .up || x.rx == .aligned) then
    setRx (s.modLink k (fun x => { x with wasAligned := x.rx == .aligned, ueRun := 0 })) k .sleep
  else s

/-- A received SPARE_AT: the position switches after the frame with COUNT 0 (R410). -/
def takeSpareAt (s : State) (k pos : Nat) (unspare : Bool) (count : Nat) : State :=
  if count = 0 && (s.link k).spareEn then spareSwitch s k pos unspare true else s

/-- A received SPARE_REQ: the transmitter counts down, where its spare can serve (R410). -/
def takeSpareReq (s : State) (k pos : Nat) (unspare : Bool) : State :=
  let x := s.link k
  let can := x.spareEn && (if unspare then x.txSpare == some pos else x.txSpare.isNone) && x.spareAt.isNone
  if can then s.modLink k (fun x => { x with spareAt := some { pos := pos, unspare := unspare } }) else s

/-- A transmit direction begins to sleep (R407); `now_`: the notice goes at once (18 R477). -/
def beginSleep (s : State) (k : Nat) (deep now_ : Bool) : State :=
  let r : SleepReq :=
    { deep := deep, until_ := if now_ then s.now else s.now + 256, count := if now_ then some 15 else none }
  s.modLink k (fun x => { x with sleepReq := some r })

end Sys2Proof.Machine
end

