-- ==== Sys2Proof/Machine/LinkRun.lean ====
section
/-! DEFINITION. Frames of the Weave links, sent and received, and the events of the lanes
(15 R395 to R417; 11 R306). -/

namespace Sys2Proof.Machine

/-! ### Received frames (R397, R398, R400, R401) -/

/-- The import field that an uncorrectable frame presents: 0b100 in every slot (09 R258). -/
def lostField : Nat := ((List.range 21).map (fun i => 4 * 8 ^ i)).sum

/-- A frame's slots reach the import table: what it carries is shown 66 ticks after it was sent, 29 ticks after
it entered the receive pipeline (09 R255, R259; R421). -/
def importField (s : State) (k f : Nat) : State :=
  let y := stTick s
  { s with warp := { s.warp with
      imports := tset [] s.warp.imports k ((y + 29, f) :: (tget [] s.warp.imports k).filter (fun e => decide (y ≤ e.1 + 1))) } }

/-- A frame that counts as uncorrectable (R398; 09 R258). -/
def frameUe (s : State) (k : Nat) : State :=
  let s := (linkHit s k kFrameUe).modLink k (fun x => { x with ueRun := x.ueRun + 1, ueSince := x.ueSince + 1 })
  let x := s.link k
  let s := if x.ueAt = 0 || decide (x.ueAt + 750000 ≤ s.now + 1) then
      (linkRecord s 0x40 k 1 0 (min x.ueSince 255) 0 0).modLink k (fun x => { x with ueAt := s.now + 1, ueSince := 0 })
    else s
  let s := if x.rx == .aligned then
      let s := importField s k lostField
      assertAt { s with warp := { s.warp with losses := s.warp.losses ++ [(s.now + 29, k)] } } (.uncore (4 + k)) (s.now + 29) 1
    else s
  if x.ueRun ≥ 64 then linkDown s k 2 else s

/-- Corrected bits are counted in all and by lane (R398, R403). -/
def countCorrected (s : State) (k m : Nat) : State :=
  (List.range 4).foldl (fun s p =>
    let n := countBelow 150 (fun i => m / 2 ^ (4 * i + p) % 2 == 1)
    if n = 0 then s
    else (s.modLane k (rxLane (s.link k) p) (fun y => { y with window := y.window + n, count := y.count + n })).modLink k
      (fun x => { x with corrBits := sat32 (x.corrBits + n) })) s

/-- A control message, by its CTYPE (R406). -/
def takeControl (s : State) (k p : Nat) (stamp : Int) : State :=
  match fld p 0 8 with
  | 1 => takeSleep s k (fld p 10 4)
  | 2 => takeSpareAt s k (fld p 8 2) (bit p 10) (fld p 11 3)
  | 3 => takeSpareReq s k (fld p 8 2) (bit p 10)
  | 4 => takeTstamp s k (fld p 8 64) (fld p 72 64) (fld p 136 64) (fld p 200 6) stamp
  | 5 => takeMembers s k (fld p 8 64) (bit p 72) (fld p 73 6)
  | _ => s

/-- The 150 bits of each position of a line. -/
def positions (line : Nat) : List Nat := (List.range 4).map (laneBits line)

/-- A training frame: TMARK on all four positions (R401). -/
def isTraining (line : Nat) : Bool := (positions line).all (fun w => w % 2 ^ 40 == tMark)

/-- A training frame (R400, R401): the peer's fields, the descramblers, step 3, and step 4 of the transmitter. -/
def takeTraining (s : State) (k line : Nat) : State :=
  let w := laneBits line 0
  let old := s.link k
  let s := s.modLink k (fun x => { x with
    peerDev := fld w 48 6, peerLink := fld w 54 2, peerProto := fld w 56 4, peerAdm := bit w 60
    descr := (positions line).zipIdx.foldl (fun t e => tset 0 t (rxLane x e.2) (fld e.1 62 31)) x.descr
    rxok := x.rxok || x.rx == .deskew
    okRun := if bit w 61 && x.rxok then x.okRun + 1 else 0 })
  let x := s.link k
  let s := if (old.peerDev, old.peerLink) = (x.peerDev, x.peerLink) then s else checkTopo s k
  if x.tx == .train && x.rxok && decide (x.okRun ≥ 16) then setTx s k .up else s

/-- The line of a frame, descrambled: the frame, and the states after it (R399). -/
def descramble (x : Link) (line : Nat) : Nat × Tbl Nat :=
  (positions line).zipIdx.foldl (fun (a : Nat × Tbl Nat) e =>
    let l := rxLane x e.2
    let d := scramble 150 (tget 0 a.2 l)
    (a.1 + spreadBits (e.1 ^^^ d.1) e.2, tset 0 a.2 l d.2)) (0, x.descr)

/-- A frame that decoded (R396, R401, R407, R421). -/
def takeFrame (s : State) (k f : Nat) (stamp : Int) : State :=
  let x := s.link k
  let s := match x.rx with
    | .deskew => checkTopo (setRx s k .up) k
    | .sleep => setRx s k (if x.wasAligned then .aligned else .up)
    | _ => s
  let s := if (s.link k).tx = .train then setTx s k .up else s
  let wrong := (s.link k).rx == .aligned && fld f 13 3 != (stTick s + 3) % 8
  if wrong then
    let s := linkEvt (linkHit (frameUe s k) k kAlignErr) k
    let s := s.modLink k (fun x => { x with alignRun := x.alignRun + 1 })
    if (s.link k).alignRun ≥ 3 && (s.link k).rx == .aligned then
      setRx (linkRecord (s.modLink k (fun x => { x with alignRun := 0 })) 0x45 k 1 0 3 0 0) k .up
    else s
  else
    let s := s.modLink k (fun x => { x with ueRun := 0, alignRun := 0 })
    let s := if (s.link k).rx = .aligned then importField s k (fld f 16 64) else s
    let s := retryLimit (takeAck s (fld f 2 10) (bit f 12) k) k
    match fld f 0 2 with
    | 1 => takeShuttle s k (fld f 80 480)
    | 2 => takeControl s k (fld f 80 480) stamp
    | _ => s

/-- FRAME_RECEIVE (R397): the 600 line bits of a frame enter the receive pipeline of link `k` in this tick;
`stamp` is its arrival at the ball in this device's ST, in 1/64 sample (R417). -/
def execFrameReceive (link : Fin 4) (line : BitVec 600) (stamp : Int) (s : State) : Out State :=
  let k := link.val
  let x := s.link k
  let v := line.toNat
  .next (
    if x.rx == .off || x.rx == .acquire || x.rx == .align || x.rx == .down then s
    else if isTraining v then takeTraining s k v
    else if x.rx == .deskew && !x.rxok then s
    else
      let d := descramble x v
      let s := s.modLink k (fun x => { x with descr := d.2, okRun := 0 })
      match bchClass d.1 with
      | .clean => takeFrame s k d.1 stamp
      | .corrected m => takeFrame (countCorrected s k m) k (d.1 ^^^ m) stamp
      | _ => if x.rx == .up || x.rx == .aligned then frameUe s k else s)

def execSleep (link : Fin 4) (_deep : Bool) (count : Fin 16) (s : State) : Out State := .next (takeSleep s link count)

def execSpareAt (link : Fin 4) (pos : Fin 4) (unspare : Bool) (count : Fin 8) (s : State) : Out State :=
  .next (takeSpareAt s link pos unspare count)

def execSpareReq (link : Fin 4) (pos : Fin 4) (unspare : Bool) (s : State) : Out State :=
  .next (takeSpareReq s link pos unspare)

def execTstamp (link : Fin 4) (txt echo rxt : BitVec 64) (rxf : BitVec 6) (stamp : Int) (s : State) : Out State :=
  .next (takeTstamp s link txt.toNat echo.toNat rxt.toNat rxf.toNat stamp)

def execMembers (link : Fin 4) (view : BitVec 64) (refdep : Bool) (hops : BitVec 6) (s : State) : Out State :=
  .next (takeMembers s link view.toNat refdep hops.toNat)

/-- The view of a link's peer is older than 4 ms (R414). -/
def viewAged (s : State) (x : Link) : Bool :=
  match x.view with | some v => decide (v.tick + fourMs < s.now) | none => false

/-- Views older than 4 ms leave the view (R414); a peer that has stopped its MEMBERS messages is no member any more, so that
its direction is not ALIGNED (R421, R424; DEDUCED, log 138). -/
def execMemberViewAgeout (s : State) : Out State :=
  let old := (s.links.filter (fun e => viewAged s e.2)).map (fun e => e.1)
  let s := old.foldl (fun s k => s.modLink k (fun x => { x with view := none, peerAdm := false })) s
  .next (refreshHops (old.foldl (fun s k => if (s.link k).rx = .aligned then setRx s k .up else s) s))

/-! ### Sent frames (R396, R399, R400, R406) -/

/-- Bits of a transmit direction in one tick: `data` is the frame, or none for training frames. -/
def sendLine (s : State) (k : Nat) (data : Option Nat) : State :=
  let x := s.link k
  let word (l p seed : Nat) (idle : Bool) : Nat :=
    trainWord (plane k l) p idle s.weave.device k (isMember s) x.rxok seed
  let r := (List.range 4).foldl (fun (a : Nat × Tbl Nat) p =>
    let l := txLane x p
    let d := scramble 150 (tget 0 a.2 l)
    let w := match data with
      | some f => laneBits f p ^^^ d.1
      | none => word l p d.2 false
    (a.1 + spreadBits w p, tset 0 a.2 l d.2)) (0, x.scr)
  let idle := x.txSpare.getD 4
  let d := scramble 150 (tget 0 r.2 idle)
  let s := s.modLink k (fun x => { x with scr := if x.spareEn then tset 0 r.2 idle d.2 else r.2 })
  s.send (.frame k r.1 (if x.spareEn then word idle 0 d.2 true else 0))

/-- The control message of this frame, by its payload: a SLEEP countdown, a SPARE_AT countdown, a SPARE_REQ, a
TSTAMP, MEMBERS (R406; DESIGN CHOICE, log 34). -/
def nextControl (s : State) (k : Nat) : Option (Nat × State) :=
  let x := s.link k
  match x.sleepReq with
  | some { deep, count := some c, .. } =>
    let p := pack [(1, 8), (if deep then 2 else 1, 2), (c, 4)]
    if c = 0 then
      some (p, setTx (s.modLink k (fun x => { x with sleepReq := none })) k (if deep then .sleepDeep else .sleepLight))
    else some (p, s.modLink k (fun x => { x with sleepReq := x.sleepReq.map (fun r => { r with count := some (c - 1) }) }))
  | _ => match x.spareAt with
    | some r =>
      let p := pack [(2, 8), (r.pos, 2), (b2n r.unspare, 1), (r.count, 3)]
      if r.count = 0 then
        some (p, spareSwitch (s.modLink k (fun x => { x with spareAt := none })) k r.pos r.unspare false)
      else some (p, s.modLink k (fun x => { x with spareAt := some { r with count := r.count - 1 } }))
    | none => match x.spareReq with
      | some (pos, un) => some (pack [(3, 8), (pos, 2), (b2n un, 1)], s.modLink k (fun x => { x with spareReq := none }))
      | none =>
        if x.tstampDue then
          let r := x.stamped.getD (0, 0)
          some (pack [(4, 8), (s.st, 64), (r.1, 64), (enc 64 (r.2 / 64), 64), ((r.2 % 64).toNat, 6)],
            s.modLink k (fun x => { x with tstampDue := false }))
        else if x.membersDue then
          let dep := s.weave.refSrc && s.weave.role == .member && wUplink s.weave.config == k
          some (pack [(5, 8), (view s, 64), (b2n dep, 1), (s.weave.hops, 6)],
            s.modLink k (fun x => { x with membersDue := false }))
        else none

/-- The Shuttle of this frame: a retransmission, the head of the transit queue, a local one (R396, R413). -/
def nextShuttle (s : State) (k : Nat) : Option (Nat × State) :=
  let x := s.link k
  let fresh (p : Nat) (g : Link → Link) : Option (Nat × State) :=
    let q := sealShuttle p x.sseq
    some (q, s.modLink k (fun x =>
      let x := g x
      { x with sseq := (x.sseq + 1) % 1024, unacked := x.unacked ++ [(x.sseq, q)], cursor := x.cursor + 1
               progress := if x.unacked.isEmpty then s.now else x.progress }))
  match x.unacked[x.cursor]? with
  | some e => some (e.2, s.modLink k (fun x => { x with cursor := x.cursor + 1 }))
  | none =>
    if x.sleepReq.isSome || decide (x.unacked.length ≥ 512) then none
    else match x.transit with
      | p :: _ => fresh p (fun x => { x with transit := x.transit.drop 1 })
      | [] => x.local_.bind (fun p => fresh p (fun x => { x with local_ := none }))

/-- The Warp field of link `k`: a member's link with a wrong peer relays nothing (R415). -/
def warpField (s : State) (k y : Nat) : Nat :=
  if isMember s && !topoOk s k then
    exportField { s with warp := { s.warp with binds := s.warp.binds.filter (fun e => decide (e.2 ≤ 512)) } } k y
  else exportField s k y

/-- A data frame of this tick: header, Warp field, payload, check (R395, R396). -/
def sendFrame (s : State) (k : Nat) : State :=
  let y := stTick s
  let x := s.link k
  let s := s.modLink k (fun x => { x with
    tstampDue := x.tstampDue || y % 1024 == 0
    membersDue := isMember s && (x.membersDue || y % 750000 == 0)
    sleepReq := x.sleepReq.map (fun r =>
      if r.count.isNone && x.spareAt.isNone && (x.unacked.isEmpty || decide (r.until_ ≤ s.now)) then
        { r with count := some 15 } else r) })
  let warp := warpField s k y
  let pick : Nat × Nat × State := match nextControl s k with
    | some (p, t) => (2, p, t)
    | none => match nextShuttle s k with
      | some (p, t) => (1, p, t)
      | none => (0, 0, s)
  let head := pack [(pick.1, 2), ((x.expected + 1023) % 1024, 10), (b2n x.nak, 1), (y % 8, 3)]
  let f := bchEncode (head + warp * 2 ^ 16 + pick.2.1 * 2 ^ 80)
  -- the bits leave on the lanes as they stood before the message takes effect
  let sent := sendLine s k (some f)
  let scr := (sent.link k).scr
  { (pick.2.2.modLink k (fun x => { x with scr := scr })) with sent := sent.sent.take 1 ++ pick.2.2.sent }

/-- FRAME_TRANSMIT (R396): in every tick each transmit direction that is neither OFF nor asleep sends a frame. -/
def execFrameTransmit (link : Fin 4) (s : State) : Out State :=
  let k := link.val
  let x := s.link k
  .next (match x.tx with
    | .train => sendLine s k none
    | .wake => if s.now < x.wakeAt then sendLine s k none else sendFrame (setTx s k .up) k
    | .up => sendFrame s k
    | _ => s)

/-- SHUTTLE_RESEND_TIMEOUT (R413): 256 ticks without progress resend from ACK + 1. The time-out is suspended
while the receive direction sleeps (R407). -/
def execShuttleResendTimeout (link : Fin 4) (s : State) : Out State :=
  let k := link.val
  let x := s.link k
  .next (if x.unacked.isEmpty || x.rx == .sleep || x.tx != .up || decide (s.now < x.progress + 256) then s
    else retryLimit (s.modLink k (fun x => { x with cursor := 0, resends := x.resends + 1, progress := s.now })) k)

/-! ### Local Shuttles (11 R306) -/

/-- A Shuttle of this device from its Spool entry. -/
def localShuttle (s : State) (owner e : Nat) : Nat :=
  pack [(0, 10), (s.weave.device, 6), (fld e 0 6, 6), (fld e 8 6, 6), (owner, 4), (fld e 16 16, 16), (0, 6), (0, 10),
    (fld e 128 384, 384)]

/-- SHUTTLE_SEND (11 R306, R416): the link controllers consume the entry at CI of a Shuttle Spool. `fetched` is
what a read of a ring in host memory delivers. An entry that cannot be read is consumed and goes nowhere
(DEDUCED, log 35). -/
def execShuttleSend (spool : Fin 65536) (fetched : Option (BitVec 512)) (s : State) : Out State :=
  let n := spool.val
  let s := if (s.spool n).cls = 3 then readDesc s n else s
  let p := s.spool n
  .next (
    if !spoolLive p || p.cls != 3 || occupancy p == 0 || !ringReady s p then s
    else
      let r := if p.target = 0 then ([], false, []) else ringRead s p p.ci
      let e : Option Nat := if p.target = 0 then fetched.map (fun v => v.toNat)
        else if r.2.1 then none else some (leNat r.1)
      let took := consume (if p.target = 0 then hostFetch s ((fnOfPart s p.owner).getD 0) (slotAddr p p.ci) 64
        else memEvents s p.owner .link r.2.2) n
      match e with
      | none => took
      | some e =>
        let head := (e % 2 ^ 32 + p.owner * 2 ^ 32) % 2 ^ 36
        let sh := localShuttle s p.owner e
        if !bit (view s) (fld e 0 6) then errRecord took p.owner (spoolRecord 4 n 1 s.st head)
        else match route s (fld e 0 6) with
          | none => arrive took sh
          | some o =>
            let x := s.link o
            if x.tx == .sleepLight || x.tx == .sleepDeep || x.tx == .wake || x.sleepReq.isSome || x.local_.isSome then s
            else if x.tx != .up || !x.peerAdm then lose took o 0 sh 1
            else took.modLink o (fun x => { x with local_ := some sh }))

/-! ### Events of the lanes (R401 to R405, R410) -/

/-- LINK_ACQUIRE_DONE (R401): step 1 ends. -/
def execLinkAcquireDone (link : Fin 4) (s : State) : Out State :=
  .next (if (s.link link).rx = .acquire then setRx s link .align else s)

/-- LANE_ALIGN_CHECK (R402): the marker is found at the present boundary, or the lane slips one bit. When every
lane has it the lanes are deskewed, or their skew is beyond 449 bits (R403; DESIGN CHOICE, log 33). -/
def execLaneAlignCheck (link : Fin 4) (lane : Fin 5) (found : Bool) (s : State) : Out State :=
  let k := link.val
  let x := s.link k
  .next (
    if x.rx != .align || !(searched x).contains lane.val || (s.lane k lane).found then s
    else if found then
      let s := s.modLane k lane (fun y => { y with found := true })
      if (searched x).all (fun l => (s.lane k l).found) then
        let w := Config.laneSkew s.freeCtr
        let s := { s with freeCtr := s.freeCtr + 1 }
        if w > 449 then failStart s k 4 else setRx (s.modLink k (fun x => { x with skew := w })) k .deskew
      else s
    else if (s.lane k lane).slips ≥ 149 then failStart s k 3
    else s.modLane k lane (fun y => { y with slips := y.slips + 1 }))

/-- 100 ms in ticks (R401). -/
def bringupTicks : Nat := 75000000

/-- A direction of the link has not reached UP since the last restart (R401). -/
def comingUp (x : Link) : Bool := x.tx == .train || x.rx == .acquire || x.rx == .align || x.rx == .deskew

/-- LINK_BRINGUP_TIMEOUT (R401). -/
def execLinkBringupTimeout (link : Fin 4) (s : State) : Out State :=
  let x := s.link link
  .next (if x.en && comingUp x && decide (x.startAt + bringupTicks ≤ s.now) then failStart s link 5 else s)

/-- LANE_CDR_LOSS (R404, R410, R411): the lane at a position, or the claimed spare as 4, loses CDR lock. -/
def execLaneCdrLoss (link : Fin 4) (pos : Fin 5) (s : State) : Out State :=
  let k := link.val
  let x := s.link k
  .next (
    if !(x.rx == .up || x.rx == .aligned) then s
    else if pos.val = 4 then
      if x.sparePos.isSome then linkDown (linkHit s k kLaneFail) k 1 else s
    else if spareFree x then badLane s k pos
    else linkDown (badLane s k pos) k 1)

/-- LANE_ERROR_WINDOW (R410): at the end of each 1 ms. -/
def execLaneErrorWindow (link : Fin 4) (pos : Fin 5) (s : State) : Out State :=
  let k := link.val
  let x := s.link k
  let over_ := decide (x.laneErr < (s.lane k pos).window)
  let s := s.modLane k pos (fun y => { y with window := 0 })
  let used := (List.range 4).find? (fun p => rxLane x p == pos.val)
  .next (match used with
    | some p => if over_ && (x.rx == .up || x.rx == .aligned) then badLane s k p else s
    | none => s)

/-- EYE_MEASURE (R405): the margin of a position's lane, and the coefficients its adaptation has reached. -/
def execEyeMeasure (link : Fin 4) (pos : Fin 4) (margin : BitVec 8) (coeffs : BitVec 64) (s : State) : Out State :=
  let k := link.val
  let x := s.link k
  let l := rxLane x pos
  let m := margin.toNat
  .next (
    if !(x.rx == .up || x.rx == .aligned || x.rx == .deskew) then s
    else
      let now_ (y : Lane) : BitVec 64 := if x.adapt && !y.frozen then coeffs else y.coeffs
      if x.eyeMin ≤ m then s.modLane k l (fun y => { y with margin := m, coeffs := now_ y, good := now_ y })
      else
        let s := s.modLane k l (fun y => { y with margin := m, coeffs := y.good, frozen := true })
        linkEvt (linkRecord (linkHit s k kAdaptGuard) 0x43 k 1 (plane k l) pos 0 0) k)

/-- TRIM_STEP (R423): once per second a tracking member moves REF_TRIM by at most one step against the averaged θ, OFFSET. -/
def execTrimStep (_ : Unit) (s : State) : Out State :=
  let w := s.weave
  let t : Int := (w.refTrim : Int) - (if w.offset < 0 then -1 else if 0 < w.offset then 1 else 0)
  .next (if w.role != .member || !wTrack w.config then s
    else if t < 0 || t > 6143 then weaveHit s kTrimLimit
    else { s with weave := { w with refTrim := t.toNat } })

end Sys2Proof.Machine
end

