-- ==== Sys2Proof/Machine/Weave.lean ====
section
/-! DEFINITION. Commands of the Weave links (15 R408, R410, R418, R419, R424, R426 to R430). -/

namespace Sys2Proof.Machine

/-! ### LINK_CFG (R409, R426) -/

def linkCfgRsv : List (Nat × Nat) := [(6, 10), (24, 8), (48, 16), (80, 176)]

/-- LINK_CFG before any command. -/
def linkCfgDefault (k : Nat) : Nat := k + 0x30 + 15 * 2 ^ 16 + 1000 * 2 ^ 32

/-- The link that the device takes its time from, or is about to (R426). -/
def isUplink (s : State) (k : Nat) : Bool :=
  (s.weave.role == .member && wUplink s.weave.config == k)
    || (match s.weave.admission with | some a => fld a.blk 19 2 == k | none => false)

def linkCfgBody (c : Call) (s : State) : Result :=
  let b := c.blk
  let k := fld b 0 2
  let en := bit b 2
  let st := storeImage s 0x0D01 0x24 k 32 (linkCfgDefault k) (b % 2 ^ 80)
  let t := st.1.modLink k (fun x => { x with
    scr := if bit b 3 && !x.spareEn then tset 0 x.scr 4 (scramblerInit (plane k 4)) else x.scr
    en := en, spareEn := bit b 3, autoSpare := bit b 4, adapt := bit b 5, eyeMin := fld b 16 8
    laneErr := fld b 32 16, asym := sgn 16 (fld b 64 16) })
  checked s (0x24, k)
    [(!rsvOk b linkCfgRsv || fld b 32 16 == 0, .badParam), (!en && isUplink s k, .busy),
     (bit b 3 && (s.link (k ^^^ 1)).spareEn, .busy)]
    (done (if !en then stopLink t k else if !(s.link k).en && s.time.refclk then startLink t k else t) [st.2])

def execLinkCfg (c : Frame) (s : State) : Out State := .next (serve { op := 0x0D01, pf0 := true } c s linkCfgBody)

/-! ### LINK_CTL (R407, R408, R427) -/

/-- What each action checks beyond the block's form, and does. -/
def linkCtlBody (act : Nat) (checks : State → Nat → Nat → List (Bool × Status)) (eff : State → Nat → Nat → State)
    (c : Call) (s : State) : Result :=
  let k := fld c.blk 0 2
  let pos := fld c.blk 5 2
  checked s (0x24, k) ([(fld c.blk 2 3 != act || fld c.blk 7 121 != 0, .badParam)] ++ checks s k pos)
    (done (eff s k pos) [])

def execLinkRetrain (c : Frame) (s : State) : Out State :=
  .next (serve { op := 0x0D02, pf0 := true } c s
    (linkCtlBody 0 (fun s k _ => [(!(s.link k).en || !s.time.refclk, .linkDown)]) (fun s k _ => startLink s k)))

/-- The peer takes its reference from this direction (R408). -/
def peerDepends (s : State) (k : Nat) : Bool :=
  match (s.link k).view with
  | some v => v.refdep && decide (s.now ≤ v.tick + fourMs)
  | none => false

def sleepChecks (s : State) (k _pos : Nat) : List (Bool × Status) :=
  [((s.link k).tx != .up, .linkDown), (peerDepends s k || (s.link k).sleepReq.isSome, .busy)]

def execLinkSleepLight (c : Frame) (s : State) : Out State :=
  .next (serve { op := 0x0D02, pf0 := true } c s (linkCtlBody 1 sleepChecks (fun s k _ => beginSleep s k false false)))

def execLinkSleepDeep (c : Frame) (s : State) : Out State :=
  .next (serve { op := 0x0D02, pf0 := true } c s (linkCtlBody 2 sleepChecks (fun s k _ => beginSleep s k true false)))

/-- The wake of a sleeping direction (R407). -/
def wakeLink (s : State) (k : Nat) : State :=
  let n := if (s.link k).tx = .sleepDeep then 75000 else 1500
  setTx (s.modLink k (fun x => { x with wakeAt := s.now + n })) k .wake

def execLinkWake (c : Frame) (s : State) : Out State :=
  .next (serve { op := 0x0D02, pf0 := true } c s
    (linkCtlBody 3 (fun s k _ => [((s.link k).tx != .sleepLight && (s.link k).tx != .sleepDeep, .busy)])
      (fun s k _ => wakeLink s k)))

def execLinkAdaptResume (c : Frame) (s : State) : Out State :=
  .next (serve { op := 0x0D02, pf0 := true } c s
    (linkCtlBody 4 (fun _ _ _ => [])
      (fun s k _ => (List.range 5).foldl (fun s l => s.modLane k l (fun y => { y with frozen := false })) s)))

def execLinkSpare (c : Frame) (s : State) : Out State :=
  .next (serve { op := 0x0D02, pf0 := true } c s
    (linkCtlBody 5
      (fun s k _ => [(!(s.link k).spareEn || (s.link k).sparePos.isSome, .busy), ((s.link k).tx != .up, .linkDown)])
      (fun s k pos => s.modLink k (fun x => { x with spareReq := some (pos, false) }))))

def execLinkUnspare (c : Frame) (s : State) : Out State :=
  .next (serve { op := 0x0D02, pf0 := true } c s
    (linkCtlBody 6 (fun s k _ => [((s.link k).tx != .up, .linkDown)])
      (fun s k _ => match (s.link k).sparePos with
        | some p => s.modLink k (fun x => { x with spareReq := some (p, true) })
        | none => s)))

/-! ### LINK_STATUS (R428) -/

def linkStatusBody (c : Call) (s : State) : Result :=
  let k := fld c.blk 0 2
  let corr := fld c.blk 64 32
  checked s (0x24, k)
    [(statusReqBad c 2 512 linkMap || (c.clear && corr != 0 && corr != 0xFFFFFFFF), .badParam),
     (c.clear && c.func != 0, .partDenied)]
    (report (if c.clear then s.modLink k (fun x => { x with
        flags := clearFlags s.now linkMap c.blk x.flags, corrBits := if corr = 0 then 0 else x.corrBits }) else s)
      (leBytes 64 (linkImage s k)))

def execLinkStatus (c : Frame) (s : State) : Out State := .next (serve { op := 0x0D03 } c s linkStatusBody)

/-! ### WEAVE_ADMIT (R418, R419, R424, R429) -/

/-- The blocks of R429 that fail with BAD_PARAM, but for a MEMBERS mask that omits DEVICE. SIZE_X has 6 bits,
so that a RING of 64 cannot be written: 0 is refused as any size below 2 (DEDUCED, log 143). -/
def admitForm (b : Nat) : Bool :=
  let x := fld b 9 6
  let y := fld b 15 4
  let count := if bit b 8 then x * y else x
  let dev := fld b 2 6
  let root := fld b 23 6
  let sizes := if bit b 8 then decide (2 ≤ x) && decide (x ≤ 8) && decide (2 ≤ y) && decide (y ≤ 8)
    else decide (2 ≤ x) && y == 0
  fld b 29 35 != 0 || !sizes || decide (count ≤ dev) || decide (count ≤ root) || !bit b (64 + root)

/-- The MEMBERS mask omits DEVICE: BAD_PARAM of a ROOT admission (R429), REASON 3 of a MEMBER admission (R419). -/
def admitOmits (b : Nat) : Bool := !bit b (64 + fld b 2 6)

/-- The device takes its place in the Weave. -/
def joinWeave (s : State) (b : Nat) (r : Role) : State :=
  let s := { s with weave := { s.weave with
    device := fld b 2 6, role := r, config := fld b 8 21, members := fld b 64 64, hops := 0, reason := 0
    refSrc := r == .member && bit b 21, admission := none, lost := false } }
  (List.range 4).foldl (fun s k => if (s.link k).rx == .up then checkTopo s k else s) s

def weaveObj : Nat × Nat := (0x2A, 0)

def admitRootBody (c : Call) (s : State) : Result :=
  let b := c.blk
  let st := storeImage s 0x0D04 0x2A 0 16 0 b
  checked s weaveObj
    [(fld b 0 2 != 0 || admitForm b || admitOmits b || fld b 2 6 != fld b 23 6, .badParam),
     (s.time.mode != .set || !s.time.root, .noEpoch), (s.weave.admission.isSome, .busy)]
    (done (joinWeave st.1 b .root) [st.2])

def execWeaveAdmitRoot (c : Frame) (s : State) : Out State :=
  .next (serve { op := 0x0D04, pf0 := true } c s admitRootBody)

/-- The protocol version of a peer is tested (13 R356). -/
def protoTested (s : State) (v : Nat) : Bool :=
  match s.gaf.running with | some i => formatTested i 72 v | none => false

/-- The first row of R419 that fails: its REASON and status. -/
def memberFail (s : State) (b : Nat) : Option (Nat × Status) :=
  let k := fld b 19 2
  let x := s.link k
  if s.time.mode == .set || s.time.epochAt.isSome then some (7, .epochHeld)
  else if (List.range 4).any (fun q => (s.quad q).state != .off) then some (6, .busy)
  else if x.tx != .up || (x.rx != .up && x.rx != .aligned) then some (1, .linkDown)
  else if !protoTested s x.peerProto then some (4, .incompatible)
  else if neighbour (fld b 8 21) (fld b 2 6) k != some (x.peerDev, x.peerLink) || admitOmits b then some (3, .badParam)
  else if !x.peerAdm then some (2, .linkDown)
  else if tooFar x then some (5, .badParam)
  else none

/-- WEAVE_ADMIT MEMBER (R419): the response waits for the exchanges and the load of ST. -/
def admitMemberBody (c : Call) (s : State) : Result :=
  let b := c.blk
  checked s weaveObj
    [(fld b 0 2 != 1 || admitForm b, .badParam), (s.weave.admission.isSome || !s.time.refclk, .busy)]
    (match memberFail s b with
     | some (r, st) => { status := st, next := { s with weave := { s.weave with reason := r } } }
     | none => waiting { s with weave := { s.weave with
         thetas := [], refSrc := bit b 21
         admission := some { func := c.func, tag := c.tag, blk := b, oldSrc := s.weave.refSrc, oldTrim := s.weave.refTrim,
                             oldPhase := s.time.slowPhase } } })

def execWeaveAdmitMember (c : Frame) (s : State) : Out State :=
  .next (serve { op := 0x0D04, pf0 := true } c s admitMemberBody)

/-- What R40 asks for: no run, no pending START_AT, no window in flight. -/
def releaseBusy (s : State) : Bool :=
  s.looms.any (fun e => loomActive e.2) || s.caps.any (fun e => e.2.state == .armed && !e.2.trig)
    || s.rts.any (fun e => e.2.windows.any (fun w => w.inFlight (stTick s)))

def admitLeaveBody (c : Call) (s : State) : Result :=
  let st := storeImage s 0x0D04 0x2A 0 16 0 0
  let t := { st.1 with
    time := { st.1.time with mode := .free, root := false }
    weave := { st.1.weave with
      device := 0, role := .none, config := 0, members := 0, hops := 0, refSrc := false, thetas := [], lost := false } }
  checked s weaveObj
    [(fld c.blk 0 2 != 2 || fld c.blk 29 35 != 0, .badParam),
     (s.weave.admission.isSome || s.time.epochAt.isSome || releaseBusy s, .busy)]
    (done ((List.range 4).foldl (fun s k => if (s.link k).rx == .aligned then setRx s k .up else s) t) [st.2])

def execWeaveAdmitLeave (c : Frame) (s : State) : Out State :=
  .next (serve { op := 0x0D04, pf0 := true } c s admitLeaveBody)

/-! ### WEAVE_STATUS (R430) -/

def weaveMap : FlagMap := [(192, 224), (193, 240)]

def roleCode : Role → Nat
  | .none => 0 | .root => 1 | .member => 2

def weaveImage (s : State) : Nat :=
  let w := s.weave
  pack [(w.device, 6), (roleCode w.role, 2), (w.config, 21), (w.hops, 6), (w.reason, 4), (0, 25), (if isMember s then view s else 0, 64),
    (enc 20 w.offset, 20), (0, 12), (w.refTrim, 13), (0, 19)] + flagImage weaveMap w.flags

def weaveStatusBody (c : Call) (s : State) : Result :=
  checked s weaveObj
    [(statusReqBad c 0 512 weaveMap, .badParam), (c.clear && c.func != 0, .partDenied)]
    (report (if c.clear then { s with weave := { s.weave with flags := clearFlags s.now weaveMap c.blk s.weave.flags } } else s)
      (leBytes 64 (weaveImage s)))

def execWeaveStatus (c : Frame) (s : State) : Out State := .next (serve { op := 0x0D05 } c s weaveStatusBody)

end Sys2Proof.Machine
end

