-- ==== Sys2Proof/Machine/Lehr.lean ====
section
/-! DEFINITION. Lehr: sensors, thresholds, orderly stops, supply events (18 R471 to R485). -/

namespace Sys2Proof.Machine

def setLehr (s : State) (f : Lehr → Lehr) : State := { s with lehr := f s.lehr }

def hWarn : Nat := 64
def hRate : Nat := 65
def hSuspect : Nat := 66
def hSupply : Nat := 67
def hDroop : Nat := 68
def hRoundMiss : Nat := 69
def hStop : Nat := 71

def lehrHit (s : State) (f : Nat) : State := setLehr s (fun x => { x with flags := hit s.now x.flags f })

/-- A record of Lehr, to the error Spool of PT0 (R485). -/
def lehrRecord (s : State) (kind unit cause : Nat) (reading : Int) : State :=
  errRecord s 0 (leBytes 32 (pack [(kind, 16), (unit, 8), (cause, 8), (enc 16 reading, 16), (0, 16), (s.st, 64)]))

/-! ### Orderly stops (R477, R478) -/

/-- The Looms of a scope: none the device, else a quadrant. -/
def inScope (scope : Option Nat) (l : Nat) : Bool := match scope with | none => true | some q => quadOfLoom l == q

def scopeByte : Option Nat → Nat
  | none => 0 | some q => 1 + q

/-- The STOP notice (R477). -/
def stopNotice (s : State) (scope : Option Nat) (cause begin_ grace : Nat) : State :=
  event s 0 0x8005 (leBytes 24 (pack [(scopeByte scope, 8), (cause, 8), (0, 48), (begin_, 64), (grace, 64)]))

def stopOf (s : State) (scope : Option Nat) : Option StopRun :=
  match scope with | none => s.lehr.dev | some q => quadStop s q

def setStop (s : State) (scope : Option Nat) (r : Option StopRun) : State :=
  setLehr s (fun x => match scope with
    | none => { x with dev := r }
    | some q => { x with quads := tset none x.quads q r })

/-- The Ledger entry, CAUSE and STOPFLAG of a stop that begins, or a trip (20 R512, R514). -/
def stopLogged (s : State) (scope : Option Nat) (cause : Nat) : State :=
  ledgerNote (setLehr s (fun x => { x with cause := cause, flags := hit s.now x.flags hStop })) fromLehr 0x28
    (cause + 16 * scopeByte scope) 0x8008

/-- A trigger of an orderly stop in the present tick (R477, R478): it begins the stop, or adds its cause. -/
def beginStop (s : State) (scope : Option Nat) (cause : Nat) : State :=
  if s.lehr.tripped then s
  else
    let covering := if s.lehr.dev.isSome then none else scope
    match stopOf s covering with
    | some r => setLehr (setStop s covering (some { r with causes := cause :: r.causes })) (fun x => { x with cause := cause })
    | none =>
      let s := setStop s scope (some { begin_ := s.now, st := s.st, causes := [cause] })
      stopNotice (uncore (stopLogged (markLooms s (inScope scope) cStop) scope cause) 14) scope cause s.st 0

/-- No shot that ran at the begin of the stop runs in the scope, and none ended in the present tick. -/
def shotsOver (s : State) (scope : Option Nat) : Bool :=
  s.looms.all (fun e => !inScope scope e.1
    || (e.2.state != .running && e.2.marks.all (fun m => m.ended != some s.now)))

/-- The grace phase is over in the present tick (R477). -/
def graceOver (s : State) (scope : Option Nat) (r : StopRun) : Bool :=
  r.grace.isSome || decide (r.begin_ + s.lehr.stopGrace * 750 ≤ s.now) || (decide (r.begin_ < s.now) && shotsOver s scope)

/-- G: shots end with RUNLOST, the STOP mute holds, the second notice. -/
def atGrace (s : State) (scope : Option Nat) (r : StopRun) : State :=
  let s := ((List.range 96).filter (fun l => inScope scope l && (s.loom l).state == .running)).foldl
    (fun s l => cutRun s l false lRunLost) s
  stopNotice (setStop s scope (some { r with grace := some s.now, step := 1 })) scope (r.causes.getLastD 0) r.st s.st

/-- G + 16: the links' transmit directions begin to sleep (R477). -/
def stopLinks (s : State) (scope : Option Nat) : State :=
  if scope.isSome then s
  else (List.range 4).foldl (fun s k => if (s.link k).tx = .up then beginSleep s k true true else s) s

/-- G + 32: the quadrants of the scope are OFF, and the STOP_END record. -/
def stopOff (s : State) (scope : Option Nat) (r : StopRun) : State :=
  let qs := match scope with | none => [0, 1, 2, 3] | some q => [q]
  lehrRecord (qs.foldl (fun s q => enterOff (dropQuadPower s q) q) s) 0x69 0 (r.causes.getLastD 0) 0

/-- The steps of a stop that are due in the present tick (R477). -/
def stopSteps (s : State) (scope : Option Nat) : State :=
  let s := match stopOf s scope with
    | some r => if r.step = 0 && graceOver s scope r then atGrace s scope r else s
    | none => s
  let s := match stopOf s scope with
    | some r => if 1 ≤ r.step && !r.safe && scope.isNone && slowNow s then
        setStop (biasSafe s) scope (some { r with safe := true }) else s
    | none => s
  let s := match stopOf s scope with
    | some r => if r.step = 1 && decide (r.grace.getD 0 + 16 ≤ s.now) then
        setStop (stopLinks s scope) scope (some { r with step := 2 }) else s
    | none => s
  match stopOf s scope with
  | some r => if r.step = 2 && decide (r.grace.getD 0 + 32 ≤ s.now) then
      setStop (stopOff s scope r) scope (some { r with step := 3 }) else s
  | none => s

def scopeOf (n : Nat) : Option Nat := if n = 0 then none else some (n - 1)

def execStopGraceEnd (scope : Fin 5) (s : State) : Out State := .next (stopSteps s (scopeOf scope))

/-- A GRACE_CUT ends the grace phase of every scope in progress (R478). -/
def graceCutAll (s : State) : State :=
  (List.range 5).foldl (fun s n =>
    match stopOf s (scopeOf n) with
    | some r => if r.step = 0 then stopSteps (setStop s (scopeOf n) (some { r with grace := some s.now })) (scopeOf n) else s
    | none => s) s

/-! ### Release (R479) -/

/-- A cause still holds: in quadrant scope of quadrant `q`. -/
def causeHolds (s : State) (q : Option Nat) (c : Nat) : Bool :=
  let qs := match q with | some q => [q] | none => [0, 1, 2, 3]
  let bad (r : Nat) : Bool := bit s.lehr.uv r || bit s.lehr.ov r
  match c with
  | 1 => decide (s.lehr.maximum ≥ s.lehr.stop)
  | 2 => tget false s.lehr.disarmed 3
  | 4 => (List.range 6).any bad
  | 5 => qs.any (fun q => bad (7 + q) || bad (11 + q))
  | 6 => bad 6
  | 8 => qs.any (fun q => (s.quad q).pllStop && !(s.quad q).pll)
  | 9 => !s.time.refclk
  | _ => false

def stopClear (s : State) (scope : Option Nat) : Bool :=
  match stopOf s scope with
  | none => true
  | some r => r.step == 3 && (scope.isSome || r.safe) && !r.causes.any (causeHolds s scope)

/-- RELEASE clears the holds (R479). -/
def releasable (s : State) : Bool :=
  !s.lehr.tripped && (List.range 5).all (fun n => stopClear s (scopeOf n))
    && decide (s.lehr.maximum + s.lehr.hyst ≤ s.lehr.stop)

def held (s : State) : Bool := s.lehr.tripped || (List.range 5).any (fun n => (stopOf s (scopeOf n)).isSome)

/-! ### LEHR_CFG (R483) -/

def lehrDefault : Nat :=
  pack [(2000, 16), (2240, 16), (2320, 16), (80, 8), (16, 8), (64, 8), (0, 8), (5000, 16)]

def lehrBad (b : Nat) : Bool :=
  decide (fld b 0 16 ≥ fld b 16 16) || decide (fld b 16 16 > fld b 32 16) || decide (fld b 32 16 > 2368)
    || decide (fld b 56 8 ≥ fld b 64 8) || decide (fld b 48 8 < 16) || fld b 56 8 == 0 || decide (fld b 64 8 < 2)
    || decide (fld b 80 16 > 20000) || fld b 72 8 != 0 || fld b 103 153 != 0

/-- The thresholds of a LEHR_CFG, and its Ledger item. -/
def lehrSet (s : State) (b : Nat) : State × LedgerItem :=
  let st := storeImage s 0x1001 0x28 0 32 lehrDefault (b % 2 ^ 96)
  (setLehr st.1 (fun x => { x with
    warn := fld b 0 16, stop := fld b 16 16, graceCut := fld b 32 16, hyst := fld b 48 8
    rateAlarm := fld b 56 8, rateStop := fld b 64 8, stopGrace := fld b 80 16 }), st.2)

def lehrCfgBody (act : Nat) (more : List (Bool × Status)) (eff : State → State) (k : Call) (s : State) : Result :=
  checked s (0x28, 0) ([(fld k.blk 96 2 != act || lehrBad k.blk, .badParam)] ++ more)
    (let r := lehrSet s k.blk
     done (eff r.1) [r.2])

def execLehrCfg (c : Frame) (s : State) : Out State :=
  .next (serve { op := 0x1001, pf0 := true } c s (lehrCfgBody 0 [] id))

/-- The holds end; bias channels stay SAFE and quadrants OFF (R479). -/
def releaseHolds (s : State) : State := setLehr s (fun x => { x with dev := none, quads := [] })

def execLehrRelease (c : Frame) (s : State) : Out State :=
  .next (serve { op := 0x1001, pf0 := true } c s fun k s =>
    lehrCfgBody 1 [(held s && !releasable s, .busy)] releaseHolds k s)

/-- A sensor changes between suspect and not (R473, R475). -/
def setSuspect (s : State) (i : Nat) (v : Bool) : State :=
  setLehr s (fun x => { x with
    suspects := tset false x.suspects i v, deviant := tset 0 x.deviant i 0, changed := tset 0 x.changed i 1 })

def execLehrReinstate (c : Frame) (s : State) : Out State :=
  .next (serve { op := 0x1001, pf0 := true } c s fun k s =>
    let i := fld k.blk 98 5
    lehrCfgBody 2 [(!isSuspect s i, .badParam)] (fun s => setSuspect s i false) k s)

/-! ### LEHR_STATUS (R484) -/

def lehrState (s : State) : Nat :=
  if s.lehr.tripped then 3
  else match s.lehr.dev with
    | some r => if r.step = 3 then 2 else 1
    | none => 0

def lehrMap : FlagMap := (List.range 8).map (fun i => (64 + i, 128 + 16 * i))

def lehrImage (s : State) : Nat :=
  let x := s.lehr
  pack ([(enc 16 x.maximum, 16), (x.maxSensor, 5), (lehrState s, 3), (x.cause, 4)]
    ++ (List.range 4).map (fun q => (b2n (quadStop s q).isSome, 1))
    ++ (List.range 28).map (fun i => (b2n (isSuspect s i), 1)) ++ [(0, 4), (0, 8), (x.uv, 17), (x.ov, 17)])
  + flagImage lehrMap x.flags
  + pack ((List.range 28).map (fun i => (enc 16 (sensor s i), 16))) * 2 ^ 256

def lehrStatusBody (k : Call) (s : State) : Result :=
  checked s (0, 0)
    [(statusReqBad k 0 1024 lehrMap, .badParam), (k.clear && k.func != 0, .partDenied)]
    (report (if k.clear then setLehr s (fun x => { x with flags := clearFlags s.now lehrMap k.blk x.flags }) else s)
      (leBytes 128 (lehrImage s)))

def execLehrStatus (c : Frame) (s : State) : Out State := .next (serve { op := 0x1002 } c s lehrStatusBody)

/-! ### Rounds (R472) -/

/-- A round that was in progress at a load of ST is in progress still: it completes first (02 R39), and the
round of the load's own boundary is not begun (DEDUCED, log 110). -/
def roundKept (s : State) : Bool := match s.lehr.round with | some t => decide (t + 1 < s.time.loadedAt) | none => false

/-- A round begins (R472): one that has not been evaluated is dropped. It waits for a calibration of HK1 (19 R494). -/
def execLehrRound (s : State) : Out State :=
  .next (if !slowNow s || !counting s || s.st % 24000000 ≠ 0 || !(tget ({} : HkUnit) s.hk.units 1).refok
        || s.lehr.round = some s.now || roundKept s then s
    else
      let s := if s.lehr.round.isSome then lehrRecord (lehrHit s hRoundMiss) 0x68 0 0 0 else s
      let held := (tget ({} : HkUnit) s.hk.units 1).cal.isSome
      setLehr { s with hk := { s.hk with roundHeld := held } }
        (fun x => { x with round := some s.now, taken := 0, codes := [] }))

/-! ### Evaluation (R473 to R476) -/

/-- The sensor deviates by more than 12 °C from the mean of its neighbours that are not suspect (R473). -/
def deviates (s : State) (i : Nat) : Bool :=
  let l := ((neighbours i).filter (fun j => !isSuspect s j)).map (sensor s)
  !l.isEmpty && decide (((l.length : Int) * sensor s i - l.sum).natAbs > 192 * l.length)

/-- The cross-check of the sensors that are not suspect, against the suspects as they stood (R473). -/
def crossCheck (s0 : State) : State :=
  (List.range 28).foldl (fun s i =>
    if isSuspect s0 i then s
    else if !deviates s0 i then setLehr s (fun x => { x with deviant := tset 0 x.deviant i 0 })
    else
      let n := tget 0 s.lehr.deviant i + 1
      if n < 3 then setLehr s (fun x => { x with deviant := tset 0 x.deviant i n })
      else
        ledgerNote (lehrRecord (lehrHit (setSuspect s i true) hSuspect) 0x64 i 0 (sensor s i)) fromLehr 0x28 i 0x8007) s0

/-- The rise of region `i`; none: it has none (R475). -/
def rise (s : State) (i : Nat) : Option Int :=
  let n := tget 0 s.lehr.changed i
  if n != 0 && decide (n ≤ 101) then none
  else match s.lehr.history[99]? with
    | some l => some (regionReading s i - l.getD i 0)
    | none => none

/-- The region with the largest rise. -/
def steepest (s : State) : Option (Nat × Int) :=
  (List.range 28).foldl (fun b i =>
    match rise s i, b with
    | some r, some (j, m) => if r > m then some (i, r) else some (j, m)
    | some r, none => some (i, r)
    | none, _ => b) none

/-- The hottest region: the lowest sensor of the maximum (R474). -/
def hottest (s : State) : Nat × Int :=
  (List.range 28).foldl (fun b i => if regionReading s i > b.2 then (i, regionReading s i) else b) (0, regionReading s 0)

/-- The THERMAL notice (R476). -/
def thermalNotice (s : State) (i test : Nat) : State :=
  event s 0 0x8004 (leBytes 16 (pack [(enc 16 s.lehr.maximum, 16), (i, 8), (test, 8), (0, 32), (s.st, 64)]))

/-- Action `a` is armed: a test that holds acts once (R476). -/
def armedAct (s : State) (a : Nat) (cond : Bool) (rearm : Bool) (act : State → State) : State :=
  if cond then
    if tget false s.lehr.disarmed a then s
    else act (setLehr s (fun x => { x with disarmed := tset false x.disarmed a true }))
  else if rearm then setLehr s (fun x => { x with disarmed := tset false x.disarmed a false })
  else s

/-- The tests of R476. -/
def thermalTests (s : State) : State :=
  let m := s.lehr.maximum
  let i := s.lehr.maxSensor
  let h := s.lehr.hyst
  let up := steepest s
  let r : Int := match up with | some (_, v) => v | none => 0
  let j := match up with | some (j, _) => j | none => 0
  let s := armedAct s 0 (decide (m ≥ s.lehr.warn)) (decide (m + h ≤ s.lehr.warn)) (fun s =>
    thermalNotice (lehrRecord (uncore (lehrHit s hWarn) 12) 0x60 i 1 m) i 1)
  let s := armedAct s 1 (decide (r > s.lehr.rateAlarm)) true (fun s =>
    thermalNotice (lehrRecord (uncore (lehrHit s hRate) 13) 0x61 j 2 (regionReading s j)) j 2)
  let s := armedAct s 2 (decide (m ≥ s.lehr.stop)) (decide (m + h ≤ s.lehr.stop)) (fun s =>
    beginStop (lehrRecord s 0x62 i 1 m) none 1)
  let s := armedAct s 3 (decide (r > s.lehr.rateStop)) true (fun s =>
    beginStop (lehrRecord s 0x62 j 2 (regionReading s j)) none 2)
  if m ≥ s.lehr.graceCut && (match s.lehr.dev with | some d => d.step == 0 | none => false) then graceCutAll s else s

/-- A round of 68 conversions is evaluated 72 µs after its begin, or later (R472). -/
def execLehrEvaluate (s : State) : Out State :=
  .next (match s.lehr.round with
    | some t =>
      if s.lehr.taken < 68 || decide (s.now < t + 54000) then s
      else
        let read := (List.range 28).foldl (fun l i => tset 0 l i (sgn 16 (enc 16 (Config.thermal i (tget 0 s.lehr.codes i))))) []
        let s := setLehr s (fun x => { x with
          round := none, taken := 0, codes := [], reading := read
          changed := x.changed.filterMap (fun e => if e.2 ≤ 101 then some (e.1, e.2 + 1) else none) })
        let s := crossCheck s
        let top := hottest s
        let s := thermalTests (setLehr s (fun x => { x with maximum := top.2, maxSensor := top.1 }))
        setLehr s (fun x => { x with history := ((List.range 28).map (regionReading s) :: x.history).take 100 })
    | none => s)

/-! ### Supplies and the trip (R480, R481) -/

/-- A supply event on a rail: SUPPLY, UV or OV, UL15 and its record (R480). -/
def supplyEvent (s : State) (rail cause : Nat) (isOver : Bool) : State :=
  let put (v : Nat) : Nat := if bit v rail then v else v + 2 ^ rail
  let s := setLehr s (fun x => { x with
    flags := hit s.now x.flags hSupply, uv := if isOver then x.uv else put x.uv, ov := if isOver then put x.ov else x.ov })
  lehrRecord (uncore s 15) (if isOver then 0x66 else 0x65) rail cause 0

def execCoreOvervoltage (rail : Fin 6) (s : State) : Out State :=
  .next (beginStop (supplyEvent s rail 4 true) none 4)

def execVddAonOvervoltage (s : State) : Out State := .next (beginStop (supplyEvent s 6 6 true) none 6)

def execVddaRfSupplyEvent (quad : Fin 4) (high isOver : Bool) (s : State) : Out State :=
  let s := supplyEvent s ((if high then 11 else 7) + quad.val) 5 isOver
  .next (beginStop { s with power := { s.power with rfBad := tset false s.power.rfBad quad true } } (some quad.val) 5)

/-- A droop: no action beside its flag, UL15 and its record, at most one per rail in 1 ms (R480). -/
def execDroop (rail : Fin 17) (s : State) : Out State :=
  .next (if rail.val ≠ 0 && !(decide (7 ≤ rail.val) && decide (rail.val < 15)) then s
    else
      let s := uncore (lehrHit (lehrHit s hSupply) hDroop) 15
      let last := tget 0 s.lehr.droopAt rail
      if last != 0 && decide (s.now < last - 1 + 750000) then s
      else lehrRecord (setLehr s (fun x => { x with droopAt := tset 0 x.droopAt rail (s.now + 1) })) 0x67 rail 0 0)

/-- A comparator clears (R480): VDDA_RF is valid again once both rails of its quadrant are in their windows (R461). -/
def execSupplyComparatorClear (rail : Fin 17) (s : State) : Out State :=
  let off (v : Nat) : Nat := if bit v rail then v - 2 ^ rail.val else v
  let s := setLehr s (fun x => { x with uv := off x.uv, ov := off x.ov })
  .next (if decide (7 ≤ rail.val) && decide (rail.val < 15) then
      let q := (rail.val - 7) % 4
      { s with power := { s.power with rfBad := tset false s.power.rfBad q (causeHolds s (some q) 5) } }
    else s)

def execVddaBiasUndervoltage (negative isOver : Bool) (s : State) : Out State :=
  let s := biasClampAll (supplyEvent s (if negative then 16 else 15) 0 isOver)
  .next { s with power := { s.power with biasBad := true, biasLoad := false } }

/-- VDDA_BIAS is valid: the first time since power-on, the NV records load (07 R192, R202). -/
def execVddaBiasReturn (s : State) : Out State :=
  .next { s with power := { s.power with
    biasBad := false, biasFirst := false, biasLoad := s.power.biasLoad || s.power.biasFirst } }

def execNvLoadDone (s : State) : Out State :=
  .next (if s.power.biasLoad then { biasPowerUp s with power := { s.power with biasLoad := false } } else s)

/-- The analogue trip (R481): it overrides a stop in progress. -/
def execAnalogueTrip (s : State) : Out State :=
  .next (if s.lehr.tripped then s
    else
      let s := markLooms s (fun _ => true) cStop
      let s := (List.range 96).foldl (fun s l => if (s.loom l).state = .running then cutRun s l false lRunLost else s) s
      let s := biasHold (setLehr s (fun x => { x with tripped := true, dev := none, quads := [], cause := 3 }))
      ledgerNote (lehrRecord s 0x63 0 3 0) fromLehr 0x28 3 0x8008)

/-! ### Deferred commits (R482) -/

/-- Entries held in Gaffer SRAM are committed to MRAM once writes are allowed. -/
def execLedgerCommit (s : State) : Out State :=
  .next (if nvInhibit s then s else storeMap { s with ledger := { s.ledger with uncommitted := 0 } })

/-! ### PLL loss (17 R457) -/

def execPllLoss (quad : Fin 4) (s : State) : Out State :=
  let q := quad.val
  .next (if !(s.quad q).pll || quadOff s q then s
    else
      let s := s.modQuad q (fun x => { x with pll := false, pllStop := true })
      beginStop { s with power := { s.power with flags := hit s.now s.power.flags 41 } } (some q) 8)

/-- The stop of quadrant `q` has ended, and nothing but the lock of its PLL was awaited (R457). -/
def pllStopOver (s : State) (q : Nat) : Bool :=
  match quadStop s q with
  | some r => r.step == 3 && s.lehr.dev.isNone && !s.lehr.tripped && r.causes.all (fun c => c == 8 || !causeHolds s (some q) c)
  | none => false

/-- Nirdin releases the stop of quadrant `q` and returns it to STANDBY (R457, 18 R479). -/
def pllReturn (s : State) (q : Nat) : State :=
  let s := setStop (s.modQuad q (fun x => { x with pll := true, pllStop := false })) (some q) none
  (quadTiles q).foldl (fun s t => setTile s t .standby) (setQuad s q .standby)

/-- The PLL locks again (R457). While the stop is in progress the quadrant goes on with it: its PLL locks once more after it. -/
def execPllRelock (quad : Fin 4) (s : State) : Out State :=
  let q := quad.val
  .next (if !(s.quad q).pllStop || !nirdinRuns s then s
    else if pllStopOver s q then pllReturn s q
    else s.modQuad q (fun x => { x with
      pll := x.state != .off, pllStop := x.state != .off && (quadStop s q).isSome }))

end Sys2Proof.Machine
end

