-- ==== Sys2Proof/Machine/Hk.lean ====
section
/-! DEFINITION. The housekeeping converters (19 R486 to R504). A slot is 750 ticks; a conversion that begins at a
slot boundary ends at the next one that is commanded. -/

namespace Sys2Proof.Machine

def State.hku (s : State) (u : Nat) : HkUnit := tget {} s.hk.units u
def State.modHku (s : State) (u : Nat) (g : HkUnit → HkUnit) : State :=
  { s with hk := { s.hk with units := tmod {} s.hk.units u g } }

def hkOvr : Nat := 5
def hkOvf : Nat := 6
def hkRSkip : Nat := 7
def hkInjOvr : Nat := 8
def hkCalFail : Nat := 9

def hkHit (s : State) (u f : Nat) : State := s.modHku u (fun x => { x with flags := hit s.now x.flags f })

/-! ### HK_CFG fields (R501) -/

def cEn (c : Nat) : Bool := bit c 1
def cRefSel (c : Nat) : Nat := fld c 2 2
def cLehrRec (c : Nat) : Bool := bit c 4
def cEvt (c i : Nat) : Bool := bit c (5 + i)
def cSeqLen (c : Nat) : Nat := fld c 8 5
def cInjLen (c : Nat) : Nat := fld c 13 4
def cDiv (c : Nat) : Nat := fld c 32 16
def cRSpool (c : Nat) : Nat := fld c 48 16
def cChSel (c i : Nat) : Nat := fld c (64 + 9 * i) 9
def cInjSel (c i : Nat) : Nat := fld c (208 + 9 * i) 9

/-- A slot boundary (R486). -/
def slotSamples : Nat := 24000
def slotNow (s : State) : Bool := counting s && s.st % slotSamples == 0

/-- The Spool of a unit (R496). -/
def hkSpool (u : Nat) (x : HkUnit) : Nat := rspoolOf (cRSpool x.cfg) u

/-! ### Codes (R493) -/

/-- CODE from RAW, and whether it clipped or RAW stood at an end of the range. -/
def hkCode (x : HkUnit) (raw : Int) : Int × Bool :=
  let v := convRound ((raw * 16 - x.offset) * x.gain) 26
  let c := clip (-131072) 131071 v
  (c, c != v || raw == -131072 || raw == 131071)

/-! ### Records (R496 to R498) -/

/-- The FIFO's oldest records enter the Spool while it takes them; a WAIT Spool that is full holds the rest. -/
def hkDrainAux : Nat → State → Nat → State
  | 0, s, _ => s
  | n + 1, s, u =>
    let x := s.hku u
    match x.fifo with
    | [] => s
    | e :: r =>
      let k := hkSpool u x
      let p := s.spool k
      if p.valid && p.full && !p.fault && p.resize.isNone && !canPut s p && (ringReady s p || ringHeld s p) then s
      else hkDrainAux n (produce (s.modHku u (fun y => { y with fifo := r })) k 3 false none e) u

def hkDrain (s : State) (u : Nat) : State := hkDrainAux (s.hku u).fifo.length s u

/-- A record enters the unit's FIFO, or is dropped with HKOVF. -/
def hkRecord (s : State) (u : Nat) (v : Conv) (code : Int) (ovr : Bool) : State :=
  let x := s.hku u
  let inj := match v.kind with | .inj _ => true | _ => false
  let r := leBytes 16 (pack [(enc 32 code, 32), (v.chan, 9), (b2n inj, 1), (b2n (v.kind == .lehr), 1), (b2n v.refnok, 1),
    (b2n ovr, 1), (b2n x.uncal, 1), (cRefSel x.cfg, 2), (0, 16), (v.st, 64)])
  if x.fifo.length ≥ 64 then hkHit s u hkOvf
  else hkDrain (s.modHku u (fun y => { y with fifo := y.fifo ++ [r] })) u

/-- An event of EVT_MASK: UL16 or UL17 (R498). -/
def hkEvent (s : State) (u i : Nat) : State := if cEvt (s.hku u).cfg i then uncore s (16 + u) else s

/-! ### Open-wire tests (R499, R500) -/

/-- The test ends; the currents are off. -/
def endWire (s : State) (st : Status) (out : List Byte) : State :=
  match s.hk.wire with
  | some w =>
    let s := { s with hk := { s.hk with wire := none } }
    answer (s.modBc (bcOfTid w.tid) (fun x => { x with pullUp := false, pullDown := false })) w.func w.tag st 0 out []
  | none => s

/-- R, the verdict, and the output (R499, R500). -/
def wireOut (s : State) (w : OpenWire) : List Byte :=
  let d := w.vup - w.vdn
  let r := roundEven (d * 625000) 262144
  let limit : Int := 100663
  let isOpen := decide (r > w.rlimit) || w.ovr || decide ((w.vup.natAbs : Int) ≥ limit + 1) || decide ((w.vdn.natAbs : Int) ≥ limit + 1)
  leBytes 20 (pack [(enc 32 w.v0, 32), (enc 32 w.vup, 32), (enc 32 w.vdn, 32),
    (if isOpen then 0xFFFFFFFF else enc 32 r, 32), (b2n isOpen, 1), (b2n (s.hku 0).uncal, 1)])

/-- A conversion of the test ends (R499): the next current, or the end. -/
def wireStep (s : State) (code : Int) (ovr : Bool) : State :=
  match s.hk.wire with
  | none => s
  | some w =>
    let b := bcOfTid w.tid
    if (s.bc b).state != .test then endWire s .busy []
    else match w.step with
      | 0 =>
        let s := { s with hk := { s.hk with wire := some { w with step := 1, wait := w.settle, v0 := code } } }
        s.modBc b (fun x => { x with pullUp := true, pullDown := false })
      | 1 =>
        let s := { s with hk := { s.hk with wire := some { w with step := 2, wait := w.settle, vup := code, ovr := ovr } } }
        s.modBc b (fun x => { x with pullUp := false, pullDown := true })
      | _ =>
        let w := { w with vdn := code, ovr := w.ovr || ovr }
        endWire s .ok (wireOut s w)

def openWireBody (k : Call) (s : State) : Result :=
  let t := fld k.blk 0 16
  let n := bcOfTid t
  let settle := 10 * (if fld k.blk 16 8 = 0 then 10 else fld k.blk 16 8)
  let limit := if fld k.blk 32 32 = 0 then 100000 else fld k.blk 32 32
  let w : OpenWire := { func := k.func, tag := k.tag, tid := t, settle := settle, rlimit := limit,
                        held := (s.hku 0).cal.isSome }
  checked s (4, t)
    [(!tidOk t || tidKind t != 3, .badTid), (fld k.blk 24 8 != 0 || fld k.blk 64 64 != 0, .badParam),
     (!mayChange k.who (bcOwner s n), .partDenied),
     (s.hk.wire.isSome || !(s.hku 0).refok || (s.bc n).state != .test, .busy)]
    (waiting { s with hk := { s.hk with wire := some w } })

def execOpenWire (c : Frame) (s : State) : Out State := .next (serve { op := 0x1104 } c s openWireBody)

/-! ### The slot (R488 to R494) -/

/-- A sequence that was triggered before HK_CAL and is not complete (R494). -/
def calWaits (s : State) (u : Nat) : Bool :=
  let x := s.hku u
  (x.inj.isSome && !x.injHeld)
    || (u == 1 && s.lehr.round.isSome && decide (s.lehr.taken < 68) && !s.hk.roundHeld)
    || (u == 0 && (match s.hk.wire with | some w => !w.held | none => false))

/-- A calibration is running, or the first slot of one has come. -/
def calibrating (s : State) (u : Nat) : Bool :=
  let x := s.hku u
  x.cal.isSome && (x.calRun.isSome || !calWaits s u)

/-- Channel `j` of the Lehr list (R491). -/
def lehrChan (j : Nat) : Nat := if j < 28 then 424 + j else 384 + (j - 28)

/-- The input a unit converts in this slot (R488). -/
def nextConv (s : State) (u : Nat) : Option (ConvKind × Nat) :=
  let x := s.hku u
  if calibrating s u then
    let j := x.calRun.getD 0
    if j < 192 then some (.cal, if j < 64 then 460 else if j < 128 then 463 else 464) else none
  else if u = 1 && s.lehr.round.isSome && s.lehr.taken < 68 && !s.hk.roundHeld then some (.lehr, lehrChan s.lehr.taken)
  else
    match (match s.hk.wire with | some w => if u = 0 && !w.held && w.wait = 0 then some (bcOfTid w.tid) else none | none => none) with
    | some c => some (.wire, c)
    | none =>
      match (if x.injHeld then none else x.inj) with
      | some i => some (.inj (i + 1 == cInjLen x.cfg), cInjSel x.cfg i)
      | none =>
        match x.regular with
        | some c => if x.cal.isNone && x.refok && decide (x.fifo.length < 48) then some (.reg, c) else none
        | none => none

/-- A regular conversion falls due (R489). -/
def fallDue (s : State) (u : Nat) : State :=
  let x := s.hku u
  if !cEn x.cfg || !x.refok || x.cal.isSome || s.st / slotSamples % cDiv x.cfg ≠ 0 then s
  else
    let next := (x.seq + 1) % cSeqLen x.cfg
    match x.regular with
    | some _ => hkHit (s.modHku u (fun y => { y with seq := next })) u hkRSkip
    | none => s.modHku u (fun y => { y with seq := next, regular := some (cChSel x.cfg x.seq) })

/-- The unit starts the first pending conversion (R488). -/
def startConv (s : State) (u : Nat) : State :=
  match nextConv s u with
  | none => s
  | some (k, c) =>
    let v : Conv := { kind := k, chan := c, tick := s.now, st := s.st, refnok := !(s.hku u).refok }
    let s := s.modHku u (fun x => { x with running := some v, convCnt := min (x.convCnt + 1) 0xFFFFFFFF })
    match k with
    | .inj last => s.modHku u (fun x => { x with inj := if last then none else x.inj.map (· + 1) })
    | .reg => s.modHku u (fun x => { x with regular := none })
    | .cal => s.modHku u (fun x => { x with calRun := some (x.calRun.getD 0) })
    | _ => s

/-- A conversion ends with raw code `raw` (R488 to R499). -/
def endConv (s : State) (u : Nat) (v : Conv) (raw : Int) : State :=
  let s := s.modHku u (fun x => { x with running := none })
  match v.kind with
  | .cal =>
    s.modHku u (fun x =>
      let j := x.calRun.getD 0
      { x with
        calRun := some (j + 1), sum0 := if j < 64 then x.sum0 + raw else x.sum0
        sumP := if 64 ≤ j && j < 128 then x.sumP + raw else x.sumP
        sumM := if 128 ≤ j then x.sumM + raw else x.sumM })
  | k =>
    let c := hkCode (s.hku u) raw
    let s := if c.2 then hkHit s u hkOvr else s
    let s := if c.2 && k != .wire && (k != .lehr || cLehrRec (s.hku u).cfg) then hkEvent s u 2 else s
    match k with
    | .lehr =>
      let s := setLehr s (fun x => { x with
        codes := if x.taken < 28 then tset 0 x.codes x.taken c.1 else x.codes, taken := x.taken + 1 })
      if cLehrRec (s.hku u).cfg then hkRecord s u v c.1 c.2 else s
    | .wire => wireStep s c.1 c.2
    | .inj last => let s := hkRecord s u v c.1 c.2; if last then hkEvent s u 0 else s
    | _ => hkRecord s u v c.1 c.2

/-- One unit at a slot boundary: what ran ends, and the next conversion starts. A slot that an epoch load cut is
completed first (02 R39). -/
def hkSlot (s : State) (u : Nat) (raw : BitVec 18) : State :=
  match (s.hku u).running with
  | some v => if s.now < v.tick + 750 then s else startConv (fallDue (endConv s u v raw.toInt) u) u
  | none => if (s.hku u).calRun = some 192 then s else startConv (fallDue s u) u

/-- The open-wire test's wait, in slots (R499). -/
def wireWait (s : State) : State :=
  { s with hk := { s.hk with wire := s.hk.wire.map (fun w => if w.held then w else { w with wait := w.wait - 1 }) } }

def execHkConversion (raw0 raw1 : BitVec 18) (s : State) : Out State :=
  .next (if !slotNow s then s else hkSlot (hkSlot (wireWait (hkDrain (hkDrain s 0) 1)) 0 raw0) 1 raw1)

/-- Injected sequences are triggered at INJ_AT and each INJ_PERIOD (R490). -/
def injectUnit (s : State) (u : Nat) : State :=
  let x := s.hku u
  match x.injNext with
  | none => s
  | some t =>
    if s.st < t then s
    else
      let per := fld x.cfg 352 32
      let s := s.modHku u (fun y => { y with injNext := if per = 0 then none else some (t + slotSamples * per) })
      if x.inj.isSome then hkHit s u hkInjOvr
      else if cInjLen x.cfg = 0 then s
      else s.modHku u (fun y => { y with inj := some 0, injHeld := y.cal.isSome })

def execHkInjectTrigger (s : State) : Out State :=
  .next (if slotNow s then injectUnit (injectUnit s 0) 1 else s)

/-- REFOK returns at a slot boundary 1 ms or more after the change (R492). -/
def execHkRefok (unit : Fin 2) (s : State) : Out State :=
  .next (if slotNow s && !(s.hku unit).refok && decide ((s.hku unit).refAt + 750000 ≤ s.now) then
      s.modHku unit (fun x => { x with refok := true })
    else s)

/-! ### HK_CFG (R501) -/

def hkRsv (b : Nat) : Bool := fld b 17 15 != 0 || fld b 280 8 != 0

/-- Channels that a block lists. -/
def hkChans (b : Nat) : List Nat :=
  (List.range (cSeqLen b)).map (cChSel b) ++ (List.range (cInjLen b)).map (cInjSel b)

def hkSpoolOk (s : State) (n : Nat) : Bool :=
  let q := s.spool n
  q.valid && q.esize == 0 && (q.cls == 1 || q.cls == 2)

def hkDefault (u : Nat) : Nat := u + 2 ^ 8 + 2 ^ 32

def hkCfgBody (k : Call) (s : State) : Result :=
  let b := k.blk
  let u := fld b 0 1
  let x := s.hku u
  let o := ownerOf s oHk u
  let at_ := fld b 288 64
  let per := fld b 352 32
  let from_ := s.st / slotSamples * slotSamples + slotSamples
  checked s (oHk, u)
    ([(hkRsv b || cSeqLen b == 0 || decide (cSeqLen b > 16) || decide (cInjLen b > 8) || (u == 0 && cLehrRec b)
        || cRefSel b == 3 || (u == 1 && cRefSel b != 0) || cDiv b == 0 || (per != 0 && decide (per < cInjLen b))
        || (cRSpool b != 0 && (!hkSpoolOk s (cRSpool b) || (s.spool (cRSpool b)).owner != o.part)), .badParam),
      (!mayChange k.who o || (hkChans b).any (fun c => decide (c < 384) && (bcOwner s c).part != o.part), .partDenied),
      (at_ != 0 && at_ % slotSamples != 0, .badTime)] ++ timeFail at_ k.accept
      ++ [(cRefSel b != cRefSel x.cfg && x.cal.isSome, .busy)])
    (let st := storeImage s 0x1101 oHk u 48 (hkDefault u) (b % 2 ^ 288)
     scheduled (stage st.1 { kind := .hkCfg, obj := u, blk := b, at_ := from_, func := k.func }) from_ [st.2])

def execHkCfg (c : Frame) (s : State) : Out State := .next (serve { op := 0x1101 } c s hkCfgBody)

/-- A HK_CFG applies at its slot boundary: the regular sequence restarts; a reference change clears REFOK and takes
its calibration values (R492, R493, R501). -/
def applyHkCfg (s : State) (u b : Nat) : State :=
  s.modHku u (fun x =>
    let y := { x with
      cfg := b, seq := 0, regular := none
      injNext := if fld b 288 64 = 0 then none else some (fld b 288 64) }
    if cRefSel b = cRefSel x.cfg then y
    else if cRefSel b = 0 then
      { y with refok := false, refAt := s.now, offset := x.nvOffset, gain := x.nvGain, uncal := false }
    else { y with refok := false, refAt := s.now, offset := 0, gain := 2 ^ 22, uncal := true })

/-! ### HK_CAL (R494, R495, R502) -/

def calOut (x : HkUnit) : List Byte := leBytes 8 (pack [(enc 16 x.offset, 16), (0, 16), (x.gain, 24)])

def hkCalBody (k : Call) (s : State) : Result :=
  let u := fld k.blk 0 1
  let x := s.hku u
  checked s (oHk, u)
    [(bit k.blk 2 || fld k.blk 3 61 != 0 || (bit k.blk 1 && cRefSel x.cfg != 0), .badParam),
     (!mayChange k.who (ownerOf s oHk u), .partDenied), (!x.refok || x.cal.isSome, .busy)]
    (waiting (s.modHku u (fun y => { y with
      cal := some (k.func, k.tag, bit k.blk 1), calRun := none, sum0 := 0, sumP := 0, sumM := 0 })))

def execHkCal (c : Frame) (s : State) : Out State := .next (serve { op := 0x1102 } c s hkCalBody)

def hkCalRestoreBody (k : Call) (s : State) : Result :=
  let u := fld k.blk 0 1
  let x := s.hku u
  let y := { x with offset := x.nvOffset, gain := x.nvGain, uncal := false }
  checked s (oHk, u)
    [(!bit k.blk 2 || fld k.blk 3 61 != 0 || cRefSel x.cfg != 0, .badParam),
     (!mayChange k.who (ownerOf s oHk u), .partDenied), (!x.refok || x.cal.isSome, .busy)]
    { status := .ok, next := s.modHku u (fun _ => y), out := calOut y, items := [item oHk u] }

def execHkCalRestore (c : Frame) (s : State) : Out State := .next (serve { op := 0x1102 } c s hkCalRestoreBody)

/-- OFFSET and GAIN from the sums of 64 codes each (R494). -/
def calValues (x : HkUnit) : Int × Int :=
  (convRound (16 * x.sum0) 6, if x.sumP = x.sumM then 0 else
    let d := x.sumP - x.sumM
    let n : Int := 2 ^ 22 * 2359296 * 64
    if d > 0 then roundEven n (10 * d) else - roundEven n (10 * -d))

def calGood (v : Int × Int) : Bool :=
  decide (v.1.natAbs ≤ 8192) && decide (v.2 * 100 ≥ 95 * 2 ^ 22) && decide (v.2 * 100 ≤ 105 * 2 ^ 22)

/-- What waited for the calibration is free to run (R494). -/
def releaseHeld (s : State) (u : Nat) : State :=
  let s := s.modHku u (fun x => { x with injHeld := false })
  { s with hk := { s.hk with
      roundHeld := if u = 1 then false else s.hk.roundHeld
      wire := if u = 0 then s.hk.wire.map (fun w => { w with held := false }) else s.hk.wire } }

/-- The end of a calibration's 192 slots (R494, R495): new values, or CALFAIL; the slot's conversion starts. -/
def execHkCalDone (unit : Fin 2) (s : State) : Out State :=
  let u := unit.val
  let x := s.hku u
  .next (match x.cal with
    | some (f, tag, store) =>
      if x.calRun ≠ some 192 then s
      else
        let v := calValues x
        let s := hkEvent (s.modHku u (fun y => { y with cal := none, calRun := none })) u 1
        let s := if calGood v then s.modHku u (fun y => { y with offset := v.1, gain := v.2.toNat, uncal := false })
          else hkHit s u hkCalFail
        let nv := if store && calGood v then firstFail (nvRefusal s) else none
        let s := if nv = some .nvTempInhibit then nvInhibited s else s
        let s := if store && calGood v && nv.isNone then
            s.modHku u (fun y => { y with nvOffset := v.1, nvGain := v.2.toNat }) else s
        let s := answer s f tag (if calGood v then nv.getD .ok else .internal) 0 (calOut (s.hku u)) [item oHk u]
        let s := releaseHeld s u
        if slotNow s then startConv s u else s
    | none => s)

/-! ### HK_STATUS (R503) -/

def hkMap : FlagMap := [(5, 64), (6, 80), (7, 96), (8, 112), (9, 128)]

def hkImage (s : State) (u : Nat) : Nat :=
  let x := s.hku u
  pack [(u, 1), (b2n x.refok, 1), (b2n (x.cal.isSome && x.calRun.isNone), 1), (b2n x.calRun.isSome, 1), (b2n x.uncal, 1),
    (0, 11), (enc 16 x.offset, 16), (x.gain, 24)]
  + flagImage hkMap x.flags + x.convCnt * 2 ^ 144

def hkStatusBody (k : Call) (s : State) : Result :=
  let u := fld k.blk 0 1
  let cnt := fld k.blk 144 32
  checked s (oHk, u)
    [(statusReqBad k 1 256 hkMap || (k.clear && cnt != 0 && cnt != 0xFFFFFFFF), .badParam),
     (k.func != 0 && (ownerOf s oHk u).part != k.who.part, .partDenied)]
    (report (if k.clear then s.modHku u (fun x => { x with
        flags := clearFlags s.now hkMap k.blk x.flags, convCnt := if cnt = 0 then 0 else x.convCnt }) else s)
      (leBytes 32 (hkImage s u)))

def execHkStatus (c : Frame) (s : State) : Out State := .next (serve { op := 0x1103 } c s hkStatusBody)

end Sys2Proof.Machine
end

