-- ==== Sys2Proof/Machine/MarverIsa.lean ====
section
/-! DEFINITION. The Marver instructions (06 R152 to R168). Each command runs the instruction at the core's program
address when it is that instruction and its cycle has come. -/

namespace Sys2Proof.Machine

/-! ### Data words (R152) -/

def unpackWord (v : Nat) : Int × Int := (sgn 24 (v % 2 ^ 24), sgn 24 (fld v 32 24))
def packWord (z : Int × Int) : Nat := enc 32 z.1 + enc 32 z.2 * 2 ^ 32

/-! ### Registers -/

def vReg (x : Core) (l r : Nat) : Int × Int := tget (0, 0) x.v (16 * l + r)
def accReg (x : Core) (l a : Nat) : Int × Int := tget (0, 0) x.acc (4 * l + a)

/-- The lanes an instruction acts in (R157). -/
def activeLanes (x : Core) : List Nat := (List.range 8).filter (fun l => bit x.lp l)

/-- A mask with bit `l` set, and cleared. -/
def setBit (n l : Nat) : Nat := if bit n l then n else n + 2 ^ l
def clrBit (n l : Nat) : Nat := if bit n l then n - 2 ^ l else n

/-- Post-modification of A[ar] by M[mr] (R154). -/
def postMod (ar mr mode : Nat) (x : Core) : Core :=
  let a := tget 0 x.a ar
  let m := tget 0 x.m mr
  let k := tget 0 x.k ar
  match mode with
  | 0 => x
  | 2 => if k = 0 then { x with a := tset 0 x.a ar ((a + m) % 65536) }
         else { x with a := tset 0 x.a ar (a / 2 ^ k * 2 ^ k + (a + m) % 2 ^ k) }
  | _ => { x with a := tset 0 x.a ar ((a + m) % 65536) }

def postX (w : Nat) (x : Core) : Core := postMod (iXa w) (iXm w) (iXmode w) x
def postY (w : Nat) (x : Core) : Core := postMod (iYa w) (iYm w) (iYmode w) x

/-- Change a core with its post-modifications, X before Y (R154). -/
def postXY (s : State) (c : Nat) (useX useY : Bool) (w : Nat) : State :=
  s.modCore c (fun x =>
    let x := if useX then postX w x else x
    if useY then postY w x else x)

/-! ### Saturation and accumulation (R155, R156) -/

/-- Saturate to 24 bits: the value and whether it saturated. -/
def sat24 (v : Int) : Int × Bool := (clip (-(2 ^ 23)) (2 ^ 23 - 1) v, decide (v < -(2 ^ 23) ∨ v > 2 ^ 23 - 1))

/-- Write V[r] of a lane with saturation. -/
def writeV (s : State) (c l r : Nat) (z : Int × Int) : State :=
  let i := sat24 z.1
  let q := sat24 z.2
  s.modCore c (fun x => { x with
    v := tset (0, 0) x.v (16 * l + r) (i.1, q.1)
    satl := if i.2 || q.2 then setBit x.satl l else x.satl
    flags := hitIf s.now (i.2 || q.2) x.flags mSat })

/-- Put an exact result into an accumulator that does not hold (R156). -/
def writeAcc (s : State) (c l a : Nat) (z : Int × Int) : State :=
  let lim : Int := 2 ^ 55
  let over_ := decide (z.1 < -lim ∨ z.1 > lim - 1 ∨ z.2 < -lim ∨ z.2 > lim - 1)
  s.modCore c (fun x =>
    if tget false x.hold (4 * l + a) then x
    else { x with
      acc := tset (0, 0) x.acc (4 * l + a) (clip (-lim) (lim - 1) z.1, clip (-lim) (lim - 1) z.2)
      hold := if over_ then tset false x.hold (4 * l + a) true else x.hold
      govl := if over_ then setBit x.govl l else x.govl
      flags := hitIf s.now over_ x.flags mGov })

/-- A complex product; `conj` conjugates the second operand (R155). -/
def cmul (conj : Bool) (p q : Int × Int) : Int × Int :=
  let q2 := if conj then -q.2 else q.2
  (p.1 * q.1 - p.2 * q2, p.1 * q2 + p.2 * q.1)

def addZ (p q : Int × Int) : Int × Int := (p.1 + q.1, p.2 + q.2)

/-! ### X and Y memory (R153, R171) -/

/-- Word address of an X access of a lane and of a Y access. -/
def xIndex (x : Core) (w : Nat) : Nat := tget 0 x.a (iXa w) % 2048
def yIndex (x : Core) (w l : Nat) : Nat := (tget 0 x.a (iYa w) + (if iYl w then l * x.ystride else 0)) % 16384

/-- Internal address of byte 0 of a word. -/
def xAddr (c l i : Nat) : Nat := coreBase c + 0x20000 + 0x4000 * l + 8 * i
def yAddr (c i : Nat) : Nat := coreBase c + 0x40000 + 8 * i

/-- The words that lanes read: value (0 where a byte is uncorrectable). -/
def readX (s : State) (c w l : Nat) : Int × Int :=
  let x := s.core c
  unpackWord ((slicedValue s.mem 8 (xAddr c l (xIndex x w)) (tget 0 x.x (2048 * l + xIndex x w))).getD 0)

def readY (s : State) (c w l : Nat) : Int × Int :=
  let x := s.core c
  unpackWord ((slicedValue s.mem 8 (yAddr c (yIndex x w l)) (tget 0 x.y (yIndex x w l))).getD 0)

/-- The side of reading the words at `as` (lane, address): records, and in each lane that read a bad word FFL, the
flag and the shot's mark (R171). -/
def noteReads (s : State) (c : Nat) (as : List (Nat × Nat)) : State :=
  let words := (as.map (fun p => p.2)).eraseDups
  let s := memEvents s (coreOwner s c).part (.tile (tileOfCore c)) (words.flatMap (slicedEvents s.mem 8))
  let bad (a : Nat) : Bool := (slicedValue s.mem 8 a 0).isNone
  let s := words.foldl (fun s a => if bad a then coreHit s c mFetchFault else s) s
  as.foldl (fun s p =>
    if bad p.2 then
      let s := match curWin (s.core c) p.1 with | some v => markWin s v | none => s
      s.modCore c (fun x => { x with ffl := setBit x.ffl p.1 })
    else s) s

/-- The X and Y reads of an instruction in the active lanes. -/
def xReads (s : State) (c w : Nat) : List (Nat × Nat) :=
  (activeLanes (s.core c)).map (fun l => (l, xAddr c l (xIndex (s.core c) w)))
def yReads (s : State) (c w : Nat) : List (Nat × Nat) :=
  (activeLanes (s.core c)).map (fun l => (l, yAddr c (yIndex (s.core c) w l)))

/-- Write an X word of a lane: its code bytes are rewritten. -/
def writeX (s : State) (c l i : Nat) (z : Int × Int) : State :=
  (clearErrs s (xAddr c l i) 8).modCore c (fun x => { x with x := tset 0 x.x (2048 * l + i) (packWord z) })

/-! ### One instruction (R158, R161, R170) -/

/-- The instruction's end: its cycles, and the next program address, or the next repetition. -/
def retire (s : State) (c cycles : Nat) (jump : Option Nat) : State :=
  s.modCore c (fun x =>
    let x := { x with cycle := max x.cycle (2 * s.now) + cycles }
    if 0 < x.rpt then
      let x := { x with rpt := x.rpt - 1, pc := if x.rpt = 1 then (x.pc + 1) % 16384 else x.pc }
      if x.stop && x.rpt == 0 then haltCore x else x
    else { x with pc := jump.getD ((x.pc + 1) % 16384) })

/-- Internal address of the program word at `pc`. -/
def progAddr (c pc : Nat) : Nat := coreBase c + 8 * pc

/-- Run the instruction at the program address if the core runs one now and it is `op`; `act` gives its effect,
its cycles and its jump, and `after` what follows its end. -/
def mvRun (core : Fin 24) (op : Nat) (s : State) (act : State → Nat → Nat → State × Nat × Option Nat)
    (after : Core → Nat → Core := fun x _ => x) : Out State :=
  let c := core.val
  let x := s.core c
  .next (
    if !coreRuns s c || x.wait || decide (2 * s.now + 1 < x.cycle) then s
    else
      let a := progAddr c x.pc
      let m := maskOf s.mem a
      let w := delivered (tget 0 x.prog x.pc) m
      if badWord m then
        coreFault (memEvents s (coreOwner s c).part (.tile (tileOfCore c)) (wordEvents a m)) c
      else if iOp w ≠ op then s
      else
        let s := if m = 0 then s else memEvents s (coreOwner s c).part (.tile (tileOfCore c)) (wordEvents a m)
        let r := act s c w
        (retire r.1 c r.2.1 r.2.2).modCore c (fun x => after x w))

/-- An instruction of one cycle. -/
def mvOne (core : Fin 24) (op : Nat) (s : State) (act : State → Nat → Nat → State) : Out State :=
  mvRun core op s (fun s c w => (act s c w, 1, none))

/-- A scalar instruction of one cycle: a change of the shared registers. -/
def mvScalar (core : Fin 24) (op : Nat) (s : State) (f : Core → Nat → Core) : Out State :=
  mvOne core op s (fun s c w => s.modCore c (fun x => f x w))

/-- An effect in each active lane, in ascending order. -/
def inLanes (s : State) (c : Nat) (f : State → Nat → State) : State := (activeLanes (s.core c)).foldl f s

/-! ### Control -/

def execMvNop (core : Fin 24) (s : State) : Out State := mvScalar core 0x00 s (fun x _ => x)

/-- The handler ends (R165); the next group is dispatched in the following cycle. -/
def execMvWait (core : Fin 24) (s : State) : Out State :=
  mvScalar core 0x01 s (fun x _ => { x with wait := true, lp := 255, mask := 255 })

def execMvJmp (core : Fin 24) (s : State) : Out State :=
  mvRun core 0x02 s (fun s _ w => (s, 2, some (iImm w 14)))

def execMvBrz (core : Fin 24) (s : State) : Out State :=
  mvRun core 0x03 s (fun s c w =>
    if tget 0 (s.core c).a (iXa w) = 0 then (s, 2, some (iImm w 14)) else (s, 1, none))

def execMvDjnz (core : Fin 24) (s : State) : Out State :=
  mvRun core 0x04 s (fun s c w =>
    let v := (tget 0 (s.core c).a (iXa w) + 65535) % 65536
    let s := s.modCore c (fun x => { x with a := tset 0 x.a (iXa w) v })
    if v ≠ 0 then (s, 2, some (iImm w 14)) else (s, 1, none))

/-- The next instruction runs IMM times (R161). -/
def execMvRpt (core : Fin 24) (s : State) : Out State :=
  mvRun core 0x05 s (fun s _ _ => (s, 1, none)) (fun x w => { x with rpt := iImm w 16 })

/-! ### Scalar registers -/

def execMvLda (core : Fin 24) (s : State) : Out State :=
  mvScalar core 0x06 s (fun x w => { x with a := tset 0 x.a (iXa w) (iImm w 16) })

def execMvLdm (core : Fin 24) (s : State) : Out State :=
  mvScalar core 0x07 s (fun x w => { x with m := tset 0 x.m (iXm w) (iImm w 16) })

def execMvAdda (core : Fin 24) (s : State) : Out State :=
  mvScalar core 0x08 s (fun x w => { x with a := tset 0 x.a (iXa w) ((tget 0 x.a (iXa w) + iImm w 16) % 65536) })

def execMvSetk (core : Fin 24) (s : State) : Out State :=
  mvScalar core 0x09 s (fun x w => { x with k := tset 0 x.k (iXa w) (iImm w 4) })

def execMvSetys (core : Fin 24) (s : State) : Out State :=
  mvScalar core 0x0A s (fun x w => { x with ystride := iImm w 14 })

/-! ### Vectors -/

/-- The datum that IN reads: shifted right with convergent rounding (R164). Outside any dispatch the spec gives IN
no input: a free value (DESIGN CHOICE, log 140). -/
def execMvIn (core : Fin 24) (s : State) : Out State :=
  mvOne core 0x10 s (fun s c w =>
    let n := (s.core c).ins
    let open_ (i : Nat) : Int := sgn 24 (enc 24 (Config.mvDatum c n i))
    inLanes (s.modCore c (fun x => { x with ins := n + 1 })) c (fun t l =>
      let z : Int × Int := match tget none (t.core c).datum l with
        | some d => d
        | none => (open_ (2 * l), open_ (2 * l + 1))
      let sh := iImm w 5
      writeV t c l (iVd w) (convRound z.1 sh, convRound z.2 sh)))

def execMvLdi (core : Fin 24) (s : State) : Out State :=
  mvOne core 0x11 s (fun s c w => inLanes s c (fun s l =>
    let z := vReg (s.core c) l (iVd w)
    let v := sgn 24 (iImm w 24)
    writeV s c l (iVd w) (if bit w 44 then (z.1, v) else (v, z.2))))

def execMvMov (core : Fin 24) (s : State) : Out State :=
  mvOne core 0x12 s (fun s c w => inLanes s c (fun s l => writeV s c l (iVd w) (vReg (s.core c) l (iVa w))))

def execMvLdx (core : Fin 24) (s : State) : Out State :=
  mvOne core 0x13 s (fun s c w =>
    let t := noteReads s c (xReads s c w)
    postXY (inLanes t c (fun t l => writeV t c l (iVd w) (readX s c w l))) c true false w)

def execMvLdy (core : Fin 24) (s : State) : Out State :=
  mvOne core 0x14 s (fun s c w =>
    let t := noteReads s c (yReads s c w)
    postXY (inLanes t c (fun t l => writeV t c l (iVd w) (readY s c w l))) c false true w)

def execMvStx (core : Fin 24) (s : State) : Out State :=
  mvOne core 0x15 s (fun s c w =>
    postXY (inLanes s c (fun t l => writeX t c l (xIndex (s.core c) w) (vReg (s.core c) l (iVa w)))) c true false w)

/-- VD := f of two registers. -/
def vectorOp (core : Fin 24) (op : Nat) (f : Int × Int → Int × Int → Int × Int) (s : State) : Out State :=
  mvOne core op s (fun s c w => inLanes s c (fun s l =>
    writeV s c l (iVd w) (f (vReg (s.core c) l (iVa w)) (vReg (s.core c) l (iVb w)))))

def execMvVadd (core : Fin 24) (s : State) : Out State := vectorOp core 0x16 addZ s

def execMvVsub (core : Fin 24) (s : State) : Out State :=
  vectorOp core 0x17 (fun p q => (p.1 - q.1, p.2 - q.2)) s

def execMvVshr (core : Fin 24) (s : State) : Out State :=
  mvOne core 0x18 s (fun s c w => inLanes s c (fun s l =>
    let z := vReg (s.core c) l (iVa w)
    writeV s c l (iVd w) (convRound z.1 (iImm w 5), convRound z.2 (iImm w 5))))

/-! ### Multiply and accumulate -/

def execMvCmul (core : Fin 24) (s : State) : Out State :=
  mvOne core 0x20 s (fun s c w => inLanes s c (fun s l =>
    writeAcc s c l (iAcc w) (cmul (iConj w) (vReg (s.core c) l (iVa w)) (vReg (s.core c) l (iVb w)))))

def execMvCmac (core : Fin 24) (s : State) : Out State :=
  mvOne core 0x21 s (fun s c w => inLanes s c (fun s l =>
    writeAcc s c l (iAcc w) (addZ (accReg (s.core c) l (iAcc w))
      (cmul (iConj w) (vReg (s.core c) l (iVa w)) (vReg (s.core c) l (iVb w))))))

def execMvCmacy (core : Fin 24) (s : State) : Out State :=
  mvOne core 0x22 s (fun s c w =>
    let t := noteReads s c (yReads s c w)
    postXY (inLanes t c (fun t l =>
      writeAcc t c l (iAcc w) (addZ (accReg (t.core c) l (iAcc w))
        (cmul (iConj w) (vReg (t.core c) l (iVa w)) (readY s c w l))))) c false true w)

/-- The X word that follows A[XA] (R162): with XMODE NONE, A + 1 (DEDUCED, log 119). -/
def nextX (x : Core) (w : Nat) : Nat :=
  let a := tget 0 x.a (iXa w)
  let k := tget 0 x.k (iXa w)
  (if iXmode w = 2 && k != 0 then a / 2 ^ k * 2 ^ k + (a + 1) % 2 ^ k else a + 1) % 2048

def execMvTapm (core : Fin 24) (s : State) : Out State :=
  mvOne core 0x23 s (fun s c w =>
    let t := noteReads s c (xReads s c w ++ yReads s c w)
    postXY (inLanes t c (fun t l =>
      let t := writeAcc t c l (iAcc w) (addZ (accReg (t.core c) l (iAcc w)) (cmul (iConj w) (readX s c w l) (readY s c w l)))
      writeX t c l (nextX (s.core c) w) (readX s c w l))) c true true w)

def execMvClra (core : Fin 24) (s : State) : Out State :=
  mvOne core 0x24 s (fun s c w => inLanes s c (fun s l => s.modCore c (fun x => { x with
    acc := tset (0, 0) x.acc (4 * l + iAcc w) (0, 0), hold := tset false x.hold (4 * l + iAcc w) false })))

def execMvClrg (core : Fin 24) (s : State) : Out State :=
  mvOne core 0x25 s (fun s c _ => inLanes s c (fun s l => s.modCore c (fun x => { x with
    govl := clrBit x.govl l, hold := (List.range 4).foldl (fun h a => tset false h (4 * l + a) false) x.hold })))

def execMvMova (core : Fin 24) (s : State) : Out State :=
  mvOne core 0x26 s (fun s c w => inLanes s c (fun s l =>
    let z := accReg (s.core c) l (iAcc w)
    writeV s c l (iVd w) (convRound z.1 (iImm w 6), convRound z.2 (iImm w 6))))

/-! ### Classification and predicates -/

/-- CLS3 (R163): the rules of R129 and R130 on V registers. -/
def execMvCls3 (core : Fin 24) (s : State) : Out State :=
  mvOne core 0x28 s (fun s c w => inLanes s c (fun s l => s.modCore c (fun x =>
    let p := (vReg x l (iVa w)).1
    let th := vReg x l (iVb w)
    let d : Disc := { l3 := bit w 5, thA := th.1, thB := th.2, confShift := iImm w 5 }
    { x with stateL := tset 0 x.stateL l (stateOf d p), confL := tset 0 x.confL l (confOf d p) })))

def execMvSti (core : Fin 24) (s : State) : Out State :=
  mvOne core 0x29 s (fun s c w => inLanes s c (fun s l => s.modCore c (fun x => { x with
    stateL := tset 0 x.stateL l (iImm w 2), confL := tset 0 x.confL l (fld w 2 8) })))

def execMvPge (core : Fin 24) (s : State) : Out State :=
  mvScalar core 0x2A s (fun x w => { x with lp :=
    (((activeLanes x).filter (fun l => decide ((vReg x l (iVa w)).1 ≥ (vReg x l (iVb w)).1))).map (fun l => 2 ^ l)).sum })

def execMvPrst (core : Fin 24) (s : State) : Out State := mvScalar core 0x2B s (fun x _ => { x with lp := x.mask })

/-! ### Outputs (R166, R167) -/

/-- PUB in one lane: the decision is written in the next tick. It precedes the window's END when the END has not
arrived yet. -/
def pubLane (c : Nat) (s : State) (l : Nat) : State :=
  match curWin (s.core c) l with
  | none => coreHit s c mNoWin
  | some w =>
    if w.lost then s
    else if w.pub.isSome then coreHit s c mPubDup
    else
      let y := stTick s + 1
      let st := tget 0 (s.core c).stateL l
      let early := wDest w.prof == 2 && decide (y ≤ w.tLast + 59)
      let s := modWin s c w.rt w.k (fun v => { v with pub := some (y, st), early := if early then some w.trc else none })
      let s := if mvDbEn w.cfg then writeDecision s (mvDb w.cfg) 1 w.rt w.k y st else s
      let s := if bit (mvEvtMask w.cfg) st then assertAt s (.rtDec w.rt) (s.now + 1) 1 else s
      if early && mvEarlyEvt w.cfg then assertAt s (.rtEarly w.rt) (s.now + 1) 1 else s

def execMvPub (core : Fin 24) (s : State) : Out State := mvOne core 0x30 s (fun s c _ => inLanes s c (pubLane c))

/-- The record of a lane's window as it stands, without wall time, which its hand-on adds (16 R439). -/
def mvRecordImage (s : State) (x : Core) (l w : Nat) (v : MvWindow) : Nat :=
  let z := vReg x l (iVa w)
  let sh : Int := 2 ^ iImm w 5
  let late := match v.pub with | some (t, _) => mvDbEn v.cfg && decide (v.due < t + 4) | none => true
  let early := v.early.map (fun j => (match v.pub with | some (_, st) => st | none => 0, j))
  let chainFf := bit v.chain gFetchFault
  let flags := v.chain - (if chainFf then 2 ^ gFetchFault else 0)
    + flagBits [(gIntSat, bit x.satl l), (gLate, late), (gUnderrun, underrunBy s v.loom v.start v.arrival),
        (gNonDet, markedBy s v.loom v.start v.arrival), (gFetchFault, bit x.ffl l || chainFf), (gGov, bit x.govl l)]
  let close := 32 * (v.tLast + 63)
  pack [(v.shot, 32), (v.meas, 16), (v.rt, 9), (v.num, 4), (tget 0 x.stateL l, 2), (b2n early.isSome, 1), (close, 64),
    (enc 32 (z.1 * sh), 32), (enc 32 (z.2 * sh), 32), (tget 0 x.confL l, 8), ((early.getD (0, 0)).1, 2),
    ((early.getD (0, 0)).2, 12), (flags, 16)]

/-- REC in one lane (R167): it takes its tag now (11 R297) and reaches the Spool engine in two ticks. -/
def recLane (c w : Nat) (s : State) (l : Nat) : State :=
  match curWin (s.core c) l with
  | none => coreHit s c mNoWin
  | some v =>
    if !mvRecEn v.cfg then s
    else
      let img := mvRecordImage s (s.core c) l w v
      let q := reserve s (mvSpool v.cfg) (some (tileOfCore c)) rowMarver v.rt
      q.1.modCore c (fun x => { x with
        satl := clrBit x.satl l, ffl := clrBit x.ffl l
        records := x.records ++ [{ tick := s.now + 2, rt := v.rt, spool := mvSpool v.cfg, resv := q.2, image := img }] })

def execMvRec (core : Fin 24) (s : State) : Out State := mvOne core 0x31 s (fun s c w => inLanes s c (recLane c w))

end Sys2Proof.Machine
end

