-- ==== Sys2Proof/Machine/Scrub.lean ====
section
/-! DEFINITION. DDR channel reports, scrub passes and the hot-word tracker (14 R364, R385 to R390; 23 R564). -/

namespace Sys2Proof.Machine

/-! ### MEM_INFO (R364) -/

def chanCode (s : State) (k : Nat) : Nat :=
  if (s.ddrChan k).failed then 3
  else if capacity s k = 0 then 0
  else if quadOff s k then 2 else 1

def memInfoImage (s : State) (k : Nat) : Nat :=
  let c := s.ddrChan k
  pack [(k, 2), (chanCode s k, 2), (c.modules, 2), (c.ranks, 2), (0, 8), (c.speed, 16), (0, 32), (capacity s k, 48),
    (0, 16), (bitmapBase s k, 48), (0, 16), (c.ceCnt, 32), (c.ueCnt, 32), (c.poisonCnt, 32), (c.mergeCnt, 32), (0, 64)]

def memInfoBody (k : Call) (s : State) : Result :=
  checked s (0, 0) [(decide (k.blk ≥ 4), .badParam)] (report s (leBytes 48 (memInfoImage s (k.blk % 4))))

def execMemInfo (c : Frame) (s : State) : Out State := .next (serve { op := 0x0C01 } c s memInfoBody)

/-! ### Ranges (R388; 23 R564) -/

/-- The run of one store that an on-chip address lies in: its base and end; none: no store. -/
def storeRun (a : Nat) : Option (Nat × Nat) :=
  let within (base size n : Nat) : Option (Nat × Nat) :=
    if base ≤ a && decide (a < base + size * n) then
      some (base + (a - base) / size * size, base + (a - base) / size * size + size) else none
  let part (r : Nat × Nat) (cuts : List (Nat × Nat)) : Option (Nat × Nat) :=
    (cuts.find? (fun c => decide (r.1 + c.1 ≤ a) && decide (a < r.1 + c.2))).map (fun c => (r.1 + c.1, r.1 + c.2))
  match within 0x800000000000 0x400000 12 with
  | some r => part r [(0, 0x360000), (0x360000, 0x380000), (0x380000, 0x400000)]
  | none =>
    match within 0x800030000000 0x80000 24 with
    | some r => part r ((0, 0x20000) :: (List.range 8).map (fun l => (0x20000 + 0x4000 * l, 0x24000 + 0x4000 * l))
        ++ [(0x40000, 0x60000)])
    | none =>
      [within 0x800010000000 0x100000 12, within 0x800020000000 0x40000 96, within 0x800040000000 0x200000 1,
       within 0x800041000000 0x400000 1, within 0x800050000000 0x10000 1, within 0x800051000000 0x10000 1,
       within 0x800060000000 0x100000 1, within 0x800061000000 0x40000 4].findSome? id

/-- The engine whose range holds an address. -/
def engineOf (a : Nat) : Nat := if a < 2 ^ 40 then chanOf a else 4

/-- The range lies in one channel's usable DDR, or in one run of one store. -/
def scrubRange (s : State) (a n : Nat) : Bool :=
  if a < 2 ^ 40 then inDdr s a n
  else match storeRun a with | some r => decide (a + n ≤ r.2) | none => false

/-- Gaffer SRAM and the link buffers, which Nirdin scrubs itself. -/
def scrubRefused (s : State) (a : Nat) : Bool := storeOf s a == some 6 || storeOf s a == some 7

def State.scrub (s : State) (e : Nat) : Scrub := tget {} s.mem.scrubs e
def State.modScrub (s : State) (e : Nat) (g : Scrub → Scrub) : State :=
  { s with mem := { s.mem with scrubs := tmod {} s.mem.scrubs e g } }

def scrubRsv (b : Nat) : Bool := fld b 3 5 != 0 || fld b 16 48 != 0 || fld b 112 16 != 0 || fld b 160 96 != 0

def scrubStartBody (k : Call) (s : State) : Result :=
  let b := k.blk
  let a := fld b 64 48
  let n := fld b 128 32
  let e := engineOf a
  let rate := if fld b 8 8 = 0 then 8 else fld b 8 8
  checked s (0, 0)
    [(bit b 2 || scrubRsv b || fld b 0 2 == 3 || n == 0 || decide (n > 2 ^ 31) || a % 128 != 0, .badParam),
     (fld b 0 2 == 2 && decide (2 ^ 40 ≤ a), .badParam), (!scrubRange s a (128 * n), .lenExceeds),
     (if a < 2 ^ 40 then !ddrMayChange s k.who a (128 * n) else k.who.part != 0 || scrubRefused s a, .partDenied),
     ((s.scrub e).run.isSome, .busy), (decide (a < 2 ^ 40) && !chanActive s (chanOf a), .notActive)]
    (waiting (s.modScrub e (fun x => { x with
      owner := k.who.part
      run := some { func := k.func, tag := k.tag, part := k.who.part, mode := fld b 0 2, rate := rate, start := a
                    lines := n, accept := k.accept, begun := s.now } })))

def execScrubStart (c : Frame) (s : State) : Out State := .next (serve { op := 0x0C02 } c s scrubStartBody)

def scrubAbortBody (k : Call) (s : State) : Result :=
  let e := engineOf (fld k.blk 64 48)
  let x := s.scrub e
  checked s (0, 0)
    [(!bit k.blk 2 || x.run.isNone, .badParam),
     (match x.run with | some r => k.who.part != r.part && k.who.part != 0 | none => false, .partDenied)]
    (done (abortScrub s e) [])

def execScrubAbort (c : Frame) (s : State) : Out State := .next (serve { op := 0x0C02 } c s scrubAbortBody)

/-! ### A pass (R387, R389) -/

/-- A store written in bytes (R392). -/
def byteStore (s : State) (a : Nat) : Bool :=
  match storeOf s a with | some c => [8, 9, 10, 11, 12].contains c | none => false

/-- The class of the word or byte at `a` and its syndrome. -/
def storedClass (s : State) (a : Nat) : WordClass × Nat :=
  let m := maskOf s.mem a
  if byteStore s a then
    ((if m = 0 then .clean else byteClass m), (byteSyn m).1 + 16 * (byteSyn m).2)
  else (readClass m, syndrome m)

def setMask (s : State) (a m : Nat) : State :=
  { s with mem := { s.mem with errs := tset 0 s.mem.errs a (BitVec.ofNat 80 m) } }

/-- The tracker entry of a location has reached THRESH. -/
def isHot (s : State) (a : Nat) : Bool :=
  match hotFind s a with | some i => (tget ({} : HotEntry) s.mem.hot i).hot | none => false

/-- The stored copy is rewritten corrected (R368). -/
def rewrite (s : State) (a : Nat) : State :=
  let s := if a < 2 ^ 40 then
      { s with mem := { s.mem with ddr := writeBytes s.mem.ddr a (leBytes 8 (delivered (wordAt s.mem a) (maskOf s.mem a))) } }
    else s
  hotFree (setMask s a 0) a

/-- An uncorrectable word is written poisoned: data 0 with its pattern in DDR; a byte with inverted check bits. -/
def poisonAt (s : State) (a : Nat) : State :=
  if a < 2 ^ 40 then poisonWords s [a]
  else setMask s a (if byteStore s a then 0x1F00 else poisonSyn)

/-- A poisoned word of DDR is rewritten as data 0 with check bits 0 (R387). -/
def zeroWord (s : State) (a : Nat) : State :=
  setMask { s with mem := { s.mem with ddr := writeBytes s.mem.ddr a (List.replicate 8 0) } } a 0

/-- One word or byte of a pass by partition `part` in mode `mode`. -/
def scrubWord (part mode : Nat) (acc : State × Tally) (a : Nat) : State × Tally :=
  let s := acc.1
  let t := { acc.2 with words := acc.2.words + 1 }
  let y := (storedClass s a).2
  match (storedClass s a).1 with
  | .clean => (s, t)
  | .corrected _ =>
    let s := memEvent s part .scrub (.corrected a y)
    ((if mode = 0 then s else rewrite s a), { t with ce := t.ce + 1, hot := t.hot + b2n (isHot s a) })
  | .poisoned =>
    ((if mode = 2 then hotFree (zeroWord s a) a else s), { t with found := t.found + 1 })
  | .ue =>
    let s := hotFree (poisonAt (bumpChan s a (fun c => { c with ueCnt := sat32 (c.ueCnt + 1) })) a) a
    let s := markUe (errRecord (uncore s 19) (addrOwner s a) (memRecord s 0x0012 (addrOwner s a) .scrub a y 0)) a
    (s, { t with ue := t.ue + 1, poison := t.poison + 1, firstUe := if t.ue = 0 then a else t.firstUe })

/-- The words or bytes of the line at `a`. -/
def lineWords (s : State) (a : Nat) : List Nat :=
  if byteStore s a then (List.range 128).map (fun i => a + i)
  else ((List.range 16).map (fun i => a + 8 * i)).filter (fun w => (storeOf s w).isSome)

/-- One line: an invalid DDR line is skipped (R375). -/
def scrubLine (part mode : Nat) (acc : State × Tally) (a : Nat) : State × Tally :=
  if a < 2 ^ 40 && !lineValid acc.1 a then (acc.1, { acc.2 with skipped := acc.2.skipped + 1 })
  else
    let s := if a < 2 ^ 40 then
        let f := bitmapFix acc.1 a
        memEvents f.1 (addrOwner f.1 a) .scrub f.2
      else acc.1
    (lineWords s a).foldl (scrubWord part mode) (s, acc.2)

/-- `n` lines from `a` on. -/
def scrubLines (part mode : Nat) : Nat → State × Tally → Nat → State × Tally
  | 0, acc, _ => acc
  | n + 1, acc, a => scrubLines part mode n (scrubLine part mode acc a) (a + 128)

/-- The summary record (R389). -/
def scrubSummary (s : State) (e : Nat) (r : ScrubRun) (t : Tally) : Nat :=
  let sat (w v : Nat) : Nat := min v (2 ^ w - 1)
  pack [(r.mode, 2), (b2n r.aborted, 1), (e, 3), (0, 26), (r.start, 48), (0, 48), (sat 40 t.words, 40), (0, 24),
    (sat 32 t.ce, 32), (sat 32 t.ue, 32), (sat 32 t.poison, 32), (sat 32 t.found, 32), (sat 16 t.hot, 16), (0, 16),
    (t.firstUe, 48), (0, 16), (sat 32 t.skipped, 32), (0, 32), (s.st - r.accept, 64)]

/-- The pass of engine `e` goes on to line `n`. -/
def scrubTo (s : State) (e : Nat) (r : ScrubRun) (n : Nat) : State :=
  let z := scrubLines r.part r.mode (n - r.done) (s, r.tally) (r.start + 128 * r.done)
  z.1.modScrub e (fun x => { x with run := some { r with done := max r.done n, tally := z.2 } })

/-- Lines that a DDR pass has done at RATE: 750 / RATE ticks each (R388). SE4 has no least rate (R386). -/
def scrubLeast (s : State) (e : Nat) (r : ScrubRun) : Nat :=
  if e < 4 then min r.lines ((s.now - r.begun) * r.rate / 750) else 0

/-- A running pass in one tick: at RATE or faster, how much faster is open (R386, R388; DESIGN CHOICE, log 40). -/
def scrubOne (s : State) (e : Nat) : State :=
  match (s.scrub e).run with
  | none => s
  | some r =>
    if r.aborted || r.lines ≤ r.done then s
    else
      let m := max r.done (scrubLeast s e r)
      scrubTo { s with freeCtr := s.freeCtr + 1 } e r (m + Config.freeNat s.freeCtr % (r.lines - m + 1))

/-- The scrub engines in one tick. -/
def scrubTick (s : State) : State := (s.mem.scrubs.map (fun e => e.1)).foldl scrubOne s

/-- A pass ends (R388, R389): the lines that are left, unless it was aborted, its summary, UL18, and its response. -/
def execScrubPassEnd (engine : Fin 5) (s : State) : Out State :=
  let e := engine.val
  .next (match (s.scrub e).run with
    | none => s
    | some r =>
      let t := scrubTo s e r (if r.aborted then r.done else r.lines)
      let img := scrubSummary s e r (match (t.scrub e).run with | some x => x.tally | none => r.tally)
      let s := uncore (t.modScrub e (fun x => { x with run := none, last := img })) 18
      answer s r.func r.tag .ok s.st (leBytes 64 img) [])

/-! ### SCRUB_STATUS (R390) -/

def scrubStatusBody (k : Call) (s : State) : Result :=
  let e := fld k.blk 0 3
  let x := s.scrub e
  let lines := match x.run with | some r => r.done | none => 0
  checked s (0, 0)
    [(decide (e ≥ 5) || (!k.clear && fld k.blk 3 637 != 0), .badParam), (k.func != 0 && x.owner != k.who.part, .partDenied)]
    (report s
      (leBytes 80 (pack [(e, 3), (b2n x.run.isSome, 1), (x.owner, 4), (0, 56), (lines, 32), (0, 32)] + x.last * 2 ^ 128)))

def execScrubStatus (c : Frame) (s : State) : Out State := .next (serve { op := 0x0C03 } c s scrubStatusBody)

/-! ### HOTWORD_READ (R385) -/

def hotMap : FlagMap := [(26, 32), (27, 48)]

def hotImage (s : State) (f part i : Nat) : Nat :=
  let e : HotEntry := tget {} s.mem.hot i
  if e.count = 0 || (f != 0 && addrOwner s e.addr != part) then 0
  else pack [(e.addr, 48), (e.store, 4), (1, 1), (b2n e.hot, 1), (0, 10), (e.count, 16), (e.synd, 16)]

def hotwordReadBody (k : Call) (s : State) : Result :=
  let b := k.blk
  let first := fld b 0 8
  let n := fld b 8 9
  let set := bit b 17
  let head := pack [(first, 8), (n, 9), (0, 1), (if set then fld b 18 8 else s.mem.thresh, 8)] + flagImage hotMap s.mem.flags
  let out := leBytes 16 head ++ (List.range n).flatMap (fun i => leBytes 16 (hotImage s k.func k.who.part (first + i)))
  checked s (0, 0)
    [(fld b 28 4 != 0 || fld b 64 64 != 0 || (set && fld b 18 8 == 0)
        || (if k.clear then !maskOk hotMap b else fld b 26 2 != 0 || fld b 32 32 != 0), .badParam),
     (set && k.who.part != 0, .partDenied), (decide (first + n > 256), .lenExceeds)]
    (report { s with mem := { s.mem with
      thresh := if set then fld b 18 8 else s.mem.thresh
      flags := if k.clear then clearFlags s.now hotMap b s.mem.flags else s.mem.flags } } out)

def execHotwordRead (c : Frame) (s : State) : Out State := .next (serve { op := 0x0C04 } c s hotwordReadBody)

end Sys2Proof.Machine
end

