-- ==== Sys2Proof/Machine/Repair.lean ====
section
/-! DEFINITION. Self-repair and owners: REPAIR_REPORT, the remap of marked hardware, OBJ_OWNER
(20 R505 to R511, R519 to R521). -/

namespace Sys2Proof.Machine

def setRepair (s : State) (f : Repair → Repair) : State := { s with repair := f s.repair }

/-! ### REPAIR_REPORT (R511) -/

def spareCode (s : State) (k : Nat) : Nat :=
  match (s.link k).sparePos with | some i => i | none => 15

/-- SLA_POS of links 0 and 1, SLB_POS of links 2 and 3. -/
def sparePosCode (s : State) (a b : Nat) : Nat :=
  if spareCode s a != 15 then spareCode s a else if spareCode s b != 15 then 4 + spareCode s b else 15

def isArray (m : Mark) : Bool := m.kind == .row || m.kind == .column

/-- Banks with no spare row or column left: those that the field map has used up, and the factory's (R511). -/
def banksFull (s : State) : Nat :=
  Config.banksFactory.toNat + (((s.repair.rowsUsed.map (fun e => e.1)) ++ (s.repair.colsUsed.map (fun e => e.1))).eraseDups.filter
    (fun b => rowsLeft s b == 0 && colsLeft s b == 0)).length

def repairImage (s : State) : Nat :=
  let r := s.repair
  let bits (f : Nat → Bool) : List (Nat × Nat) := (List.range 12).map (fun t => (b2n (f t), 1))
  let pend (k : MarkKind) (n t : Nat) : Bool := r.marks.any (fun m => m.kind == k && m.addr / n == t)
  pack (bits (tget false r.loomSpare) ++ bits (tget false r.mvSpare) ++ bits (pend .loom 8) ++ bits (pend .core 2)
    ++ [(0, 16), (Config.rowsBuilt.toNat, 32), (Config.rowsFactory.toNat, 32), ((r.rowsUsed.map (fun e => e.2)).sum, 32),
        (Config.colsBuilt.toNat, 32), (Config.colsFactory.toNat, 32), ((r.colsUsed.map (fun e => e.2)).sum, 32),
        ((r.marks.filter isArray).length, 16), (r.unrepaired, 16), (min (banksFull s) 255, 8),
        (sparePosCode s 0 1, 4), (sparePosCode s 2 3, 4)])

def execRepairReport (c : Frame) (s : State) : Out State :=
  .next (serve { op := 0x1201 } c s fun k s =>
    checked s (0, 0) [(k.blk != 0, .badParam)] (report s (leBytes 64 (repairImage s))))

/-! ### Remaps (R507 to R510) -/

def dropMark (s : State) (m : Mark) : State := setRepair s (fun r => { r with marks := r.marks.filter (· != m) })

/-- The words copied onto a spare: corrected, or as the poison pattern or inverted check bits (R508). -/
def copyWord (s : State) (a : Nat) : State :=
  match (storedClass s a).1 with
  | .clean => s
  | .corrected _ => setMask s a 0
  | _ => poisonAt s a

def copyWhere (s : State) (p : Nat → Bool) : State :=
  ((s.mem.errs.map (fun e => e.1)).filter p).foldl copyWord s

/-- A Loom is EMPTY or LOADED with no run armed (08 R243); a core EMPTY, STOPPED or in FAULT (R508). -/
def loomQuiet (s : State) (l : Nat) : Bool := (s.loom l).state == .empty || (s.loom l).state == .loaded
def coreQuiet (s : State) (c : Nat) : Bool :=
  (s.core c).state == .empty || (s.core c).state == .stopped || (s.core c).state == .fault

/-- The quiesce of a row or column (R508); `boot`: boot step 4. -/
def arrayQuiet (s : State) (boot : Bool) (store a : Nat) : Bool :=
  let tileQuiet (t : Nat) : Bool :=
    ((s.tile t).state == .standby && (s.tile t).pend.isNone) || (s.quad (t / 3)).state == .off
  boot || (if store = 1 || store = 11 then tileQuiet ((a - 0x800000000000) / 0x400000)
    else if store = 2 then tileQuiet ((a - 0x800010000000) / 0x100000)
    else if store = 3 then loomQuiet s ((a - 0x800020000000) / 0x40000)
    else if store = 4 || store = 12 then coreQuiet s ((a - 0x800030000000) / 0x80000)
    else false)

/-- A marked row or column at its quiesce: onto a spare, or unrepaired, or its Loom or core is marked (R507 to R510). -/
def remapArray (s : State) (boot : Bool) (m : Mark) : State :=
  if !s.repair.marks.contains m || !isArray m || !arrayQuiet s boot m.store m.addr then s
  else
    let row := m.kind = .row
    let bank := Config.bankOf m.addr
    let s := dropMark s m
    if sparesLeft s row bank = 0 then
      match unitOf m.store m.addr with
      | some u => markUnit s u.1 u.2
      | none => repairNote (setRepair s (fun r => { r with unrepaired := min (r.unrepaired + 1) 0xFFFF })) 3 m.store m.addr
        (fld m.addr 16 32) (addrOwner s m.addr)
    else
      let s := copyWhere s (fun w => if row then Config.rowOf w == m.addr else Config.columnOf w (syndrome (maskOf s.mem w)) == m.addr)
      let s := setRepair s (fun r =>
        if row then { r with rowsUsed := tmod 0 r.rowsUsed bank (· + 1) } else { r with colsUsed := tmod 0 r.colsUsed bank (· + 1) })
      repairNote s 1 m.store m.addr (fld m.addr 16 32) (addrOwner s m.addr)

/-- A marked Loom at its quiesce: onto the tile's spare, or FAILED (R508, R509; 08 R243). -/
def remapLoom (s : State) (l : Nat) : State :=
  let m : Mark := { kind := .loom, store := 0, addr := l }
  if !s.repair.marks.contains m || !loomQuiet s l then s
  else
    let s := dropMark s m
    if tget false s.repair.loomSpare (tileOfLoom l) then
      repairNote ((setRepair s (fun r => { r with
          loomFailed := tset false r.loomFailed l true, unrepaired := min (r.unrepaired + 1) 0xFFFF })).modLoom l
        (fun x => { x with state := .failed })) 3 0x10 l l (loomOwner s l).part
    else
      let s := copyWhere s (fun w => decide (draftAddr l 0 0 ≤ w) && decide (w < draftAddr l 0 0 + 0x40000))
      repairNote (setRepair s (fun r => { r with loomSpare := tset false r.loomSpare (tileOfLoom l) true })) 1 0x10 l l
        (loomOwner s l).part

/-- A marked Marver core at its quiesce. -/
def remapCore (s : State) (c : Nat) : State :=
  let m : Mark := { kind := .core, store := 0, addr := c }
  if !s.repair.marks.contains m || !coreQuiet s c then s
  else
    let s := dropMark s m
    if tget false s.repair.mvSpare (tileOfCore c) then
      repairNote ((setRepair s (fun r => { r with
          mvFailed := tset false r.mvFailed c true, unrepaired := min (r.unrepaired + 1) 0xFFFF })).modCore c
        (fun x => { x with state := .failed, queue := [] })) 3 0x11 c c (coreOwner s c).part
    else
      let s := copyWhere s (fun w => decide (coreBase c ≤ w) && decide (w < coreBase c + 0x80000))
      repairNote (setRepair s (fun r => { r with mvSpare := tset false r.mvSpare (tileOfCore c) true })) 1 0x11 c c
        (coreOwner s c).part

def execRepairRemap (item : RepairItem) (s : State) : Out State :=
  .next (if !nirdinRuns s then s else match item with
    | .array store a row =>
      remapArray s false { kind := if row then .row else .column, store := store.toNat, addr := a }
    | .loom n => remapLoom s n
    | .core n => remapCore s n)

/-- Boot step 4 (R506, R508): every mark finds its hardware quiet. -/
def bootRepairs (s : State) : State :=
  let s := s.repair.marks.foldl (fun s m => remapArray s true m) s
  s.repair.marks.foldl (fun s m =>
    match m.kind with
    | .loom => remapLoom s m.addr
    | .core => remapCore s m.addr
    | _ => s) s

/-- What BIST found is repaired from the spares that remain, or found unrepairable (R506, R509, R510). -/
def bistRepair (s : State) (item : RepairItem) : State :=
  let mark (m : Mark) : State :=
    if s.repair.marks.contains m then s else setRepair s (fun r => { r with marks := r.marks ++ [m] })
  match item with
  | .array store a row =>
    let m : Mark := { kind := if row then .row else .column, store := store.toNat, addr := a }
    remapArray (mark m) true m
  | .loom n => remapLoom (mark { kind := .loom, store := 0, addr := n }) n
  | .core n => remapCore (mark { kind := .core, store := 0, addr := n }) n

def bistRepairs (s : State) (found : List RepairItem) : State :=
  let s := found.foldl bistRepair s
  s.repair.marks.foldl (fun s m =>
    match m.kind with
    | .loom => remapLoom s m.addr
    | .core => remapCore s m.addr
    | _ => s) s

/-! ### OBJ_OWNER (R521) -/

/-- The identifier is one of its type (R519). -/
def objIdOk (ty id : Nat) : Bool :=
  if ty ≤ 4 then decide (id < 65536) && tidOk id && tidKind id == ty - 1
  else if ty ≤ 7 then decide (id < 65536) && portOk id && tidKind id == ty - 5
  else match ty with
    | 8 => decide (id < 96) | 9 => decide (id < 24) | 0xA => decide (id < 1024) | 0xB => decide (id < 1024)
    | 0xC => decide (id < 1024) | 0xD => decide (id < 8) | 0xE => decide (id < 8) | 0xF => decide (id < 32)
    | 0x10 => decide (id < 64) | 0x11 => decide (id < 2) | _ => false

/-- Threads that a loaded draft names, and the markers (08 R231, R234). -/
def draftNames (s : State) (ty id : Nat) : Bool :=
  s.looms.any (fun e => e.2.words.any (fun w => (List.range 6).any (fun i =>
    let x := uSlot w.2 i
    let op := eOp x
    x != 0 && (if op = 8 then ty == 0xD && eParam x % 8 == id
      else (ty == 1 + eKind x && id == mkTid (tileOfLoom e.1) (eKind x) (eIndex x))))))

/-- A running or armed Loom, capture or pass holds the object (R521). -/
def objRunning (s : State) (ty id : Nat) : Bool :=
  match ty with
  | 8 => loomActive (s.loom id)
  | 6 => s.caps.any (fun e => (e.2.state == .armed || e.2.state == .running) && e.2.pair == id)
  | 0xC => s.caps.any (fun e => (e.2.state == .armed || e.2.state == .running)
        && decide (e.2.addr / 2 ^ 30 ≤ id) && decide (id ≤ (e.2.addr + 32 * e.2.length - 1) / 2 ^ 30))
      || s.mem.scrubs.any (fun e => match e.2.run with
        | some r => decide (r.start / 2 ^ 30 ≤ id) && decide (id ≤ (r.start + 128 * r.lines - 1) / 2 ^ 30)
        | none => false)
      || s.spools.any (fun e => e.2.valid && e.2.target == 1 && decide (e.2.base / 2 ^ 30 ≤ id)
        && decide (id ≤ (e.2.base + entryBytes e.2 * ringSize e.2 - 1) / 2 ^ 30))
  | _ => false

/-- The object that a Harness source belongs to (10 R278). -/
def sourceObj : Source → Option (Nat × Nat)
  | .relay c => some (0xA, c)
  | .line (.rtDec r) => some (2, tidOfRt r)
  | .line (.rtEarly r) => some (2, tidOfRt r)
  | .line (.loom g) => some (8, g / 4)
  | .line (.marker m) => some (0xE, m)
  | .line (.dmaDone e) => some (0xF, e)
  | .line (.hook h) => some (0x10, h)
  | _ => none

/-- An enabled Harness input, a selection on it or by it, or a Spool field names the object (10 R278, 11 R287). -/
def harnessNames (s : State) (ty id : Nat) : Bool :=
  s.harness.chans.any (fun e => (List.range 16).any (fun i => bit e.2.pen i && sourceObj (sourceOf e.1 i) == some (ty, id)))
  || (ty == 0xA && ((s.chan id).pen != 0
      || (List.range 108).any (fun v => sinkSel s v == some id)
      || s.threads.any (fun e => jumpSel s e.1 == some id) || s.bias.any (fun e => stepSel s e.1 == some id)
      || s.looms.any (fun e => (List.range 4).any (fun i => loomSel s e.1 i == some id))))
  || (ty == 0xD && (sinkSel s id).isSome) || (ty == 0xF && (sinkSel s (8 + id)).isSome)
  || (1 ≤ ty && ty ≤ 3 && (jumpSel s id).isSome) || (ty == 4 && (stepSel s (bcOfTid id)).isSome)
  || (ty == 8 && (List.range 4).any (fun i => (loomSel s id i).isSome))
  || (ty == 0x10 && s.spools.any (fun e => e.2.valid && e.2.hookEn && e.2.hook == id))
  || (ty == 0xF && s.spools.any (fun e => e.2.valid && e.2.cls == 0 && e.2.engine == id))

/-- A valid profile, binding, registration or Spool field names the object (R521). -/
def objBound (s : State) (ty id : Nat) : Bool :=
  match ty with
  | 2 => (s.rt (rtOfTid id)).profiles.any (fun p => wValid p.2) || mvValid (s.rt (rtOfTid id)).mvCfg
  | 4 => (s.bc (bcOfTid id)).qspool != 0
  | 8 => !(s.loom id).words.isEmpty
  | 9 => (s.rts).any (fun e => mvValid e.2.mvCfg && coreOfRt e.1 == id)
  | 0xB => !(s.producers id).isEmpty || s.warp.binds.any (fun e => e.2 == id + 1)
  | 0x11 => fld (tget ({} : HkUnit) s.hk.units id).cfg 48 16 != 0
  | _ => false

/-- A pending scheduled block names the object, or will enable an input on it (R465). -/
def objStaged (s : State) (ty id : Nat) : Bool :=
  s.staged.any (fun x => match x.kind with
    | .portCfg => portType x.obj == ty && x.obj == id
    | .fluxCfg => ty == 7 && x.obj == id
    | .readpairCfg => ty == 6 && x.obj == id
    | .threadCfg => tidType x.obj == ty && x.obj == id
    | .jumpCfg => (tidType x.obj == ty && x.obj == id)
        || (ty == 0xA && bit x.blk 16 && tileCand (tidTile x.obj) (jumpInput x.obj) (fld x.blk 17 3) == id)
    | .marverCtl => ty == 9 && x.obj == id
    | .biasCfg => (ty == 4 && bcOfTid id == x.obj)
        || (ty == 0xA && bit x.blk 21 && tileCand (bcTile x.obj) (112 + x.obj % 32) (fld x.blk 22 3) == id)
    | .biasCtl => ty == 4 && bcOfTid id == x.obj
    | .biasGroup => ty == 4 && tidTile id == x.obj
    | .harnessCfg => (ty == 0xA && x.obj == id)
        || (List.range 16).any (fun i => bit x.blk (16 + i) && sourceObj (sourceOf x.obj i) == some (ty, id))
    | .harnessSink => (ty == 0xA && bit x.blk 8 && uncoreCand x.obj (fld x.blk 9 3) == id)
        || (decide (x.obj < 40) && (ty, id) == sinkObj x.obj)
    | .harnessFire => ty == 0xA && x.obj == id
    | .hkCfg => ty == 0x11 && x.obj == id
    | .warpBind => ty == 0xB && fld x.blk 32 10 == id)
  || (ty == 2 && (s.rt (rtOfTid id)).swap.isSome)

/-- An enabled or pending producer input takes WARP_LATE or TILE_UNDERRUN of tile `t` (10 R278). -/
def tileLineUsed (s : State) (t : Nat) : Bool :=
  let uses (c pen : Nat) : Bool := (List.range 16).any (fun i => bit pen i &&
    (match sourceOf c i with | .line (.warpLate u) => u == t | .line (.underrun u) => u == t | _ => false))
  s.harness.chans.any (fun e => uses e.1 e.2.pen)
    || s.staged.any (fun x => x.kind == .harnessCfg && uses x.obj (fld x.blk 16 16))

def objBusy (s : State) (ty id : Nat) : Bool :=
  draftNames s ty id || objRunning s ty id || harnessNames s ty id || objBound s ty id || objStaged s ty id

/-- The object, and the flux port or thread that changes with it (R519, R521). -/
def objPair (ty id : Nat) : List (Nat × Nat) :=
  if ty = 3 || ty = 7 then [(3, id), (7, id)] else [(ty, id)]

/-- WIPE: the tile-reset configuration; a Loom or core EMPTY; a DDR region's lines invalid (R521). -/
def wipe (s : State) (ty id : Nat) : State :=
  match ty with
  | 1 => s.modThread id (resetThread s.st)
  | 2 => (s.modThread id (resetThread s.st)).modRt (rtOfTid id) (fun x => { past := x.past, swap := x.swap })
  | 3 => s.modThread id (resetThread s.st)
  | 5 => s.modPort id (resetPort s.st)
  | 6 => (s.modPort id (resetPort s.st)).modPair id (fun _ => {})
  | 7 => s.modPort id (resetPort s.st)
  | 8 => s.modLoom id warmLoom
  | 9 => s.modCore id warmCore
  | 0xC => { s with mem := { s.mem with l1 := tclear (fun k => k / 1024 == id) s.mem.l1 } }
  | _ => s

def ownerImage (ty id owner : Nat) (secure : Bool) : Nat :=
  pack [(ty, 8), (0, 8), (1, 16), (id, 32), (owner, 4), (b2n secure, 1)]

/-- One object of the range: its owner, its wipe, and its Ledger entry. -/
def setOwner (wipes : Bool) (owner : Nat) (secure : Bool) (acc : State × List LedgerItem) (o : Nat × Nat) :
    State × List LedgerItem :=
  let s := acc.1
  let old := ownerOf s o.1 o.2
  let s := { s with owners := tset {} s.owners (objKey o.1 o.2) { part := owner, secure := secure } }
  let it : LedgerItem :=
    { objType := o.1, objId := o.2, action := 0
      oldDig := digest8 (leBytes 16 (ownerImage o.1 o.2 old.part old.secure))
      newDig := digest8 (leBytes 16 (ownerImage o.1 o.2 owner secure)) }
  (if wipes then wipe s o.1 o.2 else s, acc.2 ++ [it])

def objOwnerBody (k : Call) (s : State) : Result :=
  let b := k.blk
  let ty := fld b 0 8
  let n := fld b 16 16
  let ids := (List.range (min n 1024)).map (fun i => fld b 32 32 + i)
  let objs := ids.flatMap (objPair ty)
  let moved := (objs.foldl (setOwner false (fld b 64 4) (bit b 68)) (s, [])).1
  checked s (ty, fld b 32 32)
    ([(ty == 0 || decide (ty > 0x11) || n == 0 || decide (n > 1024) || fld b 9 7 != 0 || fld b 69 59 != 0, .badParam),
      (ids.any (fun i => !objIdOk ty i), if ty ≤ 7 then .badTid else .lenExceeds),
      (objs.any (fun o => objBusy s o.1 o.2)
        || (List.range 12).any (fun t => tileLineUsed s t && tileOwner moved t != tileOwner s t), .busy)] ++ nvRefusal s)
    (let r := objs.foldl (setOwner (bit b 8) (fld b 64 4) (bit b 68)) (s, [])
     done r.1 r.2)

def execObjOwner (c : Frame) (s : State) : Out State :=
  .next (serve { op := 0x1204, pf0 := true } c s objOwnerBody)

end Sys2Proof.Machine
end

