-- ==== Sys2Proof/Machine/Synth.lean ====
section
/-! DEFINITION. What the players and the port chains do in one tick: words, gain, delay, offset mix, sum,
interpolation, carrier, predistortion, skew trim, codes, and what leaves the balls (03 R57 to R80, 07 R177 to R185).
Values are integers in units of the stage's last fraction bit. The close of tick k forms the samples labelled
32k to 32k + 31. -/

namespace Sys2Proof.Machine

/-- A list of zeros is not kept. -/
def sparse {α : Type} [DecidableEq α] (z : α) (l : List α) : List α := if l.all (fun x => x == z) then [] else l

/-! ### Samples of a tick (03 R61, 04 R108) -/

/-- Fill sample number `n` since real words ended (R108): `real` is newest first. -/
def fillSample (ufill : Nat) (real : List (BitVec 32)) (n : Nat) : BitVec 32 :=
  match ufill with
  | 1 => real.headD 0
  | 2 =>
    let l := (real.take 64).reverse
    if l.isEmpty then 0 else l.getD (n % l.length) 0
  | _ => 0

/-- G = AMP × SCALE (03 R62). -/
def gainOf (amp scale : Int) : Int := min (convRound (amp * scale) 17) 131071

/-- One envelope sample after the gain stage (03 R60, R62). -/
def gained (g : Int) (e : BitVec 32) : Int × Int :=
  (min (convRound (sgn 16 (e.toNat % 65536) * g) 15) 131071, min (convRound (sgn 16 (e.toNat / 65536) * g) 15) 131071)

/-- Gain and level of a flux sample, and its clip (07 R179); −1.0 × −1.0 is formed as 1 − 2^-17 (03 R60). -/
def levelled (g lvl : Int) (e : BitVec 32) : Int × Bool :=
  let x := min (sgn 16 (e.toNat % 65536) * g) (131071 * 2 ^ 15) + lvl * 2 ^ 15
  (convRound (clip (-131072 * 2 ^ 15) (131071 * 2 ^ 15) x) 15, x < -131072 * 2 ^ 15 || x > 131071 * 2 ^ 15)

/-- What the envelope samples of tick `k` are (R61, R107 to R109): the word's two, oldest first, or the fill's. -/
def feedThread (s : State) (t k : Nat) : Thread :=
  let x := s.thread t
  match playAt x k with
  | none => { x with feed := [0, 0] }
  | some p =>
    match readTick s t k p with
    | .ok w =>
      let a := BitVec.ofNat 32 w
      let b := BitVec.ofNat 32 (w / 2 ^ 32)
      { x with feed := [a, b], real := (b :: a :: x.real).take 64, fillPos := 0, lastRead := some k }
    | .error _ =>
      { x with feed := [fillSample (dUfill p.desc) x.real x.fillPos, fillSample (dUfill p.desc) x.real (x.fillPos + 1)]
               fillPos := x.fillPos + 2, lastRead := some k }

/-- G of a thread in tick `k`; 0 with nothing playing. -/
def tickGain (x : Thread) (k : Nat) : Int :=
  match playAt x k with | some p => gainOf x.amp (dScale p.desc) | none => 0

/-! ### The delay stage (03 R63, R74; DEDUCED, log 27) -/

/-- Cubic Lagrange at `u`/1024 behind sample x0, between x1 (newer) and xm1, xm2 (older). -/
def farrow (u : Nat) (x1 x0 xm1 xm2 : Int) : Int :=
  let u : Int := u
  let v : Int := 1024
  roundEven (-(u * (v - u) * (2 * v - u)) * x1 + 3 * (u + v) * (v - u) * (2 * v - u) * x0
    + 3 * (u + v) * u * (2 * v - u) * xm1 - (u + v) * u * (v - u) * xm2) (6 * v * v * v)

/-- D in 1/1024 envelope sample (R63). -/
def delayOf (x : Thread) : Nat := 64 * x.placeC + x.placeF

/-- What the stage forms when sample `i` (0 older, 1 newer) of the newest tick enters it: the envelope one sample
before, delayed by D. `hist` is newest first. -/
def delayed (x : Thread) (i : Nat) : Int × Int :=
  let w := delayOf x / 1024
  let u := delayOf x % 1024
  let at_ (j : Nat) : Int × Int := x.hist.getD (1 - i + w + j) (0, 0)
  if u = 0 then at_ 1
  else (farrow u (at_ 0).1 (at_ 1).1 (at_ 2).1 (at_ 3).1, farrow u (at_ 0).2 (at_ 1).2 (at_ 2).2 (at_ 3).2)

/-- The offset mix by a phase (03 R64). Neither it nor the delay stage has a clip: a component beyond 18 bits keeps
its value (DESIGN CHOICE, log 106). -/
def offsetMix (ph : Nat) (v : Int × Int) : Int × Int :=
  if v = (0, 0) then v
  else
    let c := cosSin ph
    (convRound (v.1 * c.1 - v.2 * c.2) 17, convRound (v.1 * c.2 + v.2 * c.1) 17)

/-- The phase ψ of a thread at label `n` (R64). -/
def offsetPhase (x : Thread) (n : Nat) : Nat := phase32 x.fo (phaseOffset x.zacc) n

/-- Flags on their way at a port, from device tick `t` (R57). -/
def portDue (s : State) (p t f n : Nat) : State :=
  if n = 0 then s else s.modPort p (fun x => { x with due := x.due ++ [(t, f, n)] })

/-- A read of a tick word: memory events, and the ring moves on (04 R106, R109). -/
def takeWord (s : State) (t k : Nat) : State :=
  match playAt (s.thread t) k with
  | none => s
  | some p =>
    let a := wordAddr t k p
    let m := maskOf s.mem a
    let s := if m ≠ 0 && !badWord m then memEvents s (threadOwner s t).part (.tile (tidTile t)) (wordEvents a m) else s
    if dStreamed p.desc && !p.busy then
      let u := p.base + (k - p.first) + 1
      s.modBobbin (tidTile t) (fun b => { b with rings := tmod {} b.rings (dSlot p.desc) (fun r => { r with
        used := max r.used u, words := r.words.filter (fun e => decide (u ≤ e.1))
        bad := r.bad.filter (fun e => decide (u ≤ e.1)) }) })
    else s

/-- A thread passes tick `k`, whose first label is `n`: reads, gains, delays and mixes two samples (R61 to R64, 07 R179). -/
def closeThread (s : State) (t k n : Nat) : State :=
  let flux := tidKind t == 2
  let f := feedThread s t k
  let g := tickGain (s.thread t) k
  let out := f.feed.map (fun e => if flux then (((levelled g f.lvl e).1, 0) : Int × Int) else gained g e)
  let f := { f with hist := sparse (0, 0) ((out.reverse ++ f.hist).take 32) }
  let d0 := delayed f 0
  let d1 := delayed f 1
  let f := { f with
    mixed := sparse (0, 0) (if flux then [d0, d1] else [offsetMix f.late d0, offsetMix (offsetPhase f n) d1])
    feed := sparse 0 f.feed
    late := if flux then 0 else offsetPhase f (n + 16) }
  let s := (takeWord s t k).modThread t (fun _ => f)
  portDue s (portOfTid t) (k + 3) fSumSat
    (if flux then (f.feed.filter (fun e => (levelled g f.lvl e).2)).length else 0)

/-! ### Interpolation (03 R66, 07 R177, R184; DESIGN CHOICE, log 20) -/

/-- The odd-phase taps of a half-band stage of `n`: the first makes the gain at DC exactly 1. -/
def bandTaps (free : Nat → Int) (n : Nat) : List Int :=
  let r := (List.range (n - 1)).map free
  (2 ^ 19 - r.sum) :: r

/-- A half-band stage's response at phase step `ph` (32-bit fraction of a turn per output sample), DC = 2^37. -/
def bandAt (c : List Int) (ph : Nat) : Int :=
  2 ^ 36 + (c.zipIdx.map (fun x => x.1 * (cosSin (ph * (2 * x.2 + 1) % 2 ^ 32)).1)).sum

/-- The cascade's response at `f` MHz, DC = 2^148. -/
def cascadeAt (cs : List (List Int)) (f : Nat) : Int :=
  (cs.zipIdx.map (fun c => bandAt c.1 (f * 2 ^ 32 / (3000 * 2 ^ c.2) % 2 ^ 32))).prod

/-- The bounds of R66, every 10 MHz: ±0.01 dB to 600 MHz, 80 dB from 900 MHz. -/
def cascadeOk (cs : List (List Int)) : Bool :=
  (List.range 1201).all (fun i =>
    let h := cascadeAt cs (10 * i)
    if i ≤ 60 then decide ((h - 2 ^ 148).natAbs * 100000 ≤ 115 * 2 ^ 148)
    else decide (i < 90) || decide (h.natAbs * 10000 ≤ 2 ^ 148))

/-- Taps that keep the bounds of R66. -/
def exampleTaps : List (List Int) :=
  [[663891, -211783, 116299, -72606, 47027, -30426, 19238, -11692, 6721, -3584, 1724, -712, 227, -36],
   [647122, -167615, 59144, -17532, 3311, -142], [627200, -125440, 25088, -2560], [614400, -102400, 12288]]

/-- The interpolator's taps: not published, within the bounds of R66 (DESIGN CHOICE, log 20). -/
def driveTaps : List (List Int) :=
  let cs := [14, 6, 4, 3].zipIdx.map (fun x => bandTaps (Config.halfBand (Fin.ofNat 4 x.2)) x.1)
  if cascadeOk cs then cs else exampleTaps

def fluxTaps : List (List Int) := [7, 3].zipIdx.map (fun x => bandTaps (Config.fluxBand (Fin.ofNat 2 x.2)) x.1)

/-- One half-band stage: the 2 `n` newest outputs, newest first, from inputs that are newest first; exact, with 20
fraction bits more. -/
def upOne (c : List Int) (n : Nat) (xs : List Int) : List Int :=
  let h := c.length
  (List.range n).flatMap (fun t =>
    [(c.zipIdx.map (fun q => q.1 * (xs.getD (t + h + q.2) 0 + xs.getD (t + h - 1 - q.2) 0))).sum,
     2 ^ 20 * xs.getD (t + h) 0])

/-- A cascade, with the input counts of its stages. -/
def upAll : List (List Int × Nat) → List Int → List Int
  | [], xs => xs
  | (c, n) :: r, xs => upAll r (upOne c n xs)

/-- The 32 samples of a tick from the sums before it, oldest first (R66). -/
def interpolated (xs : List Int) : List Int :=
  ((upAll (driveTaps.zip [10, 9, 11, 16]) (xs.drop 1)).map (fun v => convRound v 80)).reverse

/-- The 8 flux samples of a tick (07 R177). -/
def interpolated4 (xs : List Int) : List Int :=
  ((upAll (fluxTaps.zip [5, 4]) (xs.drop 1)).map (fun v => convRound v 40)).reverse

/-- R67: threads whose |G| add up to at most 1, with envelopes in the unit disc, never leave it
(DEDUCED, log 142). -/
def inDisc (safe : Bool) (v : Int × Int) : Int × Int :=
  let r : Nat := Nat.sqrt (v.1 * v.1 + v.2 * v.2).toNat
  if safe && decide (131071 ≤ r) then (v.1 * 131071 / (r + 1), v.2 * 131071 / (r + 1)) else v

/-! ### Carrier and predistortion (03 R67, R68, R70; 07 R182, R183) -/

def portThreads (p : Nat) : List Nat :=
  (List.range (portSlots p)).map (fun i => mkTid (tidTile p) (tidKind p) (portSlots p * tidIndex p + i))

/-- A filter's sum over the newest samples. -/
def firSum (c : Tbl Int) (taps : Nat) (ys : List Int) : Int :=
  ((ys.take taps).zipIdx.map (fun y => coef c y.2 * y.1)).sum

/-- The gained value that thread `x` held over the 24 envelope samples before sample `i` of the tick at label `n`, with a
constant frame (R70); none: no such value. -/
def steady (x : Thread) (since n i : Nat) : Option (Int × Int) :=
  let j : Int := (64 * (i : Int) - delayOf x) / 1024
  let a := (1 - j).toNat
  let old : Int := 64 * ((n : Int) + 16 * (j - 23)) + delayOf x
  let g := x.hist.getD a (0, 0)
  if (List.range 24).all (fun m => x.hist.getD (a + m) (0, 0) == g)
      && (g == (0, 0) || (decide ((64 * ((x.frames.headD (0, 0, 0)).1 : Int)) ≤ old)
        && decide ((64 * (since : Int)) ≤ old)))
  then some g else none

/-- The range of y' that R70 allows sample `i` of the tick: the ideal value with 34 fraction bits, and whether one
thread alone is not silent. -/
def idealOf (s : State) (p n i : Nat) : Option (Int × Bool) :=
  let x := s.port p
  let since := (x.carriers.headD (0, 0)).1
  let gs := (portThreads p).map (fun t => (t, steady (s.thread t) since n i))
  if gs.any (fun g => g.2.isNone) then none
  else
    let on := gs.filterMap (fun g => match g.2 with | some v => if v == (0, 0) then none else some (g.1, v) | none => none)
    if on.length > 1 && x.gains.any (fun g => decide (g > 131072)) then none
    else some ((on.map (fun g =>
      let th := s.thread g.1
      let c := cosSin (phase32 (x.carrier + th.fo) (phaseOffset th.zacc) (n + i))
      g.2.1 * c.1 - g.2.2 * c.2)).sum, decide (on.length ≤ 1))

/-- y' within 1 code of the ideal value, 2 codes with several threads of a readout pair (R70;
DESIGN CHOICE, log 20). -/
def nearIdeal (kind : Nat) (v : Option (Int × Bool)) (z : Int) : Int :=
  match v with
  | none => z
  | some (v, single) =>
    let t : Int := if kind = 1 && !single then 6 else 2
    clip (-(-(v - t * 2 ^ 19) / 2 ^ 19)) ((v + t * 2 ^ 19) / 2 ^ 19) z

/-- One output sample of a drive port at label `n` from the interpolated sum; `ideal`: what R70 allows. Answers also
whether the carrier mix and the predistortion clipped. -/
def driveSample (x : Port) (kind n : Nat) (ideal : Option (Int × Bool)) (v : Int × Int) : Port × Bool × Bool :=
  let c := if v = (0, 0) then (0, 0) else cosSin (phase32 x.carrier 0 n)
  let y := v.1 * c.1 - v.2 * c.2
  let sat := decide (y < -(2 ^ 34) ∨ y > 131071 * 2 ^ 17)
  let ys := (convRound (clip (-(2 ^ 34)) (131071 * 2 ^ 17) y) 17 :: x.ys).take 64
  let z := firSum (activePd x) 32 ys
  let pd := decide (z < -32768 * 2 ^ 18 ∨ z > 32764 * 2 ^ 18)
  let z := convRound (clip (-32768 * 2 ^ 18) (32764 * 2 ^ 18) z) 18
  let z := if sat || pd || !(activePd x).isEmpty then z else clip (-32768) 32764 (nearIdeal kind ideal z)
  ({ x with ys := ys, zs := (z, !x.outEn || decide (n < x.settle)) :: x.zs }, sat, pd)

/-- One flux sample at label `n`: IIR sections, FIR (07 R182, R183). -/
def fluxSample (x : Port) (n : Nat) (v : Int) : Port × Bool × Bool :=
  let b := activePd x
  let hs := (List.range 4).map (fun i =>
    let p := tget 0 b (64 + i)
    convRound (p * x.iir.getD i 0 + (2 ^ 24 - p) * (v * 2 ^ 21)) 24)
  let y := v * 2 ^ 37 + ((List.range 4).map (fun i => tget 0 b (68 + i) * (hs.getD i 0 - v * 2 ^ 21))).sum
  let p1 := decide (y < -131072 * 2 ^ 37 ∨ y > 131071 * 2 ^ 37)
  let ys := (convRound (clip (-131072 * 2 ^ 37) (131071 * 2 ^ 37) y) 37 :: x.ys).take 64
  let z := firSum (b.filter (fun e => decide (e.1 < 64))) 64 ys
  let p2 := decide (z < -32768 * 2 ^ 18 ∨ z > 32767 * 2 ^ 18)
  let z := convRound (clip (-32768 * 2 ^ 18) (32767 * 2 ^ 18) z) 18
  ({ x with iir := hs, ys := ys, zs := (z, !x.outEn || decide (n < x.settle)) :: x.zs }, p1, p2)

/-! ### Skew trim and codes (03 R69, R80, R83; 07 R184) -/

/-- Samples of a tick at a port's rate. -/
def perTick (flux : Bool) : Nat := if flux then 8 else 32

/-- y' delayed by `skew`/64 samples at place `b` of the newest-first list: whole samples shift, a fraction is filtered
(DESIGN CHOICE, log 20). -/
def trimmed (flux : Bool) (skew : Int) (zs : List (Int × Bool)) (b : Nat) : Int :=
  let unit : Int := if flux then 256 else 64
  let i := ((b : Int) + skew / unit).toNat
  let r := (skew % unit).toNat * (if flux then 1 else 4)
  let at_ (j : Nat) : Int := (zs.getD j (0, true)).1
  if r = 0 then at_ i
  else
    let rest := ((List.range 7).map (fun j => Config.trimTap r j))
    let top : Int := if flux then 32767 else 32764
    let v := convRound ((2 ^ 16 - rest.sum) * at_ i
      + (rest.zipIdx.map (fun c => c.1 * at_ (i + 4 - c.2 - (if c.2 < 4 then 0 else 1)))).sum) 16
    if -32768 ≤ v && decide (v ≤ top) then v else (Config.trimOver v % (32769 + top.toNat) : Nat) - 32768

/-- Whether the label that leaves the ball at place `b` is muted. -/
def trimMuted (flux : Bool) (skew : Int) (zs : List (Int × Bool)) (b : Nat) : Bool :=
  let unit : Int := if flux then 256 else 64
  (zs.getD ((b : Int) + skew / unit + (if skew % unit = 0 then 0 else 1)).toNat (0, true)).2

/-- The codes of the tick before the newest, oldest first, whose device tick is `k`: none where a label is muted. -/
def tickCodes (flux : Bool) (x : Port) (k : Nat) : List (Option Int) :=
  (List.range (perTick flux)).map (fun i =>
    let b := 2 * perTick flux - 1 - i
    if trimMuted flux x.skew x.zs b then none
    else
      let v := trimmed flux x.skew x.zs b
      let v := match x.trims with
        | some (old, t) => if t = k then
            let lo : Int := -32768
            max lo (min (if flux then 32767 else 32764) (Config.trimBoth (trimmed flux old x.zs b) v)) else v
        | none => v
      some (if flux then v else convRound v 2))

/-- A tick of codes enters the way to the ball, which takes 32 ticks (R57, R58). -/
def pushCodes (flux : Bool) (x : Port) (k : Nat) : Port :=
  let cs := tickCodes flux x k
  let cs := if cs.all (fun c => c == cs.headD none) then cs.take 1 else cs
  if cs.all (fun c => c.isNone) then x else { x with out := x.out ++ [(k + 32, cs)] }

/-! ### A port in one tick -/

/-- The samples of the tick at label `n` pass the chain; a chain that holds nothing gives zeros. -/
def passSamples (s : State) (p n : Nat) (x : Port) : Port × Nat × Nat :=
  let flux := tidKind p == 2
  let quiet := x.sums.isEmpty && x.ys.isEmpty && x.iir.isEmpty
  let vs : List (Int × Int) :=
    if quiet || x.sums.isEmpty then List.replicate (perTick flux) (0, 0)
    else if flux then (interpolated4 (x.sums.map (fun v => v.1))).map (fun v => (v, 0))
    else
      let safe := x.gains.all (fun g => decide (g ≤ 131072)) && x.discs.all id
      ((interpolated (x.sums.map (fun v => v.1))).zip (interpolated (x.sums.map (fun v => v.2)))).map (inDisc safe)
  let step (a : Port × Nat × Nat) (v : (Int × Int) × Nat) : Port × Nat × Nat :=
    let l := n + (32 / perTick flux) * v.2
    if quiet then ({ a.1 with zs := (0, !x.outEn || decide (l < x.settle)) :: a.1.zs }, a.2)
    else
      let r := if flux then fluxSample a.1 l v.1.1 else driveSample a.1 (tidKind p) l (idealOf s p n v.2) v.1
      (r.1, a.2.1 + b2n r.2.1, a.2.2 + b2n r.2.2)
  let r := vs.zipIdx.foldl step (x, 0, 0)
  ({ r.1 with ys := sparse 0 r.1.ys, iir := sparse 0 r.1.iir, zs := sparse (0, true) (r.1.zs.take 72) }, r.2)

/-- The port's chain passes tick `k`, whose first label is `n` (R57). -/
def closePort (s : State) (p k n : Nat) : State :=
  let flux := tidKind p == 2
  let ts := (portThreads p).map s.thread
  let sumAt (i : Nat) : Int × Int :=
    ((ts.map (fun t => (t.mixed.getD i (0, 0)).1)).sum, (ts.map (fun t => (t.mixed.getD i (0, 0)).2)).sum)
  let g : Int := (ts.map (fun t => ((tickGain t k).natAbs : Int))).sum
  let disc := ts.all (fun t => t.feed.all (fun e =>
    decide (sgn 16 (e.toNat % 65536) ^ 2 + sgn 16 (e.toNat / 65536) ^ 2 ≤ 2 ^ 30)))
  let x := s.port p
  let x := { x with
    sums := sparse (0, 0) ((sumAt 1 :: sumAt 0 :: x.sums).take 40)
    gains := sparse 0 ((g :: x.gains).take 21), discs := sparse true ((disc :: x.discs).take 21) }
  let r := passSamples s p n x
  let s := s.modPort p (fun _ => pushCodes flux r.1 (k - 1))
  if flux then portDue (portDue s p (k + 14) fPdSat r.2.1) p (k + 20) fPdSat r.2.2
  else portDue (portDue s p (k + 19) fSumSat r.2.1) p (k + 23) fPdSat r.2.2

/-- The chain of a tile that is not ACTIVE stands still and holds nothing: its last tick goes on to the ball. -/
def haltPort (s : State) (p k : Nat) : State :=
  let flux := tidKind p == 2
  let x := s.port p
  if x.zs.isEmpty && x.sums.isEmpty && x.ys.isEmpty then s
  else
    let x := { x with zs := List.replicate (perTick flux) (0, true) ++ x.zs }
    s.modPort p (fun _ => { pushCodes flux x (k - 1) with sums := [], gains := [], discs := [], ys := [], zs := [] })

/-! ### The balls (03 R79, R80; 07 R185) -/

/-- Mutes that reach the ball 16 ticks after they begin, and mutes that reach it at an instant within 16 ticks (R80). -/
def cutHard (s : State) (p : Nat) : Bool :=
  !tileActive s (tidTile p) || stopOrderly s (tidTile p / 3) || s.gaf.state == .sealed
def cutSoft (s : State) (p : Nat) : Bool := clockMuted s p || s.lehr.tripped

/-- The cut at the ball, as the mutes of the present tick leave it (R80; DEDUCED, log 107). -/
def markCut (s : State) (p : Nat) : State :=
  let x := s.port p
  if !cutHard s p && !cutSoft s p then s.modPort p (fun x => { x with cutAt := none })
  else match x.cutAt with
  | some _ => s
  | none =>
    if !(s.tile (tidTile p)).everActive then s.modPort p (fun x => { x with cutAt := some s.now })
    else if cutSoft s p then
      let f := s.fresh
      f.2.modPort p (fun x => { x with cutAt := some (s.now + 1 + Config.freeNat f.1 % 16) })
    else s.modPort p (fun x => { x with cutAt := some (s.now + 16) })

/-- What leaves a port's ball in the present tick, by sample, oldest first: codes, none where the output is muted. -/
def ballSamples (s : State) (p : Nat) : List (Option Int) :=
  let n := perTick (tidKind p == 2)
  let x := s.port p
  let cut := !(s.tile (tidTile p)).everActive || (match x.cutAt with | some t => decide (t ≤ s.now) | none => false)
  if cut then List.replicate n none
  else match x.out.find? (fun e => e.1 == s.now) with
    | none => List.replicate n none
    | some (_, [c]) => List.replicate n c
    | some (_, cs) => cs

/-- Flags that are due, and codes that have left (R57, R58). -/
def openPort (s : State) (p : Nat) : State :=
  let due := (s.port p).due.filter (fun d => decide (d.1 ≤ s.now))
  s.modPort p (fun x => { x with
    flags := due.foldl (fun f d => (List.range d.2.2).foldl (fun f _ => hit s.now f d.2.1) f) x.flags
    due := x.due.filter (fun d => decide (s.now < d.1))
    out := x.out.filter (fun e => decide (s.now ≤ e.1)) })

/-! ### All players -/

/-- Ports whose chain holds or gets something: those with a listed thread, or listed themselves. -/
def livePorts (s : State) : List Nat :=
  (((s.threads.map (fun e => portOfTid e.1)) ++ s.ports.map (fun e => e.1)).eraseDups).filter
    (fun p => decide (tidKind p < 3))

/-- Every thread player and port chain passes tick `k`, whose first label is `n`. -/
def closePlayers (s : State) (k n : Nat) : State :=
  let ts := (s.threads.map (fun e => e.1)).filter (fun t => tileActive s (tidTile t) && decide (tidKind t < 3))
  let s := ts.foldl (fun s t => closeThread s t k n) s
  (livePorts s).foldl (fun s p =>
    markCut (if tileActive s (tidTile p) then closePort s p k n else haltPort s p k) p) s

/-- The tick begins at the ports. -/
def openPlayers (s : State) : State := (s.ports.map (fun e => e.1)).foldl openPort s

end Sys2Proof.Machine
end

