-- ==== Sys2Proof/Machine/WallClock.lean ====
section
/-! DEFINITION. Wall time: timing ports, domains, the servo's results and the active set (16 R433 to R448). What
a servo estimates is a free value: the spec gives no algorithm (DESIGN CHOICE, log 36). -/

namespace Sys2Proof.Machine

def State.dom (s : State) (d : Nat) : Domain := tget {} s.wallTime.doms d
def State.modDom (s : State) (d : Nat) (g : Domain → Domain) : State :=
  { s with wallTime := { s.wallTime with doms := tmod {} s.wallTime.doms d g } }
def State.tport (s : State) (p : Nat) : TimePort := tget {} s.wallTime.ports p

def wStep : Nat := 8
def wLoss : Nat := 9
def wSwitch : Nat := 10

def wallHit (s : State) (f : Nat) : State :=
  { s with wallTime := { s.wallTime with flags := hit s.now s.wallTime.flags f } }

/-- WALL_EVT (R448). -/
def wallEvt (s : State) : State :=
  if s.harness.asserts.any (fun a => a.line == .uncore 25 && a.tick == s.now) then s else uncore s 25

/-- The active domain (R447): A is 0. -/
def activeDom (s : State) : Nat := s.wall.dom

/-- HOLD_MAX in ticks (R441, R445). -/
def holdTicks (x : Domain) : Nat := x.holdMax * 750000000

/-- VALID as the active domain gives it (R441, R443). -/
def validNow (s : State) : Bool :=
  let x := s.dom (activeDom s)
  s.time.mode != .lost &&
    (x.state == .locked
      || (s.wall.valid && match s.wallTime.hold with
          | some t => decide (s.now < t + holdTicks x)
          | none => false))

/-- VALID follows; a loss sets WLOSS (R447, R448). -/
def refreshValid (s : State) : State :=
  let v := validNow s
  if v = s.wall.valid then s
  else
    let s := { s with wall := { s.wall with valid := v } }
    wallEvt (if v then s else wallHit s wLoss)

/-- Domain estimate minus the reading at ST `n`, in 2^-16 ns (R447). -/
def domError (s : State) (d n : Nat) : Int := sgn 80 (enc 80 ((wallAt (s.dom d).est n : Int) - wallAt s.wall n))

/-! ### The active set (R437, R442) -/

/-- The limit of RATE (R436). -/
def rateLimit : Int := 0x4189374BC7

/-- The limit of R442 on |RATE − R_d|. -/
def slewLimit (x : Domain) : Int := roundEven ((x.slew : Int) * 2 ^ 48) 1000000000

/-- A servo's rate, within the bounds of R436 and R442. -/
def servoRate (s : State) (x : Domain) : State × Int :=
  let l := slewLimit x
  let v := x.est.rate + Config.freeInt s.freeCtr % (2 * l + 1) - l
  ({ s with freeCtr := s.freeCtr + 1 }, clip (-rateLimit) rateLimit v)

/-- WALL_SET_UPDATE (R437, R442): what waits applies at this slow-tick boundary. -/
def execWallSetUpdate (s : State) : Out State :=
  let n := s.st
  let w := s.wallTime
  .next (
    if !slowNow s || (!w.update && !w.step && w.switch.isNone) then s
    else
      let s := { s with wallTime := { w with update := false, step := false, switch := none } }
      let s := match w.switch with
        | some (d, auto) =>
          if d = activeDom s then s
          else
            let err := domError s d n
            let s := wallEvt { s with wall := { s.wall with dom := d }, wallTime := { s.wallTime with hold := none } }
            event s 0 0x8006 (leBytes 24 (pack [(d, 8), (b2n auto, 8), (0, 48), (n, 64), (enc 64 err, 64)]))
        | none => s
      -- while VALID = 0 the set keeps its last RATE (R441)
      let x := s.dom (activeDom s)
      let r := if validNow s then servoRate s x else (s, s.wall.rate)
      let s := if w.step then
          wallEvt (wallHit { r.1 with wall := { r.1.wall with offset := wallAt x.est n, base := n, rate := r.2 } } wStep)
        else { r.1 with wall := { r.1.wall with offset := wallAt r.1.wall n, base := n, rate := r.2 } }
      refreshValid s)

/-! ### States of a domain (R441) -/

/-- The error of a domain exceeds its STEP_LIMIT (R441, R446). -/
def tooFarOff (s : State) (d : Nat) : Bool :=
  decide ((domError s d s.st).natAbs > (s.dom d).stepLimit * 1000 * 65536)

/-- The active domain leaves LOCKED: with AUTO the other takes over where a WALL_SWITCH without FORCE_STEP could go to it
(R442, R446; DEDUCED, log 139). -/
def leftLocked (s : State) (d : Nat) : State :=
  let o := 1 - d
  if activeDom s = d && (s.dom d).auto && (s.dom o).state == .locked && !tooFarOff s o && s.wallTime.switch.isNone then
    wallHit { s with wallTime := { s.wallTime with switch := some (o, true), step := false } } wSwitch
  else s

def setDom (s : State) (d : Nat) (st : DomState) : State :=
  let old := (s.dom d).state
  if old = st then s
  else
    let s := s.modDom d (fun x => { x with
      state := st, syncs := if st = .locked then x.syncs else 0, delays := if st = .locked then x.delays else 0 })
    let s := if activeDom s = d then
        { s with wallTime := { s.wallTime with hold := if st = .holdover then some s.now else none } }
      else s
    -- the first lock of an active domain while VALID = 0 steps (R437)
    let s := if st = .locked && activeDom s = d && !s.wall.valid then
        { s with wallTime := { s.wallTime with step := true } }
      else s
    refreshValid (if old = .locked then leftLocked s d else s)

/-- Announce data sets in the order of the default algorithm (R434; PRESUMED from IEEE 1588, log 37). -/
def announceKey (a : Announce) : Nat :=
  pack [(a.steps.toNat, 16), (a.identity.toNat, 64), (a.priority2.toNat, 8), (a.variance.toNat, 16),
        (a.accuracy.toNat, 8), (a.clockClass.toNat, 8), (a.priority1.toNat, 8)]

/-- The best of the masters heard. -/
def bestMaster (l : List Announce) : Option Announce :=
  l.foldl (fun b a => match b with
    | none => some a
    | some c => if announceKey a < announceKey c then some a else some c) none

/-- Master selection (R434, R441). -/
def selectMaster (s : State) (d : Nat) : State :=
  let x := s.dom d
  let m := bestMaster x.masters
  let changed := m.map (fun a => a.identity) != x.master.map (fun a => a.identity)
  let s := s.modDom d (fun x => { x with master := m })
  if m.isNone then (if x.state == .locked || x.state == .holdover then s else setDom s d .listen)
  else if changed || x.state == .listen then setDom s d .acquire
  else s

/-- A restart of a servo's history (R443). The domain keeps its state: the rule names no change of VALID (DEDUCED, log 139). -/
def restartServo (s : State) (d : Nat) : State :=
  s.modDom d (fun x => { x with syncs := 0, delays := 0, syncAt := none, reqAt := none, respAt := none })

/-! ### Timestamps (R435) -/

/-- EGR and ING of a port's mode, in samples: 10GBASE-R, then 25GBASE-R, by FEC. -/
def portDelays (p : TimePort) : Nat × Nat :=
  if p.speed = 0 then (2160, if p.fec = 0 then 3312 else 4896)
  else if p.fec = 0 then (1104, 1632) else if p.fec = 1 then (1104, 3264) else (1392, 6240)

/-- The stamp of an event message whose start of frame passes in sample `i` of the present tick. -/
def stampAt (s : State) (i : Fin 32) : Nat := s.st + i.val

/-- ST at which an ingress frame reached the balls, and at which an egress frame leaves them. -/
def ingress (p : TimePort) (stamp : Nat) : Int := (stamp : Int) - (portDelays p).2
def egress (p : TimePort) (stamp : Nat) : Int := (stamp : Int) + (portDelays p).1

/-- A Pdelay_Req is answered in one step, with the turnaround time in the correctionField, in 2^-16 ns (R434). When the answer
leaves is free (DESIGN CHOICE, log 132). -/
def answerPdelay (s : State) (port : Nat) (stamp : Nat) : State :=
  let p := s.tport port
  let out := stamp + Config.freeNat s.freeCtr
  ({ s with freeCtr := s.freeCtr + 1 }).send
    (.pdelayResp port out (roundEven ((egress p out - ingress p stamp) * 125 * 65536) 3))

/-- Sixteen consecutive exchanges (R441). -/
def checkLock (s : State) (d : Nat) : State :=
  let x := s.dom d
  if x.state == .acquire && decide (x.syncs ≥ 16) && decide (x.delays ≥ 16) then setDom s d .locked else s

/-- A usable Sync (R441), stamped at the ball (R435): the servo's new estimate, and whether its error is at most 1 µs
(DESIGN CHOICE, log 36). A locked active domain updates the set, by a step beyond STEP_LIMIT. -/
def takeSync (s : State) (d : Nat) (at_ : Int) : State :=
  let c := s.freeCtr
  let good := Config.freeBool (c + 2)
  let est : WallSet :=
    { offset := Config.freeNat c % 2 ^ 80, base := enc 64 at_, rate := clip (-rateLimit) rateLimit (Config.freeInt (c + 1)) }
  let s := { s with freeCtr := c + 3 }
  let s := s.modDom d (fun x => { x with
    est := est, syncAt := some at_, syncs := if good then x.syncs + 1 else 0, delays := if good then x.delays else 0 })
  let s := if !good || (s.dom d).state == .holdover then setDom s d .acquire else checkLock s d
  let x := s.dom d
  if x.state == .locked && activeDom s == d && s.wall.valid then
    { s with wallTime := { s.wallTime with
        update := true
        step := s.wallTime.step || tooFarOff s d } }
  else s

/-- PTP_MESSAGE (R434): management messages are discarded. -/
def execPtpMessage (dom : Fin 2) (msg : PtpMessage) (s : State) : Out State :=
  let d := dom.val
  let x := s.dom d
  .next (
    if !x.en || !(s.tport x.port).en || !s.power.core || !nirdinRuns s then s
    else match msg with
      | .announce a =>
        if a.steps.toNat ≥ 255 then s
        else selectMaster (s.modDom d (fun x => { x with
          masters := x.masters.filter (fun b => b.identity != a.identity) ++ [a] })) d
      | .announceTimeout =>
        selectMaster (s.modDom d (fun x => { x with
          masters := x.masters.filter (fun b => some b.identity != x.master.map (fun a => a.identity)) })) d
      | .sync usable i => if x.master.isSome && usable then takeSync s d (ingress (s.tport x.port) (stampAt s i)) else s
      | .delayExchange i =>
        if x.master.isSome && x.reqAt.isSome then checkLock (s.modDom d (fun x => { x with
          delays := x.delays + 1
          respAt := if x.peer then some (ingress (s.tport x.port) (stampAt s i)) else none })) d
        else s
      | .pdelayReq i => if x.peer then answerPdelay s x.port (stampAt s i) else s
      | .management => s)

/-- WALL_HOLDOVER (R441). -/
def execWallHoldover (dom : Fin 2) (s : State) : Out State :=
  .next (if (s.dom dom).state = .locked && nirdinRuns s then setDom s dom .holdover else s)

/-- WALL_HOLD_MAX_EXPIRY (R441). -/
def execWallHoldMaxExpiry (s : State) : Out State := .next (refreshValid s)

/-- DELAY_REQUEST_SEND (R445): a Delay_Req or Pdelay_Req, stamped (R435). -/
def execDelayRequestSend (d : DelaySend) (s : State) : Out State :=
  let x := s.dom d.dom
  let t := stampAt s d.sample
  .next (if x.en && x.master.isSome && (s.tport x.port).en && s.power.core && nirdinRuns s then
      (s.modDom d.dom (fun x => { x with reqAt := some (egress (s.tport x.port) t) })).send (.delayReq d.dom t)
    else s)

/-! ### Ports (R433) -/

def execArpRequest (port : Fin 2) (target : BitVec 32) (sender : BitVec 48) (s : State) : Out State :=
  let p := s.tport port
  .next (if p.en && p.ipv4 == target && p.ipv4 != 0 && s.power.core then s.send (.arpReply port p.mac sender) else s)

def execNeighborSolicitation (port : Fin 2) (target : BitVec 128) (sender : BitVec 48) (s : State) : Out State :=
  let p := s.tport port
  .next (if p.en && p.ipv6 == target && p.ipv6 != 0 && s.power.core then s.send (.neighborAdvert port p.mac sender) else s)

/-! ### WALL_CFG (R444, R445) -/

def timeObj : Nat × Nat := (0x23, 0)

def wallPortRsv : List (Nat × Nat) := [(23, 9), (80, 16), (256, 256)]

/-- A domain of the port is enabled. -/
def portUsed (s : State) (p : Nat) : Bool := [0, 1].any (fun d => (s.dom d).en && (s.dom d).port == p)

def wallCfgPortBody (c : Call) (s : State) : Result :=
  let b := c.blk
  let p := fld b 1 1
  let st := storeImage s 0x0E01 0x23 p 64 (2 * p) (b % 2 ^ 256 - b % 2)
  let x : TimePort :=
    { en := bit b 2, speed := fld b 3 2, fec := fld b 5 2, vlan := bit b 7, vid := fld b 8 12, pcp := fld b 20 3
      mac := BitVec.ofNat 48 (fld b 32 48), ipv4 := BitVec.ofNat 32 (fld b 96 32)
      ipv6 := BitVec.ofNat 128 (fld b 128 128) }
  checked s timeObj
    [(bit b 0 || !rsvOk b wallPortRsv || decide (fld b 3 2 > 1) || fld b 5 2 == 3 || (fld b 5 2 == 2 && fld b 3 2 != 1),
      .badParam), (!bit b 2 && portUsed s p, .busy)]
    (done { st.1 with wallTime := { st.1.wallTime with ports := tset {} st.1.wallTime.ports p x } }
      [{ st.2 with objId := 0 }])

def execWallCfgPort (c : Frame) (s : State) : Out State :=
  .next (serve { op := 0x0E01, pf0 := true } c s wallCfgPortBody)

def wallDomRsv : List (Nat × Nat) := [(16, 16), (52, 12), (80, 16), (136, 24), (192, 320)]

/-- A WALL_CFG that gives a domain what it has changes nothing (R445). -/
def sameDomain (o x : Domain) : Bool :=
  ({ o with state := x.state, masters := [], master := none, est := {}, syncs := 0, delays := 0, syncAt := none
            reqAt := none, respAt := none } : Domain) == x

/-- The image of a domain before any command. -/
def wallDomDefault (d : Nat) : Nat := 2 * d + 1000 * 2 ^ 32 + 60 * 2 ^ 64 + 1000 * 2 ^ 96

def wallCfgDomainBody (c : Call) (s : State) : Result :=
  let b := c.blk
  let d := fld b 1 1
  let en := bit b 2
  let p := s.tport (fld b 3 1)
  let tr := fld b 4 2
  let dreq := sgn 8 (fld b 128 8)
  let st := storeImage s 0x0E01 0x23 (2 + d) 64 (wallDomDefault d) (b % 2 ^ 192 - b % 2)
  let x : Domain :=
    { en := en, port := fld b 3 1, transport := tr, peer := bit b 6, auto := bit b 7, number := fld b 8 8
      slew := fld b 32 20, holdMax := fld b 64 16, stepLimit := fld b 96 32, logDreq := dreq
      asym := sgn 32 (fld b 160 32), state := if en then .listen else .unused }
  let t := st.1.modDom d (fun _ => x)
  let t := if activeDom s = d then { t with wallTime := { t.wallTime with hold := none, update := false, step := false } } else t
  let t := if sameDomain (s.dom d) x then st.1 else refreshValid t
  checked s timeObj
    [(!bit b 0 || !rsvOk b wallDomRsv || tr == 3 || fld b 32 20 == 0 || decide (fld b 32 20 > 1000000)
        || fld b 96 32 == 0 || decide (fld b 96 32 > 1000000000) || decide (dreq < -7) || decide (dreq > 5), .badParam),
     (en && (!p.en || (tr == 1 && p.ipv4 == 0) || (tr == 2 && p.ipv6 == 0)), .busy),
     (!en && (s.dom d).en && activeDom s == d && (s.dom (1 - d)).en, .busy)]
    (done t [{ st.2 with objId := 0 }])

def execWallCfgDomain (c : Frame) (s : State) : Out State :=
  .next (serve { op := 0x0E01, pf0 := true } c s wallCfgDomainBody)

/-! ### WALL_SWITCH (R446) -/


def wallSwitchBody (c : Call) (s : State) : Result :=
  let d := fld c.blk 0 1
  let force := bit c.blk 1
  checked s timeObj
    ([(fld c.blk 2 126 != 0, .badParam)] ++
      (if activeDom s = d then [] else [((s.dom d).state != .locked || (tooFarOff s d && !force), .busy)]))
    (if activeDom s = d then done s []
     else scheduled { s with wallTime := { s.wallTime with switch := some (d, false), step := force } } (nextSlow s)
       [item 0x23 0])

def execWallSwitch (c : Frame) (s : State) : Out State :=
  .next (serve { op := 0x0E02, pf0 := true } c s wallSwitchBody)

/-! ### WALL_STATUS (R447) -/

def domCode : DomState → Nat
  | .unused => 0 | .listen => 1 | .acquire => 2 | .locked => 3 | .holdover => 4

def wallMap : FlagMap := [(8, 16), (9, 32), (10, 48)]

def wallImage (s : State) : Nat :=
  let err (d : Nat) : Nat := if (s.dom d).master.isSome then enc 64 (domError s d s.st) else 0
  let who (d : Nat) : Nat := match (s.dom d).master with | some a => a.identity.toNat | none => 0
  let utc : Nat × Nat := match (s.dom (activeDom s)).master with
    | some a => (a.utcOffset.toNat, b2n a.ptpScale)
    | none => (0, 0)
  pack [(s.wall.dom, 1), (b2n s.wall.valid, 1), (domCode (s.dom 0).state, 3), (domCode (s.dom 1).state, 3), (0, 56),
    (s.wall.offset, 80), (s.wall.base, 64), (enc 40 s.wall.rate, 40), (0, 8), (err 0, 64), (err 1, 64),
    (who 0, 64), (who 1, 64), (utc.1, 16), (utc.2, 1)] + flagImage wallMap s.wallTime.flags

def wallStatusBody (c : Call) (s : State) : Result :=
  checked s timeObj
    [(statusReqBad c 0 576 wallMap, .badParam), (c.clear && c.func != 0, .partDenied)]
    (report (if c.clear then { s with wallTime := { s.wallTime with
        flags := clearFlags s.now wallMap c.blk s.wallTime.flags } } else s) (leBytes 72 (wallImage s)))

def execWallStatus (c : Frame) (s : State) : Out State := .next (serve { op := 0x0E03 } c s wallStatusBody)

/-! ### Events on wall time (R443) -/

/-- The epoch is set: BASE follows the new count, and every servo restarts its history. -/
def wallEpoch (s : State) (old new : Nat) : State :=
  let s := { s with wall := { s.wall with base := enc 64 ((s.wall.base : Int) + new - old) } }
  [0, 1].foldl (fun s d => restartServo (s.modDom d (fun x => { x with
    est := { x.est with base := enc 64 ((x.est.base : Int) + new - old) } })) d) s

/-- A warm reset or PERST#: every domain is UNUSED, and VALID follows the HOLDOVER rule from the reset. -/
def wallReset (s : State) : State :=
  { s with wallTime := { s.wallTime with
      ports := [], doms := [], flags := [], update := false, step := false, switch := none
      hold := match s.wallTime.hold with | some t => some t | none => if s.wall.valid then some s.now else none } }

end Sys2Proof.Machine
end

