-- ==== Sys2Proof/Machine/Timebase.lean ====
section
/-! DEFINITION. Setting and losing the epoch (02 R38 to R44; 15 R419; 17 R458). -/

namespace Sys2Proof.Machine

def tNcoConf : Nat := 6
def tRefLoss : Nat := 5
def tFault : Nat := 4

def setTime (s : State) (f : TimeSt → TimeSt) : State := { s with time := f s.time }

def timeHit (s : State) (b : Nat) : State := setTime s (fun x => { x with flags := hit s.now x.flags b })

/-! ### TIME_EPOCH, TIME_RELEASE (R39, R40) -/

/-- An epoch setting is held: in SET, while an accepted TIME_EPOCH awaits its load (R39), and while an admission as a
member is in progress, for which the spec names no status (DESIGN CHOICE, log 141). -/
def epochHeld (s : State) : Bool := s.time.mode == .set || s.time.epochAt.isSome || s.weave.admission.isSome

def timeEpochBody (k : Call) (s : State) : Result :=
  let d := toSlow s + 24
  checked s timeObj
    [(k.blk != 0, .badParam), (epochHeld s, .epochHeld), (!s.time.refclk, .busy)]
    (scheduled (setTime s (fun x => { x with epochAt := some (s.now + d) })) (stAfter s d) [item 0x23 0])

def execTimeEpoch (c : Frame) (s : State) : Out State :=
  .next (serve { op := 0x0101, pf0 := true } c s timeEpochBody)

def timeReleaseBody (k : Call) (s : State) : Result :=
  checked s timeObj
    [(k.blk != 0, .badParam), (s.time.mode != .set, .noEpoch), (releaseBusy s, .busy)]
    (done (setTime s (fun x => { x with mode := .free, root := false })) [item 0x23 0])

def execTimeRelease (c : Frame) (s : State) : Out State :=
  .next (serve { op := 0x0102, pf0 := true } c s timeReleaseBody)

/-! ### The load (R39, R43, R48, R443, R458) -/

/-- The latest value of a log holds from label 0 of the new count on. -/
def relabel {α : Type} (l : List (Nat × α)) : List (Nat × α) := (l.take 1).map (fun e => (0, e.2))

/-- An instant of the old count, as far from the load in the new one. -/
def moved (old new t : Nat) : Nat := if t ≤ old then min t new else new + (t - old)

/-- What keeps ST labels follows the new count: NCOs are re-anchored, running waits keep their length. -/
def reanchor (s : State) (old new : Nat) : State :=
  { s with
    threads := s.threads.map (fun e => (e.1, { e.2 with frames := relabel e.2.frames }))
    ports := s.ports.map (fun e => (e.1, { e.2 with
      carriers := relabel e.2.carriers, settle := moved old new e.2.settle }))
    rts := s.rts.map (fun e => (e.1, { e.2 with past := [] }))
    pairs := s.pairs.map (fun e => (e.1, { e.2 with firOld := [] }))
    warp := { s.warp with bits := s.warp.bits.map (fun e => (e.1, { e.2 with
      armed := e.2.armed.map (fun d => { d with due := moved (old / 32) (new / 32) d.due }) })) }
    power := { s.power with quads := s.power.quads.map (fun e => (e.1, { e.2 with
      pend := e.2.pend.map (fun p => { p with entry := p.entry.map (moved old new) }) })) } }

/-- Every tile that is held WAKING in LOST enters ACTIVE at the second slow-tick boundary after the load (R458);
one that wakes in FREE keeps its instant. -/
def wakeHeld (s : State) (new : Nat) : State :=
  let e (o : Option Nat) : Option Nat :=
    if s.time.mode = .lost then some (new + 2 * slowSamples) else o.map (moved s.st new)
  (List.range 12).foldl (fun s t =>
    if (s.tile t).state = .waking then
      s.modTile t (fun x => { x with
        entry := if x.pend.isSome then none else e x.entry, pend := x.pend.map (fun p => { p with entry := e p.entry }) })
    else s) s

/-- ST is loaded with `new`: the state is SET, and EPOCH_GEN advances (R39). -/
def loadSt (s : State) (new : Nat) (root : Bool) : State :=
  let old := s.st
  let s := wallEpoch (wakeHeld (reanchor s old new) new) old new
  setTime s (fun x => { x with st := new, mode := .set, root := root, gen := min (x.gen + 1) 255, epochAt := none, wait := false, loadedAt := x.tick + 1 })

/-- The Ledger entry of an epoch setting (20 R512, R514). -/
def epochNote (s : State) (o : Origin) : State := ledgerNote s o 0x23 s.time.gen 0x800D

/-- The load of a TIME_EPOCH, or of an admission as a member, at its slow-tick boundary (R39; 15 R419). -/
def execEpochLoad (s : State) : Out State :=
  .next (if !slowNow s then s
    else match s.time.epochAt with
    | some t =>
      if s.now < t then s
      else epochNote (loadSt s 0 true) (fromFn 0 { part := 0, secure := true })
    | none =>
      match s.weave.admission with
      | some a =>
        (match a.load with
        | some p =>
          let new := ((s.st : Int) + 96 * p).toNat / slowSamples * slowSamples
          let at_ := s.st
          let peer := (s.link (fld a.blk 19 2)).peerDev
          let st := storeImage (joinWeave (epochNote (loadSt s new false) (fromPeer peer)) a.blk .member) 0x0D04 0x2A 0 16 0
            (a.blk % 2 ^ 128)
          answer { st.1 with weave := { st.1.weave with admission := none, thetas := [], offset := 0, reason := 0 } } a.func a.tag .ok at_ [] [st.2]
        | none => s)
      | none => s)

/-! ### Count check (R44) -/

def execTimeCountCheck (mismatch : List (Fin 4)) (s : State) : Out State :=
  .next (if !slowNow s then s
    else mismatch.foldl (fun s q =>
      if !(s.quad q).pll then s else beginStop (uncore (timeHit s tFault) 24) (some q) 7) s)

/-! ### REFCLK (R42; 15 R425; 16 R443; 17 R458) -/

/-- Tiles that were ACTIVE are held WAKING (R458). -/
def holdTiles (s : State) : State :=
  (List.range 12).foldl (fun s t => if tileActive s t then leaveActive s t .waking else s) s

/-- The effects of R42: LOST, ST held at the last slow-tick boundary before the 64 ns (1,536 samples) without an edge,
outputs muted, bias held, every running shot ended and marked STOP. -/
def loseRefclk (s : State) : State :=
  let s := uncore (timeHit s tRefLoss) 24
  let s := stopLogged (markLooms s (fun _ => true) cStop) none 9
  let s := (List.range 96).foldl (fun s l => if (s.loom l).state = .running then cutRun s l false lRunLost else s) s
  let s := holdTiles s
  let s := setTime s (fun x => { x with
    refclk := false, mode := .lost, root := false, st := (x.st - 2 * slowSamples) / slowSamples * slowSamples, epochAt := none })
  let s := (List.range 4).foldl (fun s k => if (s.link k).en then stopLink s k else s) s
  let s := { s with weave := { s.weave with refLoss := none } }
  refreshValid (biasHold (admitFail s 1 .linkDown))

def execRefclkLoss (s : State) : Out State := .next (if s.time.refclk then loseRefclk s else s)

/-- REFCLK is back: the state stays LOST, and the links restart from step 1 (R42; 15 R425). -/
def execRefclkReturn (s : State) : Out State :=
  .next (if s.time.refclk then s
    else
      let s := setTime s (fun x => { x with refclk := true })
      (List.range 4).foldl (fun s k =>
        if (s.link k).en && s.gaf.state != .sealed && s.power.core then startLink s k else s) s)

end Sys2Proof.Machine
end

