-- ==== Sys2Proof/Machine/Resets.lean ====
section
/-! DEFINITION. Staged blocks that apply, resets of kind P, E and W, boot, and the core rail group
(13 R327 to R331, R357, R358; 17 R461 to R464). -/

namespace Sys2Proof.Machine

/-! ### Staged blocks (13 R327) -/

/-- One staged block applies. A channel that leaves TEST ends its open-wire test (DEDUCED, log 44). -/
def applyStaged (s : State) (x : Staged) : State :=
  match x.kind with
  | .portCfg => applyPortCfg s x.obj x.blk
  | .threadCfg => applyThreadCfg s x.obj x.blk
  | .jumpCfg => applyJumpCfg s x.obj x.blk
  | .readpairCfg => applyReadpairCfg s x.obj x.blk
  | .marverCtl => applyMarverCtl s x.obj x.blk
  | .fluxCfg => applyFluxCfg s x.obj x.blk
  | .biasCfg => applyBiasCfg s x.obj x.blk
  | .biasCtl =>
    let s := applyBiasCtl s x.obj x.blk
    match s.hk.wire with
    | some w => if bcOfTid w.tid = x.obj && (s.bc x.obj).state != .test then endWire s .busy [] else s
    | none => s
  | .biasGroup => applyBiasGroup s x.obj x.blk
  | .harnessCfg => applyHarnessCfg s x.obj x.blk
  | .harnessSink => applyHarnessSink s x.obj x.blk
  | .harnessFire => applyHarnessFire s x.obj
  | .hkCfg => applyHkCfg s x.obj x.blk
  | .warpBind => applyWarpBind s x.obj x.blk

/-- The blocks whose APPLY_AT has come apply in the order of their acceptance, then the power commands. -/
def execStagedApply (s : State) : Out State :=
  let due := s.staged.filter (fun x => decide (x.at_ ≤ s.st))
  let s := due.foldl applyStaged { s with staged := s.staged.filter (fun x => decide (s.st < x.at_)) }
  let s := (List.range 4).foldl applyQuadPower s
  .next ((List.range 12).foldl applyTilePower s)

/-! ### What the resets restore (17 R464) -/

/-- Change every listed entry; the ones that take the default are no longer listed. -/
def mapEntries {α : Type} [DecidableEq α] (d : α) (f : α → α) (t : Tbl α) : Tbl α :=
  (t.map (fun e => (e.1, f e.2))).filter (fun e => !decide (e.2 = d))

/-- Stored images of blocks that a warm reset keeps: bias, partitions, keys, links, the Weave. -/
def keptImage (key : Nat) : Bool :=
  let ty := key / 2 ^ 32 % 256
  [4, 0x20, 0x21, 0x24, 0x2A].contains ty || key / 2 ^ 40 == 0x0610

/-- A function at a warm reset: MB_CMD_CI := MB_CMD_PI, nothing outstanding, the VF binding gone (R463, 12 R317). -/
def warmFn (x : Fn) : Fn := { x with cmdCi := x.cmdPi, outst := [], bound := false, part := 0, secure := false }

/-- A Loom or core that self-repair has given up stays FAILED (20 R509). -/
def coldLooms (t : Tbl Loom) : Tbl Loom :=
  t.filterMap (fun e => if e.2.state = .failed then some (e.1, { state := .failed }) else none)

def coldCores (t : Tbl Core) : Tbl Core :=
  t.filterMap (fun e => if e.2.state = .failed then some (e.1, { state := .failed }) else none)

/-- A unit at a warm reset (19 R504): the Lehr list goes on. -/
def warmHk (s : State) (x : HkUnit) : HkUnit :=
  let changed := cRefSel x.cfg != 0
  { refok := x.refok && !changed, refAt := if changed then s.now else x.refAt
    offset := x.nvOffset, gain := x.nvGain, nvOffset := x.nvOffset, nvGain := x.nvGain
    running := match x.running with | some v => if v.kind = .lehr then some v else none | none => none }

/-- Lehr at a warm reset: the thresholds of R483 return. -/
def warmLehr (x : Lehr) : Lehr :=
  { x with warn := 2000, stop := 2240, graceCut := 2320, hyst := 80, rateAlarm := 16, rateStop := 64, stopGrace := 5000 }

/-- Nirdin and the boot state at any reset of kind P, E or W (R463, R464). -/
def idleGaf (g : Gaffer) : Gaffer :=
  { g with
    state := .initialising, bootStep := 0, booting := false, running := none, fromRam := false, staged := false
    staging := none, last := 16 }

/-- A bias queue: a BIAS_CFG in force names the Spool. Its descriptor, pointers and entries outlast resets of kind E and W
(07 R193, against 11 R310; DEDUCED, log 109). -/
def biasQueue (s : State) (n : Nat) : Bool := s.blocksConsume n

/-- The Spools after a reset of kind E or W: bias queues, without reservations, held entries and flags. -/
def keptSpools (s : State) : Tbl Spool :=
  s.spools.filterMap (fun e =>
    if biasQueue s e.1 && e.2.valid then
      some (e.1, { e.2 with
        fault := false, flags := [], resCtr := 0, resv := [], held := [], waiting := [], resize := none })
    else none)

/-- An internal address lies in the ring of a Spool that stays. -/
def keptRing (s : State) (a : Nat) : Bool :=
  (keptSpools s).any (fun e =>
    e.2.target == 2 && decide (e.2.base ≤ a) && decide (a < e.2.base + entryBytes e.2 * ringSize e.2))

/-- What resets of kind E and W both restore (R464). -/
def warmBase (s : State) : State :=
  let s := match s.hk.wire with
    | some w => s.modBc (bcOfTid w.tid) (fun x => { x with pullUp := false, pullDown := false })
    | none => s
  let s := wallReset s
  { s with
    time := { s.time with flags := tdel s.time.flags tNcoConf }
    fns := mapEntries {} warmFn s.fns
    ics := [], staged := [], threads := [], bobbins := mapEntries {} warmBobbin s.bobbins
    gaf := idleGaf s.gaf
    images := tclear (fun k => !keptImage k) s.images
    ports := mapEntries {} (fun x => { out := x.out, cutAt := x.cutAt }) s.ports
    harness := {}, markOut := [], spools := keptSpools s, dma := []
    ringMem := s.ringMem.filter (fun c => keptRing s (ringBase + c.1))
    mem := { ddr := s.mem.ddr, errs := tclear (fun a => decide (2 ^ 40 ≤ a) && !keptRing s a) s.mem.errs }
    power := { s.power with
      quads := [], tiles := mapEntries {} (fun x => { everActive := x.everActive }) s.power.tiles
      lastSt := 0, flags := [] }
    lehr := warmLehr s.lehr
    rts := [], pairs := [], caps := [], emits := [], warp := {}
    looms := coldLooms s.looms, cores := coldCores s.cores
    weave := { s.weave with admission := none }
    hk := { units := mapEntries {} (warmHk s) s.hk.units } }

/-- A reset of kind E (R463, R464): also configuration space, mailboxes, BAR2_BASE, and TRIPPED (18 R481). -/
def resetE (s : State) : State :=
  let s := warmBase s
  { s with
    fns := mapEntries {} (fun x => resetMail (resetConfig x)) s.fns
    bar2 := 0
    lehr := { s.lehr with tripped := false } }

/-! ### Boot (13 R330, R331, R357) -/

/-- Why a slot is not booted: its image checks (R355), then the manifest test (R357); none: it is good. The check that an
unreadable slot fails is BAD_IMAGE (DEDUCED, log 45). -/
def slotStatus (g : Gaffer) : Option Image → Option Status
  | none => some .badImage
  | some i => if i.svn < g.floor then some .rollback else if !selfTested i then some .incompatible else none

/-- The slot that boots (`true`: B) and whether it boots sealed; none: RECOVERY. -/
def bootPick (g : Gaffer) : Option (Bool × Bool) :=
  match slotStatus g (active g), slotStatus g (inactive g) with
  | none, _ => some (g.activeB, false)
  | some _, none => some (!g.activeB, false)
  | some .incompatible, some _ => some (g.activeB, true)
  | some _, some .incompatible => some (!g.activeB, true)
  | some _, some _ => none

/-- The slots that were tried and skipped, with their statuses. -/
def bootSkips (g : Gaffer) : List (Nat × Status) :=
  match slotStatus g (active g), slotStatus g (inactive g) with
  | none, _ => []
  | some x, none => [(b2n g.activeB, x)]
  | some .incompatible, some y => [(b2n !g.activeB, y)]
  | some x, some .incompatible => [(b2n g.activeB, x)]
  | some x, some y => [(b2n g.activeB, x), (b2n !g.activeB, y)]

/-- An entry of the boot in the Ledger (20 R514). -/
def bootNote (s : State) (o : Origin) (action id : Nat) (newDig : Nat := 0) : State :=
  ledgerNote s o 0x22 id action newDig

/-- The Ledger's first entry of a boot: SEQ resumes at the last committed SEQ + 1,025 (20 R516). -/
def skipSeq (s : State) : State :=
  let next := s.ledger.next - s.ledger.uncommitted + 1024
  bootNote { s with ledger := { s.ledger with next := next } } fromNirdin 0x800B (next - s.ledger.next)

/-- The halt record enters the Ledger, and HALT_REPORT is posted (13 R328, R348). -/
def haltReport (s : State) : State :=
  match s.gaf.halt with
  | none => s
  | some (c, st) =>
    let code := (Config.haltCode c).toNat
    let s := bootNote { s with gaf := { s.gaf with halt := none } } fromNirdin 0x8002 code
    event s 0 0x8008 (leBytes 16 (code + st * 2 ^ 64))

/-- The entries of a boot beside SEQ_SKIP: HALT, SLOT_SKIPPED, BOOT. -/
def bootEntries (s : State) (build : Nat) : State :=
  let s := (bootSkips s.gaf).foldl (fun s x => bootNote s fromRom 0x8009 (x.1 + x.2.code * 2 ^ 16)) (haltReport s)
  bootNote s fromRom 0x8001 s.ledger.boot build

/-- RECOVERY in place of steps 2 to 8 (R331). -/
def recovery (s : State) : State :=
  bootEntries (skipSeq { s with gaf := { s.gaf with state := .recovery, booting := false, running := none } }) 0

/-- Step 1 of the boot (R330): BOOT_REC is sampled, and the board data are read (12 R312; 22 R556). -/
def bootStart (s : State) : State :=
  if !s.power.good || !s.power.core || s.power.perst then s
  else
    let s := { s with
      gaf := { s.gaf with
        state := .initialising, booting := true, bootStep := 1, stepAt := s.now, bootRec := s.gaf.recBall
        read := s.gaf.board.getD {} }
      ledger := { s.ledger with boot := s.ledger.boot + 1 } }
    if s.gaf.bootRec || (bootPick s.gaf).isNone then recovery s else s

/-- The longest time of a boot step, in ticks (R330): 5, 70, 60, 20, 900, 50 and 100 ms; step 2 takes up to 1,400 ms where
the QSPI NOR is read in the single-line mode. -/
def stepMax (n : Nat) : Nat := 750000 * [0, 5, 1400, 60, 20, 900, 50, 100].getD n 0

/-- The next of boot steps 2 to 7 begins; step 8 is BOOT_COMPLETE (R330; DESIGN CHOICE, log 127). -/
def bootTick (s : State) : State :=
  if s.gaf.booting && decide (s.gaf.bootStep < 7)
      && decide (s.gaf.stepAt + min (Config.bootTicks s.gaf.bootStep) (stepMax s.gaf.bootStep) ≤ s.now) then
    { s with gaf := { s.gaf with bootStep := s.gaf.bootStep + 1, stepAt := s.now } }
  else s

/-- Step 8 (R330, R356, R357): READY, or SEALED with its notice and every bias channel in SAFE (07 R202). -/
def bootEnd (s : State) (isSealed : Bool) : State :=
  let s := { s with gaf := { s.gaf with
    state := if isSealed then .sealed else .ready, booting := false, bootStep := 8, fromRam := false } }
  if isSealed then
    let x := s.fresh
    biasSafe (event x.2 0 0x8009 (leBytes 2 (Config.freeNat x.1)))
  else
    (List.range 4).foldl (fun s k =>
      if (s.link k).en && (s.link k).tx = .off && (s.link k).rx = .off && s.time.refclk then startLink s k else s) s

/-- Step 8 of a boot whose BIST found `found`: the repair map has been applied, and what was found has been repaired (R330;
20 R506). -/
def bootLast (s : State) (found : List RepairItem) : State :=
  if s.gaf.fromRam then
    let s := bistRepairs (bootRepairs (createBootSpools s)) found
    bootEnd s (!(match s.gaf.running with | some i => selfTested i | none => false))
  else
    match bootPick s.gaf with
    | none => s
    | some (b, isSealed) =>
      let img := if b then s.gaf.slotBImg else s.gaf.slotA
      let s := { s with gaf := { s.gaf with running := img, slotB := b } }
      let s := bistRepairs (bootRepairs (skipSeq (createBootSpools s))) found
      bootEnd (bootEntries s (buildOf img)) isSealed

/-- BOOT_COMPLETE (R330): what BIST found is a free value (DESIGN CHOICE, log 95). -/
def execBootComplete (s : State) : Out State :=
  let f := s.fresh
  .next (if !s.gaf.booting || !s.power.core then s else bootLast f.2 (Config.bist f.1))

/-- Power-good (17 R461): the boot starts, with BOOT_REC at the level given. -/
def execPowerGood (bootRec : Bool) (s : State) : Out State :=
  .next (if s.power.good || !s.power.aon || !s.power.core || !s.time.refclk then s
    else bootStart { s with power := { s.power with good := true }, gaf := { s.gaf with recBall := bootRec } })

/-! ### Warm reset (13 R329, R358; 17 R463) -/

def warmReset (s : State) : State := bootStart (warmBase s)

/-- The level of BOOT_REC at the boot that follows is the board's: a free value (R330, R331; DESIGN CHOICE, log 46). -/
def newBall (s : State) : State :=
  let f := s.fresh
  { f.2 with gaf := { f.2.gaf with recBall := Config.freeBool f.1 } }

def resetWarmBody (k : Call) (s : State) : Result :=
  checked s (0, 0) [(fld k.blk 0 2 != 0 || fld k.blk 2 4 != 0 || resetRsv k.blk, .badParam)] (waiting s)

/-- RESET WARM takes effect on acceptance, with no response (R358). -/
def execResetWarm (c : Frame) (s : State) : Out State :=
  let tag := fld c.header.toNat 16 16
  let t := serve { op := 0x0003, inSealed := true, inRec := true, pf0 := true } c s resetWarmBody
  .next (if !(s.fn c.func).outst.any (fun o => o.tag == tag)
      && (t.fn c.func).outst.any (fun o => o.tag == tag && o.resp.isNone) then warmReset (newBall t) else t)

/-- A write of DEV_RESET (R329). -/
def devReset (s : State) (v : Nat) : State := if v % 65536 = 0x5752 then warmReset (newBall s) else s

def execDevResetWrite (v : BitVec 32) (s : State) : Out State :=
  .next (if barOpen s 0 then devReset s v.toNat else s)

/-- A write to a register of BAR0 (23 R565 to R567); DEV_RESET is at 0x400 of PF0. -/
def execRegisterWrite (f : Fin 17) (offset width : Nat) (v : BitVec 64) (tlp : Tlp) (s : State) : Out State :=
  .next (if !barOpen s f then s
    else if f.val = 0 && offset = 0x400 && width = 4 && (tlpFault s 0 tlp).isNone then devReset s v.toNat
    else registerWrite s f offset width v.toNat tlp)

/-! ### PERST# (12 R313, 17 R463) -/

def execPerstAssert (s : State) : Out State :=
  .next (resetE { s with power := { s.power with perst := true } })

/-- The boot runs again from step 1 (R313, R463). -/
def execPerstDeassert (s : State) : Out State :=
  .next (if s.power.perst then
    bootStart (newBall { s with power := { s.power with perst := false, perstAt := s.now } }) else s)

/-! ### Power-on (17 R463, R464) -/

/-- Entries that MRAM does not hold are lost (20 R516). -/
def committed (l : Ledger) : Ledger :=
  let next := l.next - l.uncommitted
  let es := l.entries.filter (fun e => decide (e.seq < next))
  { l with next := next, entries := es, uncommitted := 0, spill := min l.spill next
           chain := match es with | e :: _ => e.chain | [] => 0 }

/-- The block after VDD_AON rises to valid: reset, with what MRAM, the fuses and the QSPI NOR hold, and the board's inputs
as they are. -/
def powerOn (s : State) : State :=
  let g := State.reset.gaf
  let nvBias (x : Bias) : Bias :=
    { puRange := x.puRange, puCode := x.puCode, safeCode := x.safeCode, nvSlew := x.nvSlew }
  let nvHk (x : HkUnit) : HkUnit :=
    { offset := x.nvOffset, gain := x.nvGain, nvOffset := x.nvOffset, nvGain := x.nvGain }
  let level (x : MarkerIn) : MarkerIn := { level := x.level }
  { State.reset with
    gaf := { g with
      slotA := s.gaf.slotA, slotBImg := s.gaf.slotBImg, activeB := s.gaf.activeB, floor := s.gaf.floor
      board := s.gaf.board, recBall := s.gaf.recBall
      imageKey := s.gaf.imageKey }
    time := { State.reset.time with refclk := s.time.refclk, wait := !s.time.refclk }
    ledger := committed s.ledger
    owners := s.owners, parts := s.parts, keys := s.keys
    images := tclear (fun k => !([0x20, 0x21].contains (k / 2 ^ 32 % 256) || k / 2 ^ 40 == 0x0613)) s.images
    repair := storedMap s.repair.stored
    looms := (coldLooms s.looms).filter (fun e => tget false s.repair.stored.loomFailed e.1)
    cores := (coldCores s.cores).filter (fun e => tget false s.repair.stored.mvFailed e.1)
    bias := mapEntries {} nvBias s.bias
    hk := { units := mapEntries {} nvHk s.hk.units }
    markIn := mapEntries {} level s.markIn
    power := { State.reset.power with
      rfBad := s.power.rfBad, core := s.power.core, perst := s.power.perst, biasBad := s.power.biasBad
      biasFirst := s.power.biasBad, biasLoad := !s.power.biasBad }
    sent := s.sent, freeCtr := s.freeCtr, pending := s.pending }

def execPowerOnReset (s : State) : Out State := .next (powerOn s)

/-! ### The core rail group (17 R462, 18 R480, 15 R425) -/

/-- A link whose controllers lost power: LINK_CFG, flags and counters stay (15 R425). -/
def coldLink (x : Link) : Link :=
  { en := x.en, spareEn := x.spareEn, autoSpare := x.autoSpare, adapt := x.adapt, eyeMin := x.eyeMin
    laneErr := x.laneErr, asym := x.asym, flags := x.flags, corrBits := x.corrBits }

/-- The always-on-only state begins: what the core group powered is gone (DEDUCED, log 47). -/
def loseCore (s : State) : State :=
  let s := markLooms s (fun _ => true) cStop
  let s := (List.range 96).foldl (fun s l => if (s.loom l).state = .running then cutRun s l false lRunLost else s) s
  let s := (List.range 4).foldl enterOff s
  let s := if s.weave.refSrc && s.weave.role = .member && s.time.refclk then loseRefclk s else s
  let s := warmBase s
  { s with
    links := mapEntries {} coldLink s.links
    power := { s.power with core := false } }

def execCoreUndervoltage (rail : Fin 6) (s : State) : Out State :=
  let s := supplyEvent s rail 4 false
  .next (if s.power.core then loseCore s else s)

/-- A reset of kind E, and the boot from step 1 (R462). -/
def execCoreRailReturn (s : State) : Out State :=
  .next (if s.power.core then s else bootStart (resetE (newBall { s with power := { s.power with core := true } })))

end Sys2Proof.Machine
end

