-- ==== Sys2Proof/Machine/Dispatch.lean ====
section
/-! DEFINITION. The meaning of every command of the block: one arm per constructor of Instr. -/

namespace Sys2Proof.Machine

def exec (i : Instr) (s : State) : Host.Outcome State Fault Refusal :=
  match i with
  | .mbCmdPiWrite f v => Sys2Proof.Machine.execMbCmdPiWrite f v s
  | .mbCiWrite f ring v => Sys2Proof.Machine.execMbCiWrite f ring v s
  | .mbFrameWrite f ring offset data => Sys2Proof.Machine.execMbFrameWrite f ring offset data s
  | .stNowLoRead r => Sys2Proof.Machine.execStNowLoRead r s
  | .devResetWrite v => Sys2Proof.Machine.execDevResetWrite v s
  | .bar2BaseWrite v => Sys2Proof.Machine.execBar2BaseWrite v s
  | .bar2Read offset len => Sys2Proof.Machine.execBar2Read offset len s
  | .bar2Write offset data tlp => Sys2Proof.Machine.execBar2Write offset data tlp s
  | .doorbell f spool wide v => Sys2Proof.Machine.execDoorbell f spool wide v s
  | .registerWrite f offset width v tlp => Sys2Proof.Machine.execRegisterWrite f offset width v tlp s
  | .msixUnmask f entry => Sys2Proof.Machine.execMsixUnmask f entry s
  | .flr f => Sys2Proof.Machine.execFlr f s
  | .hotReset => Sys2Proof.Machine.execHotReset s
  | .perstAssert => Sys2Proof.Machine.execPerstAssert s
  | .perstDeassert => Sys2Proof.Machine.execPerstDeassert s
  | .powerOnReset => Sys2Proof.Machine.execPowerOnReset s
  | .powerGood bootRec => Sys2Proof.Machine.execPowerGood bootRec s
  | .bootComplete => Sys2Proof.Machine.execBootComplete s
  | .coreRailReturn => Sys2Proof.Machine.execCoreRailReturn s
  | .coreUndervoltage rail => Sys2Proof.Machine.execCoreUndervoltage rail s
  | .coreOvervoltage rail => Sys2Proof.Machine.execCoreOvervoltage rail s
  | .vddAonOvervoltage => Sys2Proof.Machine.execVddAonOvervoltage s
  | .vddaRfSupplyEvent quad high isOver => Sys2Proof.Machine.execVddaRfSupplyEvent quad high isOver s
  | .vddaBiasUndervoltage negative isOver => Sys2Proof.Machine.execVddaBiasUndervoltage negative isOver s
  | .vddaBiasReturn => Sys2Proof.Machine.execVddaBiasReturn s
  | .droop rail => Sys2Proof.Machine.execDroop rail s
  | .supplyComparatorClear rail => Sys2Proof.Machine.execSupplyComparatorClear rail s
  | .nvLoadDone => Sys2Proof.Machine.execNvLoadDone s
  | .refclkLoss => Sys2Proof.Machine.execRefclkLoss s
  | .refclkReturn => Sys2Proof.Machine.execRefclkReturn s
  | .pllLoss quad => Sys2Proof.Machine.execPllLoss quad s
  | .pllRelock quad => Sys2Proof.Machine.execPllRelock quad s
  | .analogueTrip => Sys2Proof.Machine.execAnalogueTrip s
  | .gafferHalt cause => Sys2Proof.Machine.execGafferHalt cause s
  | .watchdogExpiry => Sys2Proof.Machine.execWatchdogExpiry s
  | .identify c => Sys2Proof.Machine.execIdentify c s
  | .version c => Sys2Proof.Machine.execVersion c s
  | .resetWarm c => Sys2Proof.Machine.execResetWarm c s
  | .resetQuadrant c => Sys2Proof.Machine.execResetQuadrant c s
  | .resetTile c => Sys2Proof.Machine.execResetTile c s
  | .fwStage c => Sys2Proof.Machine.execFwStage c s
  | .fwStageDone verified => Sys2Proof.Machine.execFwStageDone verified s
  | .fwActivate c => Sys2Proof.Machine.execFwActivate c s
  | .fwRunRam c => Sys2Proof.Machine.execFwRunRam c s
  | .fwCommitFloor c => Sys2Proof.Machine.execFwCommitFloor c s
  | .timeEpoch c => Sys2Proof.Machine.execTimeEpoch c s
  | .epochLoad => Sys2Proof.Machine.execEpochLoad s
  | .timeRelease c => Sys2Proof.Machine.execTimeRelease c s
  | .timeCountCheck mismatch => Sys2Proof.Machine.execTimeCountCheck mismatch s
  | .portCfg c => Sys2Proof.Machine.execPortCfg c s
  | .threadCfg c => Sys2Proof.Machine.execThreadCfg c s
  | .tsetCfg c => Sys2Proof.Machine.execTsetCfg c s
  | .listWrite c => Sys2Proof.Machine.execListWrite c s
  | .pdCoef c => Sys2Proof.Machine.execPdCoef c s
  | .portStatus c => Sys2Proof.Machine.execPortStatus c s
  | .bobbinAlloc c => Sys2Proof.Machine.execBobbinAlloc c s
  | .bobbinFree c => Sys2Proof.Machine.execBobbinFree c s
  | .bobbinWrite c => Sys2Proof.Machine.execBobbinWrite c s
  | .segmentDesc c => Sys2Proof.Machine.execSegmentDesc c s
  | .segmentDelete c => Sys2Proof.Machine.execSegmentDelete c s
  | .jumpCfg c => Sys2Proof.Machine.execJumpCfg c s
  | .bobbinStatus c => Sys2Proof.Machine.execBobbinStatus c s
  | .windowProfile c => Sys2Proof.Machine.execWindowProfile c s
  | .weightWrite c => Sys2Proof.Machine.execWeightWrite c s
  | .weightSwap c => Sys2Proof.Machine.execWeightSwap c s
  | .weightSwapEffect rt => Sys2Proof.Machine.execWeightSwapEffect rt s
  | .readpairCfg c => Sys2Proof.Machine.execReadpairCfg c s
  | .rdFirCoef c => Sys2Proof.Machine.execRdFirCoef c s
  | .readStatus c => Sys2Proof.Machine.execReadStatus c s
  | .rawCapture c => Sys2Proof.Machine.execRawCapture c s
  | .rawCaptureAbort c => Sys2Proof.Machine.execRawCaptureAbort c s
  | .captureStart quad => Sys2Proof.Machine.execCaptureStart quad s
  | .captureDone quad codes overflow => Sys2Proof.Machine.execCaptureDone quad codes overflow s
  | .captureStatus c => Sys2Proof.Machine.execCaptureStatus c s
  | .marverLoad c => Sys2Proof.Machine.execMarverLoad c s
  | .marverStart c => Sys2Proof.Machine.execMarverStart c s
  | .marverStop c => Sys2Proof.Machine.execMarverStop c s
  | .mvThreadCfg c => Sys2Proof.Machine.execMvThreadCfg c s
  | .marverStatus c => Sys2Proof.Machine.execMarverStatus c s
  | .fluxCfg c => Sys2Proof.Machine.execFluxCfg c s
  | .fluxPd c => Sys2Proof.Machine.execFluxPd c s
  | .fluxStatus c => Sys2Proof.Machine.execFluxStatus c s
  | .biasGroupCfg c => Sys2Proof.Machine.execBiasGroupCfg c s
  | .biasCfg c => Sys2Proof.Machine.execBiasCfg c s
  | .biasRun c => Sys2Proof.Machine.execBiasRun c s
  | .biasTest c => Sys2Proof.Machine.execBiasTest c s
  | .biasClamp c => Sys2Proof.Machine.execBiasClamp c s
  | .biasNv c => Sys2Proof.Machine.execBiasNv c s
  | .biasStatus c => Sys2Proof.Machine.execBiasStatus c s
  | .biasUpdate bc => Sys2Proof.Machine.execBiasUpdate bc s
  | .biasSlewStep bc => Sys2Proof.Machine.execBiasSlewStep bc s
  | .deglitchHoldEnd bc => Sys2Proof.Machine.execDeglitchHoldEnd bc s
  | .biasClampEngage bc => Sys2Proof.Machine.execBiasClampEngage bc s
  | .rangeClampRelease bc => Sys2Proof.Machine.execRangeClampRelease bc s
  | .loomLoad c => Sys2Proof.Machine.execLoomLoad c s
  | .loomCfg c => Sys2Proof.Machine.execLoomCfg c s
  | .loomRun c => Sys2Proof.Machine.execLoomRun c s
  | .loomStop c => Sys2Proof.Machine.execLoomStop c s
  | .loomAbort c => Sys2Proof.Machine.execLoomAbort c s
  | .loomStatus c => Sys2Proof.Machine.execLoomStatus c s
  | .shotStart loom => Sys2Proof.Machine.execShotStart loom s
  | .microword loom => Sys2Proof.Machine.execMicroword loom s
  | .emitTset thread => Sys2Proof.Machine.execEmitTset thread s
  | .emitPlay thread => Sys2Proof.Machine.execEmitPlay thread s
  | .emitFreq thread => Sys2Proof.Machine.execEmitFreq thread s
  | .emitPhase thread => Sys2Proof.Machine.execEmitPhase thread s
  | .emitAmp thread => Sys2Proof.Machine.execEmitAmp thread s
  | .emitWindow rt => Sys2Proof.Machine.execEmitWindow rt s
  | .emitFlux fp => Sys2Proof.Machine.execEmitFlux fp s
  | .emitBias bc => Sys2Proof.Machine.execEmitBias bc s
  | .emitMark marker => Sys2Proof.Machine.execEmitMark marker s
  | .segmentEnd thread => Sys2Proof.Machine.execSegmentEnd thread s
  | .streamFetchIssue tile => Sys2Proof.Machine.execStreamFetchIssue tile s
  | .streamFetchDone tile => Sys2Proof.Machine.execStreamFetchDone tile s
  | .underrunFill thread => Sys2Proof.Machine.execUnderrunFill thread s
  | .windowFirstSample rt => Sys2Proof.Machine.execWindowFirstSample rt s
  | .earlyDecision rt adc => Sys2Proof.Machine.execEarlyDecision rt adc s
  | .windowClose rt adc => Sys2Proof.Machine.execWindowClose rt adc s
  | .dueTick bit => Sys2Proof.Machine.execDueTick bit s
  | .mvEventArrival rt kind adc => Sys2Proof.Machine.execMvEventArrival rt kind adc s
  | .mvDispatch core => Sys2Proof.Machine.execMvDispatch core s
  | .mvOverbudget rt => Sys2Proof.Machine.execMvOverbudget rt s
  | .mvNop core => Sys2Proof.Machine.execMvNop core s
  | .mvWait core => Sys2Proof.Machine.execMvWait core s
  | .mvJmp core => Sys2Proof.Machine.execMvJmp core s
  | .mvBrz core => Sys2Proof.Machine.execMvBrz core s
  | .mvDjnz core => Sys2Proof.Machine.execMvDjnz core s
  | .mvRpt core => Sys2Proof.Machine.execMvRpt core s
  | .mvLda core => Sys2Proof.Machine.execMvLda core s
  | .mvLdm core => Sys2Proof.Machine.execMvLdm core s
  | .mvAdda core => Sys2Proof.Machine.execMvAdda core s
  | .mvSetk core => Sys2Proof.Machine.execMvSetk core s
  | .mvSetys core => Sys2Proof.Machine.execMvSetys core s
  | .mvIn core => Sys2Proof.Machine.execMvIn core s
  | .mvLdi core => Sys2Proof.Machine.execMvLdi core s
  | .mvMov core => Sys2Proof.Machine.execMvMov core s
  | .mvLdx core => Sys2Proof.Machine.execMvLdx core s
  | .mvLdy core => Sys2Proof.Machine.execMvLdy core s
  | .mvStx core => Sys2Proof.Machine.execMvStx core s
  | .mvVadd core => Sys2Proof.Machine.execMvVadd core s
  | .mvVsub core => Sys2Proof.Machine.execMvVsub core s
  | .mvVshr core => Sys2Proof.Machine.execMvVshr core s
  | .mvCmul core => Sys2Proof.Machine.execMvCmul core s
  | .mvCmac core => Sys2Proof.Machine.execMvCmac core s
  | .mvCmacy core => Sys2Proof.Machine.execMvCmacy core s
  | .mvTapm core => Sys2Proof.Machine.execMvTapm core s
  | .mvClra core => Sys2Proof.Machine.execMvClra core s
  | .mvClrg core => Sys2Proof.Machine.execMvClrg core s
  | .mvMova core => Sys2Proof.Machine.execMvMova core s
  | .mvCls3 core => Sys2Proof.Machine.execMvCls3 core s
  | .mvSti core => Sys2Proof.Machine.execMvSti core s
  | .mvPge core => Sys2Proof.Machine.execMvPge core s
  | .mvPrst core => Sys2Proof.Machine.execMvPrst core s
  | .mvPub core => Sys2Proof.Machine.execMvPub core s
  | .mvRec core => Sys2Proof.Machine.execMvRec core s
  | .warpBind c => Sys2Proof.Machine.execWarpBind c s
  | .warpStatus c => Sys2Proof.Machine.execWarpStatus c s
  | .harnessCfg c => Sys2Proof.Machine.execHarnessCfg c s
  | .harnessSink c => Sys2Proof.Machine.execHarnessSink c s
  | .harnessFire c => Sys2Proof.Machine.execHarnessFire c s
  | .harnessStatus c => Sys2Proof.Machine.execHarnessStatus c s
  | .harnessEventDelivery chan => Sys2Proof.Machine.execHarnessEventDelivery chan s
  | .harnessTableCheck => Sys2Proof.Machine.execHarnessTableCheck s
  | .markerInputEdge marker rising => Sys2Proof.Machine.execMarkerInputEdge marker rising s
  | .spoolCreate c => Sys2Proof.Machine.execSpoolCreate c s
  | .spoolResizeEmpty c => Sys2Proof.Machine.execSpoolResizeEmpty c s
  | .spoolResizeDrain c => Sys2Proof.Machine.execSpoolResizeDrain c s
  | .spoolDrainDone spool => Sys2Proof.Machine.execSpoolDrainDone spool s
  | .spoolDrainTimeout spool => Sys2Proof.Machine.execSpoolDrainTimeout spool s
  | .spoolResizeDiscard c => Sys2Proof.Machine.execSpoolResizeDiscard c s
  | .spoolDelete c => Sys2Proof.Machine.execSpoolDelete c s
  | .spoolStatus c => Sys2Proof.Machine.execSpoolStatus c s
  | .spoolAppend spool producer canWait entry => Sys2Proof.Machine.execSpoolAppend spool producer canWait entry s
  | .tagOrderRelease spool => Sys2Proof.Machine.execTagOrderRelease spool s
  | .waitProducerResume spool => Sys2Proof.Machine.execWaitProducerResume spool s
  | .dmaStart engine fetched => Sys2Proof.Machine.execDmaStart engine fetched s
  | .dmaComplete engine host => Sys2Proof.Machine.execDmaComplete engine host s
  | .shuttleSend spool fetched => Sys2Proof.Machine.execShuttleSend spool fetched s
  | .vfBind c => Sys2Proof.Machine.execVfBind c s
  | .vfUnbind c => Sys2Proof.Machine.execVfUnbind c s
  | .icCfg c => Sys2Proof.Machine.execIcCfg c s
  | .memInfo c => Sys2Proof.Machine.execMemInfo c s
  | .scrubStart c => Sys2Proof.Machine.execScrubStart c s
  | .scrubAbort c => Sys2Proof.Machine.execScrubAbort c s
  | .scrubPassEnd engine => Sys2Proof.Machine.execScrubPassEnd engine s
  | .scrubStatus c => Sys2Proof.Machine.execScrubStatus c s
  | .hotwordRead c => Sys2Proof.Machine.execHotwordRead c s
  | .linkCfg c => Sys2Proof.Machine.execLinkCfg c s
  | .linkRetrain c => Sys2Proof.Machine.execLinkRetrain c s
  | .linkSleepLight c => Sys2Proof.Machine.execLinkSleepLight c s
  | .linkSleepDeep c => Sys2Proof.Machine.execLinkSleepDeep c s
  | .linkWake c => Sys2Proof.Machine.execLinkWake c s
  | .linkAdaptResume c => Sys2Proof.Machine.execLinkAdaptResume c s
  | .linkSpare c => Sys2Proof.Machine.execLinkSpare c s
  | .linkUnspare c => Sys2Proof.Machine.execLinkUnspare c s
  | .linkStatus c => Sys2Proof.Machine.execLinkStatus c s
  | .weaveAdmitRoot c => Sys2Proof.Machine.execWeaveAdmitRoot c s
  | .weaveAdmitMember c => Sys2Proof.Machine.execWeaveAdmitMember c s
  | .weaveAdmitLeave c => Sys2Proof.Machine.execWeaveAdmitLeave c s
  | .weaveStatus c => Sys2Proof.Machine.execWeaveStatus c s
  | .frameReceive link line stamp => Sys2Proof.Machine.execFrameReceive link line stamp s
  | .shuttleResendTimeout link => Sys2Proof.Machine.execShuttleResendTimeout link s
  | .sleep link deep count => Sys2Proof.Machine.execSleep link deep count s
  | .spareAt link pos unspare count => Sys2Proof.Machine.execSpareAt link pos unspare count s
  | .spareReq link pos unspare => Sys2Proof.Machine.execSpareReq link pos unspare s
  | .tstamp link txt echo rxt rxf stamp => Sys2Proof.Machine.execTstamp link txt echo rxt rxf stamp s
  | .members link view refdep hops => Sys2Proof.Machine.execMembers link view refdep hops s
  | .linkAcquireDone link => Sys2Proof.Machine.execLinkAcquireDone link s
  | .laneAlignCheck link lane found => Sys2Proof.Machine.execLaneAlignCheck link lane found s
  | .linkBringupTimeout link => Sys2Proof.Machine.execLinkBringupTimeout link s
  | .laneCdrLoss link pos => Sys2Proof.Machine.execLaneCdrLoss link pos s
  | .laneErrorWindow link pos => Sys2Proof.Machine.execLaneErrorWindow link pos s
  | .eyeMeasure link pos margin coeffs => Sys2Proof.Machine.execEyeMeasure link pos margin coeffs s
  | .memberViewAgeout => Sys2Proof.Machine.execMemberViewAgeout s
  | .trimStep due => Sys2Proof.Machine.execTrimStep due s
  | .wallCfgPort c => Sys2Proof.Machine.execWallCfgPort c s
  | .wallCfgDomain c => Sys2Proof.Machine.execWallCfgDomain c s
  | .wallSwitch c => Sys2Proof.Machine.execWallSwitch c s
  | .wallStatus c => Sys2Proof.Machine.execWallStatus c s
  | .ptpMessage dom msg => Sys2Proof.Machine.execPtpMessage dom msg s
  | .arpRequest port target sender => Sys2Proof.Machine.execArpRequest port target sender s
  | .neighborSolicitation port target sender => Sys2Proof.Machine.execNeighborSolicitation port target sender s
  | .wallSetUpdate => Sys2Proof.Machine.execWallSetUpdate s
  | .wallHoldover dom => Sys2Proof.Machine.execWallHoldover dom s
  | .wallHoldMaxExpiry => Sys2Proof.Machine.execWallHoldMaxExpiry s
  | .quadPower c => Sys2Proof.Machine.execQuadPower c s
  | .quadTrainingDone quad modules => Sys2Proof.Machine.execQuadTrainingDone quad modules s
  | .quadEntry quad => Sys2Proof.Machine.execQuadEntry quad s
  | .tilePower c => Sys2Proof.Machine.execTilePower c s
  | .tileWake tile => Sys2Proof.Machine.execTileWake tile s
  | .powerStatus c => Sys2Proof.Machine.execPowerStatus c s
  | .stagedApply => Sys2Proof.Machine.execStagedApply s
  | .tileResetApply tile => Sys2Proof.Machine.execTileResetApply tile s
  | .quadrantResetApply quad => Sys2Proof.Machine.execQuadrantResetApply quad s
  | .lehrCfg c => Sys2Proof.Machine.execLehrCfg c s
  | .lehrRelease c => Sys2Proof.Machine.execLehrRelease c s
  | .lehrReinstate c => Sys2Proof.Machine.execLehrReinstate c s
  | .lehrStatus c => Sys2Proof.Machine.execLehrStatus c s
  | .lehrRound => Sys2Proof.Machine.execLehrRound s
  | .lehrEvaluate => Sys2Proof.Machine.execLehrEvaluate s
  | .stopGraceEnd scope => Sys2Proof.Machine.execStopGraceEnd scope s
  | .ledgerCommit => Sys2Proof.Machine.execLedgerCommit s
  | .hkCfg c => Sys2Proof.Machine.execHkCfg c s
  | .hkCal c => Sys2Proof.Machine.execHkCal c s
  | .hkCalRestore c => Sys2Proof.Machine.execHkCalRestore c s
  | .hkCalDone unit => Sys2Proof.Machine.execHkCalDone unit s
  | .hkStatus c => Sys2Proof.Machine.execHkStatus c s
  | .openWire c => Sys2Proof.Machine.execOpenWire c s
  | .hkConversion raw0 raw1 => Sys2Proof.Machine.execHkConversion raw0 raw1 s
  | .hkInjectTrigger => Sys2Proof.Machine.execHkInjectTrigger s
  | .hkRefok unit => Sys2Proof.Machine.execHkRefok unit s
  | .repairReport c => Sys2Proof.Machine.execRepairReport c s
  | .repairRemap item => Sys2Proof.Machine.execRepairRemap item s
  | .ledgerRead c => Sys2Proof.Machine.execLedgerRead c s
  | .partCfg c => Sys2Proof.Machine.execPartCfg c s
  | .objOwner c => Sys2Proof.Machine.execObjOwner c s
  | .keyInstall c => Sys2Proof.Machine.execKeyInstall c s
  | .keyRevoke c => Sys2Proof.Machine.execKeyRevoke c s
  | .keyStatus c => Sys2Proof.Machine.execKeyStatus c s
  | .frameTransmit link => Sys2Proof.Machine.execFrameTransmit link s
  | .configWrite f field => Sys2Proof.Machine.execConfigWrite f field s
  | .jtagWrite objType objId => Sys2Proof.Machine.execJtagWrite objType objId s
  | .delayRequestSend d => Sys2Proof.Machine.execDelayRequestSend d s
  | .biasCompliance bc => Sys2Proof.Machine.execBiasCompliance bc s

end Sys2Proof.Machine
end

