-- ==== Sys2Proof/Machine/Tick.lean ====
section
/-! DEFINITION. What the block does when no command waits: the events of the present tick in their order, then the
next tick (DESIGN CHOICE, log 2). An event that needs data from outside (samples, frames, codes, host replies, measured values) is
never raised here. -/

namespace Sys2Proof.Machine

/-! ### Names of objects -/

def kindOf : Nat → Kind
  | 0 => .drive | 1 => .readout | 2 => .flux | _ => .bias

/-- The thread reference of a TID. -/
def refOf (t : Nat) : ThreadRef :=
  { tile := Fin.ofNat 12 (tidTile t), kind := kindOf (tidKind t), index := Fin.ofNat 32 (tidIndex t) }

def ifDo (b : Bool) (i : Instr) : List Instr := if b then [i] else []

/-- The keys of a table whose values satisfy `p`. -/
def keysOf {α : Type} (t : Tbl α) (p : Nat → α → Bool) : List Nat := (t.filter (fun e => p e.1 e.2)).map (fun e => e.1)

/-! ### Clock, resets, staged blocks -/

def dueEpoch (s : State) : List Instr :=
  ifDo (slowNow s && (match s.time.epochAt with
    | some t => decide (t ≤ s.now)
    | none => match s.weave.admission with | some a => a.load.isSome | none => false)) .epochLoad

def comeAt (s : State) (o : Option Nat) : Bool := match o with | some t => decide (t ≤ s.st) | none => false

def duePower (s : State) : List Instr :=
  (keysOf s.power.tiles (fun _ x => comeAt s x.resetAt)).map (fun t => .tileResetApply (Fin.ofNat 12 t))
  ++ (keysOf s.power.quads (fun _ x => comeAt s x.resetAt)).map (fun q => .quadrantResetApply (Fin.ofNat 4 q))
  ++ (keysOf s.power.quads (fun _ x => match x.pend with | some p => comeAt s p.entry | none => false)).map
      (fun q => .quadEntry (Fin.ofNat 4 q))
  ++ (keysOf s.power.tiles (fun _ x => x.state == .waking && s.time.mode != .lost && comeAt s (wakeAt x))).map
      (fun t => .tileWake (Fin.ofNat 12 t))

def cmdDue (s : State) (p : Option PowerCmd) : Bool :=
  match p with | some p => !p.begun && decide (p.at_ ≤ s.st) | none => false

def dueStaged (s : State) : List Instr :=
  ifDo (s.staged.any (fun x => decide (x.at_ ≤ s.st)) || s.power.quads.any (fun e => cmdDue s e.2.pend)
      || s.power.tiles.any (fun e => cmdDue s e.2.pend)) .stagedApply
  ++ (keysOf s.rts (fun _ x => match x.swap with
      | some w => decide (w.at_ ≤ 32 * stTick s) && (w.now_ || !insideWindow x (stTick s))
      | none => false)).map (fun r => .weightSwapEffect (Fin.ofNat 384 r))

/-! ### Supervision, wall time, links: events of slow ticks and timers -/

/-- A step of an orderly stop is due (18 R477). -/
def stopDue (s : State) (n : Nat) : Bool :=
  match stopOf s (scopeOf n) with
  | none => false
  | some r =>
    (r.step == 0 && graceOver s (scopeOf n) r) || (r.step != 0 && !r.safe && n == 0 && slowNow s)
      || (r.step == 1 && decide (r.grace.getD 0 + 16 ≤ s.now)) || (r.step == 2 && decide (r.grace.getD 0 + 32 ≤ s.now))

def dueSlow (s : State) : List Instr :=
  if !slowNow s then []
  else
    ifDo (!(checkNeeded s).isEmpty || !(selsNeeded s).isEmpty) .harnessTableCheck
    ++ ifDo (counting s && s.st % 24000000 == 0 && (s.hku 1).refok && s.lehr.round != some s.now
      && !roundKept s) .lehrRound
    ++ ifDo (slotNow s && [0, 1].any (fun u => comeAt s (s.hku u).injNext)) .hkInjectTrigger
    ++ (([0, 1].filter (fun u => slotNow s && !(s.hku u).refok && decide ((s.hku u).refAt + 750000 ≤ s.now))).map
        (fun u => .hkRefok (Fin.ofNat 2 u)))
    ++ ifDo (s.wallTime.update || s.wallTime.step || s.wallTime.switch.isSome) .wallSetUpdate

/-- A round is evaluated before the shots of its tick start: a stop that begins skips them (18 R472, R477). -/
def dueEvaluation (s : State) : List Instr :=
  ifDo (decide (68 ≤ s.lehr.taken) && (match s.lehr.round with | some t => decide (t + 54000 ≤ s.now) | none => false))
    .lehrEvaluate

def dueTimers (s : State) : List Instr :=
  ((List.range 5).filter (stopDue s)).map (fun n => .stopGraceEnd (Fin.ofNat 5 n))
  ++ ifDo (s.time.refclk && (match s.weave.refLoss with | some t => decide (t ≤ s.now) | none => false)) .refclkLoss
  ++ ifDo (validNow s != s.wall.valid) .wallHoldMaxExpiry
  ++ ifDo (s.links.any (fun e => match e.2.view with | some v => decide (v.tick + fourMs < s.now) | none => false))
      .memberViewAgeout
  ++ (keysOf s.links (fun _ x => !x.unacked.isEmpty && x.rx != .sleep && x.tx == .up && decide (x.progress + 256 ≤ s.now))).map
      (fun k => .shuttleResendTimeout (Fin.ofNat 4 k))
  ++ (keysOf s.links (fun _ x => x.en && x.tx == .train && decide (x.startAt + bringupTicks ≤ s.now))).map
      (fun k => .linkBringupTimeout (Fin.ofNat 4 k))
  ++ (if s.now % 750000 ≠ 0 then []
      else s.links.flatMap (fun e => (keysOf e.2.lanes (fun _ y => y.window != 0)).map
        (fun p => .laneErrorWindow (Fin.ofNat 4 e.1) (Fin.ofNat 5 p))))
  ++ ifDo (s.ledger.uncommitted != 0 && !nvInhibit s) .ledgerCommit

/-- Marked hardware that is quiet is remapped while Nirdin runs (20 R508). -/
def dueRepair (s : State) : List Instr :=
  if s.gaf.state != .ready && s.gaf.state != .sealed then []
  else s.repair.marks.filterMap (fun m =>
    match m.kind with
    | .loom => if loomQuiet s m.addr then some (.repairRemap (.loom (Fin.ofNat 96 m.addr))) else none
    | .core => if coreQuiet s m.addr then some (.repairRemap (.core (Fin.ofNat 24 m.addr))) else none
    | .row => if arrayQuiet s false m.store m.addr then
        some (.repairRemap (.array (BitVec.ofNat 8 m.store) m.addr true)) else none
    | .column => if arrayQuiet s false m.store m.addr then
        some (.repairRemap (.array (BitVec.ofNat 8 m.store) m.addr false)) else none)

/-! ### Threads and emissions -/

def dueSegments (s : State) : List Instr :=
  (keysOf s.threads (fun t x => tileActive s (tidTile t) && (match x.play, x.gap with
    | some p, _ => decide (p.final < s.now)
    | none, some f => decide (f < s.now)
    | none, none => false))).map (fun t => .segmentEnd (refOf t))

/-- The threads that emissions of op `op` have reached, in ascending order (11 R297). -/
def dueTargets (s : State) (op : Nat) : List Nat :=
  ((s.emits.filter (fun e => e.op == op && decide (e.tick ≤ s.now))).foldl
    (fun t e => tset false t e.target true) []).map (fun e => e.1)

def dueEmissions (s : State) : List Instr :=
  if s.emits.isEmpty then []
  else
    (dueTargets s 0).map (fun t => .emitTset (refOf t))
    ++ (dueTargets s 2).map (fun t => .emitFreq (refOf t))
    ++ (dueTargets s 3).map (fun t => .emitPhase (refOf t))
    ++ (dueTargets s 4).map (fun t => .emitAmp (refOf t))
    ++ (dueTargets s 1).map (fun t => .emitPlay (refOf t))
    ++ (dueTargets s 5).map (fun t => .emitWindow (Fin.ofNat 384 (rtOfTid t)))
    ++ (dueTargets s 6).map (fun t => .emitFlux (Fin.ofNat 192 (16 * tidTile t + tidIndex t)))
    ++ (dueTargets s 7).map (fun t => .emitBias (Fin.ofNat 384 (bcOfTid t)))

def dueMarks (s : State) : List Instr :=
  (((s.emits.filter (fun e => e.op == 8 && decide (e.tick ≤ s.now))).map (fun e => e.param % 8)).eraseDups).map
    (fun m => .emitMark (Fin.ofNat 8 m))

def dueFills (s : State) : List Instr :=
  (keysOf s.threads (fun t x => tileActive s (tidTile t) && x.filled != some s.now && (match playAt x s.now with
    | some p => (match readTick s t s.now p with | .error _ => true | .ok _ => false)
    | none => false))).map (fun t => .underrunFill (refOf t))

/-! ### Windows, Warp, Looms -/

def dueFirst (s : State) : List Instr :=
  (keysOf s.rts (fun _ x => x.windows.any (fun w => !w.dropped && w.latched.isNone && w.t0 == stTick s))).map
    (fun r => .windowFirstSample (Fin.ofNat 384 r))

def dueBits (s : State) : List Instr :=
  (keysOf s.warp.bits (fun _ x => x.armed.any (fun d => d.due == stTick s))).map (fun b => .dueTick (Fin.ofNat 512 b))

def dueShots (s : State) : List Instr :=
  (keysOf s.looms (fun _ x => loomActive x && (match x.run with
    | some r => !runOver r && s.st == r.at_ + 32 * r.period * r.next
    | none => false))).map (fun l => .shotStart (Fin.ofNat 96 l))

def dueWords (s : State) : List Instr :=
  (keysOf s.looms (fun _ x => x.state == .running && x.word.isSome && x.last != s.now + 1)).map
    (fun l => .microword (Fin.ofNat 96 l))

def dueCaptures (s : State) : List Instr :=
  (keysOf s.caps (fun _ c => c.state == .armed && !c.trig && decide (c.label + 44 * 32 ≤ s.st))).map
    (fun q => .captureStart (Fin.ofNat 4 q))
  ++ (keysOf s.caps (fun _ c => c.state == .armed && abortDue s c)).map (fun q => .captureDone (Fin.ofNat 4 q) [] false)

/-! ### Marver cores -/

def dueDispatch (s : State) : List Instr :=
  (keysOf s.cores (fun c _ => (readyGroup s c).isSome)).map (fun c => .mvDispatch (Fin.ofNat 24 c))

/-- The command of an instruction word (06 R159). -/
def mvCommand (op : Nat) (c : Fin 24) : Instr :=
  match op with
  | 0x01 => .mvWait c | 0x02 => .mvJmp c | 0x03 => .mvBrz c | 0x04 => .mvDjnz c | 0x05 => .mvRpt c | 0x06 => .mvLda c
  | 0x07 => .mvLdm c | 0x08 => .mvAdda c | 0x09 => .mvSetk c | 0x0A => .mvSetys c | 0x10 => .mvIn c | 0x11 => .mvLdi c
  | 0x12 => .mvMov c | 0x13 => .mvLdx c | 0x14 => .mvLdy c | 0x15 => .mvStx c | 0x16 => .mvVadd c | 0x17 => .mvVsub c
  | 0x18 => .mvVshr c | 0x20 => .mvCmul c | 0x21 => .mvCmac c | 0x22 => .mvCmacy c | 0x23 => .mvTapm c | 0x24 => .mvClra c
  | 0x25 => .mvClrg c | 0x26 => .mvMova c | 0x28 => .mvCls3 c | 0x29 => .mvSti c | 0x2A => .mvPge c | 0x2B => .mvPrst c
  | 0x30 => .mvPub c | 0x31 => .mvRec c | _ => .mvNop c

/-- Cores that run an instruction in cycle `i` of the tick. -/
def dueCycle (i : Nat) (s : State) : List Instr :=
  (keysOf s.cores (fun c x => coreRuns s c && !x.wait && decide (x.cycle ≤ 2 * s.now + i))).map (fun c =>
    let x := s.core c
    mvCommand (iOp (delivered (tget 0 x.prog x.pc) (maskOf s.mem (progAddr c x.pc)))) (Fin.ofNat 24 c))

def dueBudget (s : State) : List Instr :=
  ((s.cores.flatMap (fun e => (e.2.wins.filter (overBudget (stTick s))).map (fun w => w.rt))).eraseDups).map
    (fun r => .mvOverbudget (Fin.ofNat 384 r))

/-! ### Harness, bias, housekeeping, Lehr -/

def dueEvents (s : State) : List Instr :=
  (((s.harness.carried.filter (fun c => (c.tick + 1 == s.now && !c.near) || (c.tick + 3 == s.now && !c.far))).map
    (fun c => c.chan)).eraseDups).map (fun c => .harnessEventDelivery (Fin.ofNat 1024 c))

def dueUpdates (s : State) : List Instr :=
  if !slowNow s then []
  else (keysOf s.bias (fun b x => (x.state != .clamped || !x.stepsDue.isEmpty) && x.updated != s.now + 1
      && s.st / slowSamples % groupN s (bcTile b) == 0)).map (fun b => .biasUpdate (Fin.ofNat 384 b))

def dueBias (s : State) : List Instr :=
  let come (o : Option Nat) : Bool := match o with | some t => decide (t ≤ s.now) | none => false
  (if slowNow s then (keysOf s.bias (fun _ x => slewStep s.now x != x)).map (fun b => .biasSlewStep (Fin.ofNat 384 b)) else [])
  ++ (keysOf s.bias (fun _ x => come x.holdEnd)).map (fun b => .deglitchHoldEnd (Fin.ofNat 384 b))
  ++ (keysOf s.bias (fun _ x => come x.clampAt)).map (fun b => .biasClampEngage (Fin.ofNat 384 b))
  ++ (keysOf s.bias (fun _ x => match x.ranging with | some (_, _, t) => come t | none => false)).map
      (fun b => .rangeClampRelease (Fin.ofNat 384 b))

def dueSupervision (s : State) : List Instr :=
  (keysOf s.hk.units (fun _ x => x.cal.isSome && x.calRun == some 192)).map (fun u => .hkCalDone (Fin.ofNat 2 u))

/-! ### Spools, links, scrubs -/

def dueSpools (s : State) : List Instr :=
  (keysOf s.spools (fun _ p => match p.resize with | some _ => occupancy p == 0 | none => false)).map
      (fun n => .spoolDrainDone (Fin.ofNat 65536 n))
  ++ (keysOf s.spools (fun _ p => match p.resize with
      | some r => occupancy p != 0 && decide (r.deadline ≤ s.now) | none => false)).map
      (fun n => .spoolDrainTimeout (Fin.ofNat 65536 n))
  ++ (keysOf s.spools (fun _ p => !p.waiting.isEmpty && (p.fault || (p.resize.isNone && canPut s p)))).map
      (fun n => .waitProducerResume (Fin.ofNat 65536 n))
  ++ (keysOf s.spools (fun _ p => headReady p)).map (fun n => .tagOrderRelease (Fin.ofNat 65536 n))
  ++ ((List.range 12).filter (fun t => tileActive s t && canPut s (s.spool (32 + t))
        && (List.range 16).any (fun i => (fetchRoom s t i).isSome))).map (fun t => .streamFetchIssue (Fin.ofNat 12 t))
  ++ (keysOf s.spools (fun _ p => spoolLive p && p.cls == 3 && p.target != 0 && occupancy p != 0 && ringReady s p)).map
      (fun n => .shuttleSend (Fin.ofNat 65536 n) none)

def dueFrames (s : State) : List Instr :=
  (keysOf s.links (fun _ x => x.tx == .train || x.tx == .up || x.tx == .wake)).map (fun k => .frameTransmit (Fin.ofNat 4 k))

def dueScrubs (s : State) : List Instr :=
  (keysOf s.mem.scrubs (fun _ x => match x.run with | some r => r.aborted || decide (r.lines ≤ r.done) | none => false)).map
    (fun e => .scrubPassEnd (Fin.ofNat 5 e))

/-- The events of a tick, in their order. -/
def phases : List (State → List Instr) :=
  [dueEpoch, duePower, dueStaged, dueSlow, dueEvaluation, dueTimers, dueRepair, dueSegments, dueEmissions, dueFirst, dueBits,
   dueShots, dueWords, dueMarks, dueCaptures, dueDispatch, dueCycle 0, dueDispatch, dueCycle 1, dueBudget, dueEvents,
   dueFills, dueUpdates, dueBias, dueSupervision, dueSpools, dueFrames, dueScrubs]

/-- The first phase from number `i` on in which something is due. -/
def findPhase (s : State) : Nat → List (State → List Instr) → Option (Nat × List Instr)
  | _, [] => none
  | i, p :: r => match p s with
    | [] => findPhase s (i + 1) r
    | l => some (i, l)

/-! ### The next tick -/

/-- What bias queues see: PI at the end of a tick that began at a slow-tick boundary (07 R195). -/
def showQueues (s : State) : State :=
  if !slowNow s then s
  else { s with spools := s.spools.map (fun e =>
    if e.2.cls = 2 && e.2.esize == 0 then (e.1, { e.2 with seen := e.2.pi }) else e) }

def closeTick (s : State) : State :=
  let s := releaseAll (handMvRecords (handPushes (sampleTaints s)))
  let s := keepBinds (showQueues (closePlayers s s.now s.st))
  let s := dropWins (windowsCloseTick s)
  closeHarness (hkDrain (hkDrain s 0) 1) s.now

/-- Emissions of a tile that left ACTIVE reach no thread (01 R25). -/
def dropEmits (s : State) : State :=
  { s with emits := s.emits.filter (fun e => tileActive s (tileOfLoom e.loom) || e.op == 7 || e.op == 8) }

def openTick (s : State) : State :=
  let s := openPlayers (dropEmits (applyAborts (sampleMarkers s)))
  let s := windowsOpenTick (armPubs (showLosses s))
  actMarkers (sendShotMarks s)

/-- The clock of the next tick: ST counts in FREE and SET while REFCLK is present, after a power-on reset from the first
slow-tick boundary on (02 R36, R38, R42). -/
def countOn (s : State) : State :=
  let s := { s with
    time := { s.time with tick := s.time.tick + 1, st := if counting s then s.st + 32 else s.st }
    phase := 0 }
  if slowNow s then { s with time := { s.time with wait := false } } else s

/-- The tick ends and the next begins. -/
def nextTick (s : State) : State := openTick (scrubTick (bootTick (countOn (closeTick s))))

/-! ### Nirdin (13 R339, R340) -/

/-- The parameter block of a frame, as far as the choice of its command needs it. -/
def peekBlock (s : State) (h : Nat) (payload : List Byte) : Nat :=
  let inlineF := [0x0004, 0x0303, 0x0501, 0x0701].contains (fld h 0 16)
  if !bit h 48 then leNat (payload.take 16)
  else if inlineF then leNat ((payload.drop 16).take 16)
  else leNat (ddrRead s (refAddr (leNat (payload.take 16))) 16).1

/-- The command of a frame (13 R349); none: BAD_OPCODE. -/
def commandOf (c : Frame) (b : Nat) : Option Instr :=
  match fld c.header.toNat 0 16 with
  | 0x0001 => some (.identify c) | 0x0002 => some (.version c)
  | 0x0003 => some (match b % 4 with | 0 => .resetWarm c | 1 => .resetQuadrant c | _ => .resetTile c)
  | 0x0004 => some (match b % 4 with | 0 => .fwStage c | 1 => .fwActivate c | 2 => .fwRunRam c | _ => .fwCommitFloor c)
  | 0x0101 => some (.timeEpoch c) | 0x0102 => some (.timeRelease c)
  | 0x0201 => some (.portCfg c) | 0x0202 => some (.threadCfg c) | 0x0203 => some (.tsetCfg c) | 0x0204 => some (.listWrite c)
  | 0x0205 => some (.pdCoef c) | 0x0206 => some (.portStatus c)
  | 0x0301 => some (.bobbinAlloc c) | 0x0302 => some (.bobbinFree c) | 0x0303 => some (.bobbinWrite c)
  | 0x0304 => some (if dValid b then .segmentDesc c else .segmentDelete c)
  | 0x0305 => some (.jumpCfg c) | 0x0306 => some (.bobbinStatus c)
  | 0x0401 => some (.windowProfile c) | 0x0402 => some (.weightWrite c) | 0x0403 => some (.weightSwap c)
  | 0x0404 => some (.readpairCfg c) | 0x0405 => some (.rdFirCoef c) | 0x0406 => some (.readStatus c)
  | 0x0407 => some (if bit b 20 then .rawCaptureAbort c else .rawCapture c) | 0x0408 => some (.captureStatus c)
  | 0x0501 => some (.marverLoad c) | 0x0502 => some (if bit b 5 then .marverStop c else .marverStart c)
  | 0x0503 => some (.mvThreadCfg c) | 0x0504 => some (.marverStatus c)
  | 0x0601 => some (.fluxCfg c) | 0x0602 => some (.fluxPd c) | 0x0603 => some (.fluxStatus c)
  | 0x0610 => some (.biasGroupCfg c) | 0x0611 => some (.biasCfg c)
  | 0x0612 => some (match fld b 16 2 with | 0 => .biasRun c | 1 => .biasTest c | _ => .biasClamp c)
  | 0x0613 => some (.biasNv c) | 0x0614 => some (.biasStatus c)
  | 0x0701 => some (.loomLoad c) | 0x0702 => some (.loomCfg c)
  | 0x0703 => some (match fld b 8 2 with | 0 => .loomRun c | 1 => .loomStop c | _ => .loomAbort c)
  | 0x0704 => some (.loomStatus c)
  | 0x0801 => some (.warpBind c) | 0x0802 => some (.warpStatus c)
  | 0x0901 => some (.harnessCfg c) | 0x0902 => some (.harnessSink c) | 0x0903 => some (.harnessFire c)
  | 0x0904 => some (.harnessStatus c)
  | 0x0A01 => some (.spoolCreate c)
  | 0x0A02 => some (match fld b 16 2 with | 0 => .spoolResizeEmpty c | 1 => .spoolResizeDrain c | _ => .spoolResizeDiscard c)
  | 0x0A03 => some (.spoolDelete c) | 0x0A04 => some (.spoolStatus c)
  | 0x0B01 => some (if bit b 5 then .vfBind c else .vfUnbind c) | 0x0B02 => some (.icCfg c)
  | 0x0C01 => some (.memInfo c) | 0x0C02 => some (if bit b 2 then .scrubAbort c else .scrubStart c)
  | 0x0C03 => some (.scrubStatus c) | 0x0C04 => some (.hotwordRead c)
  | 0x0D01 => some (.linkCfg c)
  | 0x0D02 => some (match fld b 2 3 with
      | 0 => .linkRetrain c | 1 => .linkSleepLight c | 2 => .linkSleepDeep c | 3 => .linkWake c
      | 4 => .linkAdaptResume c | 5 => .linkSpare c | _ => .linkUnspare c)
  | 0x0D03 => some (.linkStatus c)
  | 0x0D04 => some (match fld b 0 2 with | 0 => .weaveAdmitRoot c | 1 => .weaveAdmitMember c | _ => .weaveAdmitLeave c)
  | 0x0D05 => some (.weaveStatus c)
  | 0x0E01 => some (if bit b 0 then .wallCfgDomain c else .wallCfgPort c) | 0x0E02 => some (.wallSwitch c)
  | 0x0E03 => some (.wallStatus c)
  | 0x0F01 => some (.quadPower c) | 0x0F02 => some (.tilePower c) | 0x0F03 => some (.powerStatus c)
  | 0x1001 => some (match fld b 96 2 with | 1 => .lehrRelease c | 2 => .lehrReinstate c | _ => .lehrCfg c)
  | 0x1002 => some (.lehrStatus c)
  | 0x1101 => some (.hkCfg c) | 0x1102 => some (if bit b 2 then .hkCalRestore c else .hkCal c)
  | 0x1103 => some (.hkStatus c) | 0x1104 => some (.openWire c)
  | 0x1201 => some (.repairReport c) | 0x1202 => some (.ledgerRead c) | 0x1203 => some (.partCfg c)
  | 0x1204 => some (.objOwner c) | 0x1205 => some (if fld b 2 2 = 0 then .keyInstall c else .keyRevoke c)
  | 0x1206 => some (.keyStatus c)
  | _ => none

/-- The frame at CI of a function's MB_CMD. -/
def cmdFrame (s : State) (f : Nat) : Frame :=
  let b := readBytes (s.fn f).mbox (0x10000 + 256 * ((s.fn f).cmdCi % 16)) 256
  { func := Fin.ofNat 17 f, header := BitVec.ofNat 128 (leNat (b.take 16)), payload := b.drop 16, refBytes := none }

/-- The frame needs no fetch from host memory: one that does is served with the command that carries the bytes (DESIGN
CHOICE, log 5). -/
def ownBytes (c : Frame) : Bool :=
  !bit c.header.toNat 48 || refInternal (leNat (c.payload.take 16))

/-- Nirdin's turn (R340): the next function, ascending after the last served, whose frame can be taken. -/
def nextTurn (s : State) : Option Nat :=
  ((List.range 17).map (fun i => (s.gaf.last + 1 + i) % 17)).find? (fun f =>
    serving s f && ringOcc (s.fn f).cmdPi (s.fn f).cmdCi != 0 && s.power.core && !s.power.perst && ownBytes (cmdFrame s f))

/-- Nirdin serves one frame: its command is put in the queue; an unknown opcode is answered (R349). -/
def serveTurn (s : State) (f : Nat) : State :=
  let c := cmdFrame s f
  let s := { s with gaf := { s.gaf with last := f } }
  match commandOf c (peekBlock s c.header.toNat c.payload) with
  | some i => { s with pending := [i] }
  | none => serve { op := fld c.header.toNat 0 16 } c s (fun _ s => deny s .badOpcode)

/-! ### The idle step -/

/-- What the block does while no command waits: the next events of the tick, one turn of Nirdin, or the next tick. -/
def idle (s : State) : State :=
  match findPhase s s.phase (phases.drop s.phase) with
  | some (i, l) => { s with pending := l, phase := i + 1 }
  | none =>
    match (if s.phase ≤ phases.length then nextTurn s else none) with
    | some f => { serveTurn s f with phase := phases.length + 1 }
    | none => nextTick s

end Sys2Proof.Machine
end

