-- ==== Sys2Proof/Machine/Step.lean ====
section
/-! DEFINITION. One step of the block: the command at the front of the queue, or, with no command
waiting, what the block does of its own accord (DESIGN CHOICE, log 2). -/

namespace Sys2Proof.Machine

/-- The step: the front command's effect on the state whose queue is the rest; on an empty queue the
next events of the present tick, one turn of Nirdin, or the next tick (DESIGN CHOICE, log 2). -/
def step (s : State) : Host.Outcome State Fault Refusal :=
  match s.pending with
  | c :: rest => exec c { s with pending := rest }
  | [] => .next (idle s)

/-- The state with the command that a table word spells put at the front of the queue; the table gives
no row any bits, so no word spells one (DESIGN CHOICE, log 3). -/
def State.withFetchWord (s : State) (nbits w : Nat) : State :=
  match Sys2Proof.decodeTableWord nbits w with
  | some c => { s with pending := c :: s.pending }
  | none => s

end Sys2Proof.Machine
end

