-- ==== Sys2Proof/WellFormed.lean ====
section
/-! DEFINITION. Which commands the outside can send: the ranges that the operands' types do not say. -/

namespace Sys2Proof

/-- A frame holds at most 240 payload bytes (13 R335). -/
def Frame.wf (c : Frame) : Bool := c.payload.length ≤ 240

/-- A flux index is a local port index, 0 to 15 (01 R19). -/
def ThreadRef.wf (t : ThreadRef) : Bool := t.kind != .flux || t.index.val < 16

/-- A thread that plays segments or takes emissions of drive, readout and flux (01 R19, 08 R213). -/
def ThreadRef.plays (t : ThreadRef) : Bool := t.wf && t.kind != .bias

/-- A frame write lies in its ring's slots (23 R566). -/
def mbRingBytes : MbRing → Nat
  | .cmd => 0x1000 | .rsp => 0x1000 | .evt => 0x4000 | .aud => 0x4000

/-- A register access is 1, 2, 4 or 8 bytes wide, inside the function's BAR0 (12 R318, R319). -/
def accessOk (f offset width : Nat) : Bool :=
  [1, 2, 4, 8].contains width && decide (offset + width ≤ (if f = 0 then 0x4000000 else 0x100000))

/-- The rails with a droop count: rail 0 and rails 7 to 14 (18 R480). -/
def droopRail (r : Nat) : Bool := r == 0 || (decide (7 ≤ r) && decide (r ≤ 14))

/-- The commands whose operands lie in their ranges. -/
def Instr.wf : Instr → Bool
  | .mbFrameWrite _ r off d => decide (0 < d.length) && decide (off + d.length ≤ mbRingBytes r)
  | .registerWrite f off width _ _ => accessOk f off width
  | .bar2Read _ len => decide (0 < len)
  | .bar2Write _ d _ => decide (0 < d.length)
  | .stNowLoRead r => accessOk r.func r.offset r.width
  | .msixUnmask f e => f.val == 0 || decide (e.vector.val < 64)
  | .spoolAppend _ _ _ e => decide (0 < e.length) && decide (e.length ≤ 256)
  | .droop r => droopRail r.val
  | .emitTset t | .emitPlay t | .emitFreq t | .emitPhase t | .emitAmp t | .segmentEnd t | .underrunFill t => t.plays
  | _ => true

end Sys2Proof
end

