-- ==== Sys2Proof/Safety.lean ====
section
/-! DEFINITION. The terms in which statements speak: when Nirdin accepts a frame, how an accepted command
ends, and what a well-kept state is. -/

namespace Sys2Proof.Machine

/-! ### Accepted commands (13 R333 to R344) -/

/-- The state in which a taken frame is accepted: CI of MB_CMD has passed it, and what the fetch of its
input reference met is recorded (13 R337, R339, R340). -/
def acceptState (c : Frame) (s : State) : State := (fetchRef c (offer s c).1).1

/-- Nirdin takes the frame and none of the shared checks of 13 R336, R337, R341 and R331 and 12 R315 refuses
it; the input reference, if it has one, delivers `rb`. -/
def admits (i : CmdInfo) (c : Frame) (s : State) (rb : List Byte) : Bool :=
  let t := (offer s c).1
  fld c.header.toNat 0 16 == i.op
    && (barOpen s c.func || ringOcc (s.fn c.func).cmdPi (s.fn c.func).cmdCi != 0) && (offer s c).2
    && earlyFail i c t == none && (!i.pf0 || c.func == 0) && refsFail c t == none && (fetchRef c t).2 == some rb

/-- The end of an accepted command whose body completes with `r` (13 R342, R343). -/
def completed (c : Frame) (t : State) (r : Result) : State :=
  complete c.func ((fnPart t c.func).getD {}) (outstOf c t) (outRefOf c) r

/-- Nothing stands between a body's OK and the response: the output fits (13 R338) and its reference takes it (13 R337), and
the Ledger takes the entries of the change (20 R516). -/
def sendable (c : Frame) (t : State) (r : Result) : Bool :=
  outFits (outRefOf c) r.out && (r.items.isEmpty || !ledgerBlocked t)
    && !outLost t c.func ((fnPart t c.func).getD {}) (outRefOf c) r

/-- A frame that is accepted, and meets `pre`, completes with OK and exactly the effect `eff`. -/
def Completes (cmd : Frame → Instr) (i : CmdInfo) (pre : Call → State → Bool) (eff : Call → State → Result) : Prop :=
  ∀ (c : Frame) (s : State) (rb : List Byte), admits i c s rb = true →
    pre (callOf i c (acceptState c s) rb) (acceptState c s) = true →
    sendable c (acceptState c s) (eff (callOf i c (acceptState c s) rb) (acceptState c s)) = true →
    exec (cmd c) s = .next (completed c (acceptState c s) (eff (callOf i c (acceptState c s) rb) (acceptState c s)))

/-- A command that writes MRAM: where the write verifies, it completes with exactly the effect `eff`; where it
does not (the spec leaves open when; DESIGN CHOICE, log 16), it has no effect and answers NV_FAIL. -/
def CompletesNv (cmd : Frame → Instr) (i : CmdInfo) (pre : Call → State → Bool) (eff : Call → State → Result) : Prop :=
  ∀ (c : Frame) (s : State) (rb : List Byte), admits i c s rb = true →
    pre (callOf i c (acceptState c s) rb) (acceptState c s) = true →
    sendable c (acceptState c s) (eff (callOf i c (acceptState c s) rb) (acceptState c s)) = true →
    exec (cmd c) s = .next (if Config.nvVerifies (acceptState c s).now
      then completed c (acceptState c s) (eff (callOf i c (acceptState c s) rb) (acceptState c s))
      else postRsp (acceptState c s) c.func (outstOf c (acceptState c s)) false .nvFail 0
        (refusalOut (fld c.header.toNat 0 16)))

/-- A command with its rule's checks, in their order, and its effect: an accepted frame that no check stops
completes with OK and exactly the effect; one that a check stops has no effect and answers the first such
check's status. -/
def Serves (cmd : Frame → Instr) (i : CmdInfo) (checks : Call → State → List (Bool × Status))
    (eff : Call → State → Result) : Prop :=
  ∀ (c : Frame) (s : State) (rb : List Byte), admits i c s rb = true →
    let t := acceptState c s
    let k := callOf i c t rb
    (firstFail (checks k t) = none → sendable c t (eff k t) = true →
      exec (cmd c) s = .next (completed c t (eff k t)))
    ∧ (∀ st, firstFail (checks k t) = some st → st ≠ .ok → ledgerBlocked t = false →
      ∃ obj, exec (cmd c) s = .next (refuse t c.func ((fnPart t c.func).getD {}) (outstOf c t) st obj))

/-! ### Well-kept states -/

/-- A memory is in its one form: addresses strictly rising, no entry 0, which is what an unlisted byte reads as. -/
def Memory.wf (m : List Host.Cell) : Bool := twf 0 m

/-- BAR2_BASE as R320 provides, its bits [29:0] and [63:48] 0, and DDR and ring memory in the one form of a memory. -/
def KeptParts (bar2 : Nat) (ddr ring : List Host.Cell) : Prop :=
  (bar2 % 2 ^ 30 = 0 ∧ bar2 < 2 ^ 48) ∧ Memory.wf ddr = true ∧ Memory.wf ring = true

/-- A well-kept state: the reserved bits of BAR2_BASE read 0 (R320), and the memories have one form each, so that
equal memories are equal data. -/
abbrev Kept (s : State) : Prop := KeptParts s.bar2 s.mem.ddr s.ringMem

/-! ### Marver instructions (06 R152 to R171) -/

/-- Core `c` runs instruction `w` in this tick: it runs, waits for no event, its cycle has come, its program word
has no stored error, and no repeat is in progress. -/
def fetches (s : State) (c w : Nat) : Bool :=
  coreRuns s c && !(s.core c).wait && decide ((s.core c).cycle ≤ 2 * s.now + 1)
    && maskOf s.mem (progAddr c (s.core c).pc) == 0 && tget 0 (s.core c).prog (s.core c).pc == w && (s.core c).rpt == 0

/-- Only core `c` of the state has changed. -/
def OnlyCore (s t : State) (c : Nat) : Prop :=
  (∀ d, d ≠ c → t.core d = s.core d) ∧ { t with cores := s.cores } = s

/-- The shared registers of a core at the end of an instruction of `n` cycles that does not jump. -/
def stepped (s : State) (x : Core) (n : Nat) : Core :=
  { x with pc := (x.pc + 1) % 16384, cycle := max x.cycle (2 * s.now) + n }

/-- The instruction writes, in every active lane, the saturated value `z` to VD and nothing else but SATL and SAT
(R155, R157); `post` is what it does to the shared registers. -/
def WritesV (i : Instr) (s : State) (c w : Nat) (z : Nat → Int × Int) (post : Core → Core := id) : Prop :=
  let x := s.core c
  ∃ t, exec i s = .next t ∧ OnlyCore s t c
    ∧ (∀ l, l < 8 → bit x.lp l = true →
        vReg (t.core c) l (iVd w) = ((sat24 (z l).1).1, (sat24 (z l).2).1)
        ∧ bit (t.core c).satl l = (bit x.satl l || (sat24 (z l).1).2 || (sat24 (z l).2).2))
    ∧ (∀ l r, l < 8 → r < 16 → bit x.lp l = false ∨ r ≠ iVd w → vReg (t.core c) l r = vReg x l r)
    ∧ (∀ l, l < 8 → bit x.lp l = false → bit (t.core c).satl l = bit x.satl l)
    ∧ { t.core c with v := x.v, satl := x.satl, flags := x.flags } = post (stepped s x 1)

/-- The instruction puts, in every active lane, the exact result `z`, limited to 56 bits, into accumulator ACC
unless that holds, and a result outside the limits makes it hold and sets GOVL (R156). -/
def WritesAcc (i : Instr) (s : State) (c w : Nat) (z : Nat → Int × Int) (post : Core → Core := id) : Prop :=
  let x := s.core c
  let lim : Int := 2 ^ 55
  ∃ t, exec i s = .next t ∧ OnlyCore s t c
    ∧ (∀ l, l < 8 → bit x.lp l = true → tget false x.hold (4 * l + iAcc w) = false →
        accReg (t.core c) l (iAcc w) = (clip (-lim) (lim - 1) (z l).1, clip (-lim) (lim - 1) (z l).2)
        ∧ ((-lim ≤ (z l).1 ∧ (z l).1 < lim ∧ -lim ≤ (z l).2 ∧ (z l).2 < lim) ↔
            tget false (t.core c).hold (4 * l + iAcc w) = false))
    ∧ (∀ l a, l < 8 → a < 4 → bit x.lp l = false ∨ a ≠ iAcc w ∨ tget false x.hold (4 * l + a) = true →
        accReg (t.core c) l a = accReg x l a ∧ tget false (t.core c).hold (4 * l + a) = tget false x.hold (4 * l + a))
    ∧ { t.core c with acc := x.acc, hold := x.hold, govl := x.govl, flags := x.flags } = post (stepped s x 1)

/-- None of the words at these addresses has a stored error. -/
def cleanReads (s : State) (l : List (Nat × Nat)) : Bool :=
  l.all (fun p => (List.range 8).all (fun j => maskOf s.mem (p.2 + j) == 0))

/-- The instructions of a Marver core with their opcodes (R158). -/
def marverInstrs (c : Fin 24) : List (Nat × Instr) :=
  [(0x00, .mvNop c), (0x01, .mvWait c), (0x02, .mvJmp c), (0x03, .mvBrz c), (0x04, .mvDjnz c), (0x05, .mvRpt c),
   (0x06, .mvLda c), (0x07, .mvLdm c), (0x08, .mvAdda c), (0x09, .mvSetk c), (0x0A, .mvSetys c), (0x10, .mvIn c),
   (0x11, .mvLdi c), (0x12, .mvMov c), (0x13, .mvLdx c), (0x14, .mvLdy c), (0x15, .mvStx c), (0x16, .mvVadd c),
   (0x17, .mvVsub c), (0x18, .mvVshr c), (0x20, .mvCmul c), (0x21, .mvCmac c), (0x22, .mvCmacy c), (0x23, .mvTapm c),
   (0x24, .mvClra c), (0x25, .mvClrg c), (0x26, .mvMova c), (0x28, .mvCls3 c), (0x29, .mvSti c), (0x2A, .mvPge c),
   (0x2B, .mvPrst c), (0x30, .mvPub c), (0x31, .mvRec c)]

end Sys2Proof.Machine
end

