-- ==== Sys2Proof/Certificates/Slice0/Obligations.lean ====
section
/-! DEFINITION. The statements for the provers. -/

open Sys2Proof Sys2Proof.Machine

/-- One command at a time, first in first out: the step takes the command at the front of the queue and runs exec on
it with the rest of the queue. On an empty queue the block does what it does of its own accord (DESIGN CHOICE, log 2).
The opcode table gives no row any bits, so no word spells a command (log 3). -/
def Obligations.CommandsRunInOrder : Prop :=
  (∀ (s : State) (c : Instr), step { s with pending := c :: s.pending } = exec c s)
  ∧ (∀ (s : State) (c : Instr) (r : List Instr), s.pending = c :: r → step s = exec c { s with pending := r })
  ∧ (∀ s : State, s.pending = [] → step s = .next (idle s))
  ∧ (∀ (s : State) (n w : Nat), decodeTableWord n w = none ∧ s.withFetchWord n w = s)

/-- R38, R41, R45, R189 to R210, R206, R320, R334, R385, R452, R515, R522, R523: what the power-on reset leaves where
the spec gives the value: ST 0 in FREE, mailboxes empty, the Gaffer initialising, quadrants, tiles and links off, every
bias channel CLAMPED at code 0 with DG_WIN 100 and SLEW 1,000, group dividers 32, BAR2_BASE 0, no key installed, PT0
with all four key slots, the Ledger with the entry of its manufacture, nothing outstanding and no command waiting.
Model choices: logs 4, 10, 41, 42, 43. -/
def Obligations.ResetState : Prop :=
  let s := State.reset
  s.time.st = 0 ∧ s.time.mode = .free ∧ s.time.root = false ∧ s.time.gen = 0 ∧ s.time.epochAt = none
  ∧ (∀ f, (s.fn f).cmdPi = 0 ∧ (s.fn f).cmdCi = 0 ∧ (s.fn f).rspPi = 0 ∧ (s.fn f).rspCi = 0
      ∧ (s.fn f).bound = false ∧ (s.fn f).outst = [])
  ∧ s.gaf.state = .initialising ∧ s.gaf.halt = none ∧ s.bar2 = 0
  ∧ (∀ q, (s.quad q).state = .off) ∧ (∀ t, tileActive s t = false)
  ∧ (∀ k, (s.link k).tx = .off ∧ (s.link k).rx = .off ∧ (s.link k).en = false) ∧ s.weave.role = .none
  ∧ (∀ b, (s.bc b).state = .clamped ∧ (s.bc b).present = 0 ∧ (s.bc b).target = 0 ∧ (s.bc b).dgWin = 100
      ∧ (s.bc b).slew = 1000 ∧ (s.bc b).qspool = 0) ∧ (∀ t, groupN s t = 32)
  ∧ (∀ k, tget 0 s.keys k = 0) ∧ (tget ({} : PartCfg) s.parts 0).keymask = 15
  ∧ (∀ l, (s.loom l).state = .empty) ∧ (∀ c, (s.core c).state = .empty) ∧ (∀ a, tget false s.mem.l1 a = false)
  ∧ s.mem.thresh = 16 ∧ s.ledger.entries.length = 1 ∧ s.ledger.next = 1 ∧ s.staged = [] ∧ s.emits = [] ∧ s.pending = []

/-- R334 to R342: a frame without references that Nirdin takes at once, with a header that R336 allows, a tag of no
outstanding command and the partition of its function, is accepted while the Gaffer is READY: it stands in MB_CMD, CI
has passed it, and nothing else has changed; the body reads the caller, the ST of acceptance and the payload.
Model choices: logs 5, 21. -/
def Obligations.AcceptedFrames : Prop :=
  ∀ (i : CmdInfo) (c : Frame) (s : State) (o : Owner),
    let h := c.header.toNat
    let x := s.fn c.func
    let y := placeFrame x (frameImage c)
    let t := s.setFn c.func { y with cmdCi := (y.cmdCi + 1) % 65536 }
    fld h 0 16 = i.op → barOpen s c.func = true → s.gaf.state = .ready → x.cmdPi = x.cmdCi → x.cmdPi < 65536 →
    x.outst.length < 16 → badHeader h (fld h 32 8) = false → x.outst.any (fun e => e.tag == fld h 16 16) = false →
    fnPart s c.func = some o → fld h 40 4 = o.part → (i.pf0 = true → c.func = 0) → bit h 48 = false → bit h 50 = false →
    admits i c s [] = true ∧ acceptState c s = t
    ∧ (callOf i c t []).accept = s.st ∧ (callOf i c t []).who = o ∧ (callOf i c t []).func = c.func
    ∧ (callOf i c t []).tag = fld h 16 16 ∧ (callOf i c t []).clear = bit h 49
    ∧ (i.inlineF = false → (callOf i c t []).blk = leNat (payloadOf c) ∧ (callOf i c t []).data = payloadOf c)
    ∧ (i.inlineF = true → (callOf i c t []).blk = leNat ((payloadOf c).take 16)
      ∧ (callOf i c t []).data = (payloadOf c).drop 16)

/-- R341: a command whose TAG equals the tag of an outstanding command of the same function is refused with TAG_DUP and
DUP = 1, and the commands that are outstanding stay outstanding. -/
def Obligations.TagsInUse : Prop :=
  ∀ (i : CmdInfo) (c : Frame) (s : State) (body : Call → State → Result),
    let t := (offer s c).1
    fld c.header.toNat 0 16 = i.op → barOpen s c.func = true → (offer s c).2 = true →
    badHeader c.header.toNat (fld c.header.toNat 32 8) = false →
    (t.fn c.func).outst.any (fun e => e.tag == fld c.header.toNat 16 16) = true →
    serve i c s body = postRsp t c.func { outstOf c t with accept := 0 } true .tagDup 0 (refusalOut i.op)
    ∧ ∀ e ∈ (t.fn c.func).outst, e ∈ ((serve i c s body).fn c.func).outst

/-- R339, R342, R343: a response is one frame at PI of MB_RSP, and PI moves on by one: RSP set, the opcode and the tag of
its command, the status, ACCEPT_ST, APPLY_ST and the output; no other byte of the mailbox, no other function and no
other part of the state changes, but for the function's vector 0. A command that completes without entries answers OK in
this form, a refused one its status without effect, and one that waits answers nothing yet. R273: HARNESS_CFG, HARNESS_SINK and
RAW_CAPTURE report no cycle in a refusal too. Model choices: log 56. -/
def Obligations.Responses : Prop :=
  (∀ (s : State) (f : Nat) (o : Outst) (dup : Bool) (st : Status) (ap : Nat) (out : List Byte), out.length ≤ 224 →
    let t := postRsp s f o dup st ap out
    let a := 0x11000 + 256 * ((s.fn f).rspPi % 16)
    readBytes (t.fn f).mbox a 256 = leBytes 16 (mkHeader o.opcode o.tag (16 + out.length) o.part true dup 0 st.code)
        ++ leBytes 8 o.accept ++ leBytes 8 ap ++ out ++ List.replicate (224 - out.length) 0
    ∧ (t.fn f).rspPi = ((s.fn f).rspPi + 1) % 65536
    ∧ (t.fn f).outst = (s.fn f).outst ++ [{ o with resp := some (s.fn f).rspPi }]
    ∧ (∀ i, i < a ∨ a + 256 ≤ i → tget 0 (t.fn f).mbox i = tget 0 (s.fn f).mbox i)
    ∧ (∀ g, g ≠ f → t.fn g = s.fn g) ∧ { t with fns := s.fns, sent := s.sent } = s)
  ∧ (∀ (c : Frame) (t : State) (r : Result), outRefOf c = none → r.items = [] →
    (r.waits = false → completed c t r = postRsp r.next c.func (outstOf c t) false .ok r.apply r.out)
    ∧ (r.waits = true → completed c t r =
        r.next.modFn c.func (fun x => { x with outst := x.outst ++ [outstOf c t] })))
  ∧ (∀ (s : State) (f : Nat) (w : Owner) (o : Outst) (st : Status) (b : Nat × Nat),
    st ≠ .nvTempInhibit → st ≠ .partDenied → st ≠ .sigFail → st ≠ .rollback → st ≠ .incompatible →
    refuse s f w o st b = postRsp s f o false st 0 (refusalOut o.opcode))
  ∧ (∀ op, refusalOut op = if op = 0x0901 ∨ op = 0x0902 ∨ op = 0x0407 then [0, 0, 0, 0] else [])

/-- R130: CONF is min(255, d / 2^CONF_SHIFT), where d is the distance of p from TH_A, with L3 = 1 from the nearer of
TH_A and TH_B. -/
def Obligations.Confidence : Prop :=
  ∀ (d : Disc) (p : Int),
    (d.l3 = false → confOf d p = min 255 ((p - d.thA).natAbs / 2 ^ d.confShift))
    ∧ (d.l3 = true → (p - d.thA).natAbs ≤ (p - d.thB).natAbs →
      confOf d p = min 255 ((p - d.thA).natAbs / 2 ^ d.confShift))
    ∧ (d.l3 = true → (p - d.thB).natAbs < (p - d.thA).natAbs →
      confOf d p = min 255 ((p - d.thB).natAbs / 2 ^ d.confShift))

/-- R375: a read of lines that are not valid returns zeros, finds no bad word and meets nothing, whatever stands in
DRAM; a scrub skips such a line. -/
def Obligations.InvalidLines : Prop :=
  (∀ (s : State) (a n : Nat), (∀ i, a / 8 ≤ i → i ≤ (a + n) / 8 → lineValid s (8 * i) = false) →
    ddrRead s a n = (List.replicate n 0, [], []))
  ∧ (∀ (s : State) (p m a : Nat) (t : Tally), a < 2 ^ 40 → lineValid s a = false →
    scrubLine p m (s, t) a = (s, { t with skipped := t.skipped + 1 }))

/-- R374, R376, R379: a write within one line of DDR. In a valid line without stored errors the bytes written change and
no other byte of DDR does; in an invalid line of a region in use the rest of the line reads 0 from then on, and the line
becomes valid. A read of a valid word without stored error returns its bytes. -/
def Obligations.DdrWrites : Prop :=
  (∀ (s : State) (a : Nat) (d : List Byte), d ≠ [] → a % 128 + d.length ≤ 128 →
    let t := (ddrWrite s a d).1
    (lineValid s a = true → maskOf s.mem ((l2Pos s a).1 / 8 * 8) = 0 →
      (∀ j, j < 16 → maskOf s.mem (a / 128 * 128 + 8 * j) = 0) →
      (∀ i, i < d.length → tget 0 t.mem.ddr (a + i) = d.getD i 0)
      ∧ (∀ i, i < a ∨ a + d.length ≤ i → tget 0 t.mem.ddr i = tget 0 s.mem.ddr i)
      ∧ { t with mem := { t.mem with ddr := s.mem.ddr, errs := s.mem.errs } } = s)
    ∧ (lineValid s a = false → tget false s.mem.l1 (a / 2 ^ 20) = true → maskOf s.mem ((l2Pos s a).1 / 8 * 8) = 0 →
      ((l2Pos s a).1 < a / 128 * 128 ∨ a / 128 * 128 + 128 ≤ (l2Pos s a).1) →
      (∀ i, i < d.length → tget 0 t.mem.ddr (a + i) = d.getD i 0)
      ∧ (∀ i, a / 128 * 128 ≤ i → i < a / 128 * 128 + 128 → i < a ∨ a + d.length ≤ i → tget 0 t.mem.ddr i = 0)
      ∧ (∀ i, i < a / 128 * 128 ∨ a / 128 * 128 + 128 ≤ i → i ≠ (l2Pos s a).1 →
          tget 0 t.mem.ddr i = tget 0 s.mem.ddr i)
      ∧ lineValid t a = true))
  ∧ (∀ (s : State) (w : Nat), lineValid s w = true → maskOf s.mem w = 0 → w % 8 = 0 →
    ddrRead s w 8 = (readBytes s.mem.ddr w 8, [], []))

/-- R320: at reset the reserved bits of BAR2_BASE read 0, and DDR and ring memory are in the one form of a memory:
addresses strictly rising, no entry equal to what an unlisted byte reads as. -/
def Obligations.WellKeptAtReset : Prop := Kept State.reset

/-- R320: from every well-kept state, whatever command stands in front and whatever the block does when none waits,
the next state is well kept too: the reserved bits of BAR2_BASE read 0 after a write, a reset and every other
command, and every store to DDR and to ring memory keeps the one form of a memory. -/
def Obligations.WellKeptByEveryStep : Prop :=
  ∀ s t : State, Kept s → step s = .next t → Kept t

/-- R351, R352: IDENTIFY and VERSION complete in every mailbox state that serves, for an unbound VF too, report
identity, binding, state and image, and change nothing but the mailbox. R317, R323: VF_BIND gives an unbound VF
a partition and its SECURE attribute, and takes them back from a VF whose Bus Master Enable is clear; IC_CFG
sets the enable, function and vector of an interrupt cause. Model choices: log 10. -/
def Obligations.IdentityBindingsAndCauses : Prop :=
  Completes .identify { op := 0x0001, inSealed := true, inRec := true, unbound := true } (fun _ _ => true)
    (fun k t => report t (leBytes 16 (pack [(Config.serial.toNat, 64), (0xB0, 8), (t.weave.device, 6), (0, 2), (k.func, 5),
      (((fnPart t k.func).getD {}).part, 4), (b2n (fnPart t k.func).isSome, 1), (mbCode t.gaf.state, 3)])))
  ∧ Completes .version { op := 0x0002, inSealed := true, inRec := true, unbound := true } (fun _ _ => true)
    (fun _ t => report t (versionOut t))
  ∧ Completes .vfBind { op := 0x0B01, pf0 := true }
    (fun k t => decide (1 ≤ fld k.blk 0 5) && decide (fld k.blk 0 5 ≤ 16) && bit k.blk 5 && fld k.blk 6 4 != 0
      && fld k.blk 11 53 == 0 && !(t.fn (fld k.blk 0 5)).bound && (fnOfPart t (fld k.blk 6 4)).isNone)
    (fun k t => done ((storeImage t 0x0B01 0x29 (fld k.blk 0 5) 8 (fld k.blk 0 5) (k.blk % 2 ^ 11)).1.modFn (fld k.blk 0 5)
        (fun x => { x with bound := true, part := fld k.blk 6 4, secure := bit k.blk 10 }))
      [(storeImage t 0x0B01 0x29 (fld k.blk 0 5) 8 (fld k.blk 0 5) (k.blk % 2 ^ 11)).2])
  ∧ Completes .vfUnbind { op := 0x0B01, pf0 := true }
    (fun k t => decide (1 ≤ fld k.blk 0 5) && decide (fld k.blk 0 5 ≤ 16) && !bit k.blk 5 && fld k.blk 11 53 == 0
      && (t.fn (fld k.blk 0 5)).bound && !(t.fn (fld k.blk 0 5)).busMaster)
    (fun k t => done ((storeImage t 0x0B01 0x29 (fld k.blk 0 5) 8 (fld k.blk 0 5) (fld k.blk 0 5)).1.modFn (fld k.blk 0 5)
        (fun x => { x with bound := false, part := 0, secure := false }))
      [(storeImage t 0x0B01 0x29 (fld k.blk 0 5) 8 (fld k.blk 0 5) (fld k.blk 0 5)).2])
  ∧ Completes .icCfg { op := 0x0B02 }
    (fun k t => fld k.blk 7 1 == 0 && fld k.blk 13 3 == 0 && fld k.blk 27 37 == 0 && decide (fld k.blk 8 5 ≤ 16)
      && decide (fld k.blk 16 11 < vectorCount (fld k.blk 8 5)) && (fnPart t (fld k.blk 8 5)).isSome
      && (k.func == 0 || ((tget {} t.ics (fld k.blk 0 6)).func == k.func && fld k.blk 8 5 == k.func))
      && (fld k.blk 8 5 == (tget {} t.ics (fld k.blk 0 6)).func
        || !((sinkOf t (40 + fld k.blk 0 6)).en
          || t.staged.any (fun x => x.kind == .harnessSink && x.obj == 40 + fld k.blk 0 6 && bit x.blk 8))))
    (fun k t => done { (storeImage t 0x0B02 oCause (fld k.blk 0 6) 8 (fld k.blk 0 6) (k.blk % 2 ^ 27)).1 with
        ics := tset {} t.ics (fld k.blk 0 6) { en := bit k.blk 6, func := fld k.blk 8 5, vector := fld k.blk 16 11 } }
      [(storeImage t 0x0B02 oCause (fld k.blk 0 6) 8 (fld k.blk 0 6) (k.blk % 2 ^ 27)).2])

/-- R353 to R356: STAGE of an image that passes the checks waits with the image in hand; ACTIVATE exchanges the
slots; RUN_RAM boots the image from step 4; COMMIT_FLOOR raises the rollback floor to the running SVN; the end
of a STAGE puts a verified image into the inactive slot and answers, and a failed one leaves no image and enters
the Ledger; a halted Gaffer waits (R328). Model choices: logs 10, 13, 63, 64, 133. -/
def Obligations.FirmwareUpdates : Prop :=
  Completes .fwStage { op := 0x0004, inSealed := true, inRec := true, pf0 := true, inlineF := true }
    (fun k t => k.blk == 0 && k.isRef && t.gaf.staging.isNone && imageFail t k.data == none
      && (match parseImage k.data with | some x => selfTested x.1 | none => false))
    (fun k t => waiting { t with gaf := { t.gaf with
      staging := (parseImage k.data).map (fun x => (k.func, k.tag, x.1)), staged := false } })
  ∧ Completes .fwActivate { op := 0x0004, inSealed := true, inRec := true, pf0 := true, inlineF := true }
    (fun k t => k.blk == 1 && t.gaf.staged)
    (fun _ t => done { t with gaf := { t.gaf with activeB := !t.gaf.activeB, staged := false } }
      [item 0x22 0 (buildOf (active t.gaf)) (buildOf (inactive t.gaf))])
  ∧ Completes .fwRunRam { op := 0x0004, inSealed := true, inRec := true, pf0 := true, inlineF := true }
    (fun k t => k.blk == 2 && k.isRef && t.gaf.state == .recovery && imageFail t k.data == none)
    (fun k t => done { t with gaf := { t.gaf with
        state := .initialising, booting := true, bootStep := 4, stepAt := t.now
        running := (parseImage k.data).map (fun x => x.1), slotB := true, fromRam := true } }
      [item 0x22 0 (buildOf t.gaf.running) (buildOf ((parseImage k.data).map (fun x => x.1)))])
  ∧ Completes .fwCommitFloor { op := 0x0004, inSealed := true, inRec := true, pf0 := true, inlineF := true }
    (fun k t => k.blk == 3 && decide (t.gaf.floor < runningSvn t) && decide (runningSvn t ≤ 64))
    (fun _ t => done { t with gaf := { t.gaf with floor := runningSvn t } }
      [item 0x22 0 (buildOf t.gaf.running) (buildOf t.gaf.running)])
  ∧ (∀ (s : State) (f tag : Nat) (i : Image), s.gaf.staging = some (f, tag, i) → s.gaf.state ≠ .halted →
      exec (.fwStageDone true) s = .next (answer { s with gaf := if s.gaf.activeB
          then { s.gaf with slotA := some i, staging := none, staged := true }
          else { s.gaf with slotBImg := some i, staging := none, staged := true } } f tag .ok 0 []
          [item 0x22 0 (buildOf (if s.gaf.activeB then s.gaf.slotA else s.gaf.slotBImg)) i.build])
      ∧ exec (.fwStageDone false) s = .next (answer (ledgerAppend { s with gaf := if s.gaf.activeB
          then { s.gaf with slotA := none, staging := none, staged := false }
          else { s.gaf with slotBImg := none, staging := none, staged := false } }
          (fromFn f ((fnPart s f).getD {})) s.st
          { objType := 0x22, objId := 0, action := 4, status := Status.nvFail.code
            oldDig := buildOf (if s.gaf.activeB then s.gaf.slotA else s.gaf.slotBImg) }) f tag .nvFail 0 [] []))
  ∧ (∀ (s : State) (ok : Bool), s.gaf.state = .halted → exec (.fwStageDone ok) s = .next s)

/-- R328: a halt of the Gaffer enters HALTED, keeps the cause and the ST in the halt record, and sends vector 1 of
every function with a partition; a watchdog expiry is such a halt. A halted Gaffer halts no further.
Model choices: log 58. -/
def Obligations.GafferHalts : Prop :=
  (∀ (s : State) (x : HaltCause), s.gaf.state ≠ .halted → s.power.core = true →
    exec (.gafferHalt x) s = .next ((List.range 17).foldl (fun t f => if (fnPart t f).isSome then msix t f 1 else t)
      { s with gaf := { s.gaf with state := .halted, booting := false, halt := some (haltNum x, s.st) } }))
  ∧ (∀ (s : State), s.gaf.state ≠ .halted → s.power.core = true →
    exec .watchdogExpiry s = .next ((List.range 17).foldl (fun t f => if (fnPart t f).isSome then msix t f 1 else t)
      { s with gaf := { s.gaf with state := .halted, booting := false, halt := some (haltNum .watchdog, s.st) } }))
  ∧ (∀ (s : State) (x : HaltCause), s.gaf.state = .halted → exec (.gafferHalt x) s = .next s)

/-- R334, R339: a write of MB_CMD_PI moves the index when the frames passed then number at most 16, and is ignored
with MBERR otherwise; a write of a host-driven CI up to PI moves it, and MB_RSP_CI ends the commands whose
responses it passes; one beyond PI is ignored with MBERR. -/
def Obligations.MailboxIndexWrites : Prop :=
  ∀ (s : State) (f : Fin 17) (v : BitVec 32), barOpen s f = true →
    let n := v.toNat % 65536
    let x := s.fn f
    let err := s.setFn f { x with mberr := { on := true, cnt := min (x.mberr.cnt + 1) 0xFFFF, at_ := s.now + 1 } }
    (ringOcc x.cmdPi x.cmdCi + ringOcc n x.cmdPi ≤ 16 →
      exec (.mbCmdPiWrite f v) s = .next (s.setFn f { x with cmdPi := n }))
    ∧ (16 < ringOcc x.cmdPi x.cmdCi + ringOcc n x.cmdPi → exec (.mbCmdPiWrite f v) s = .next err)
    ∧ (ringOcc n x.rspCi ≤ ringOcc x.rspPi x.rspCi →
      exec (.mbCiWrite f .rsp v) s = .next (s.setFn f { x with rspCi := n, outst := x.outst.filter (fun o =>
        o.resp.all (fun i => decide (ringOcc n x.rspCi ≤ ringOcc i x.rspCi))) }))
    ∧ (ringOcc x.rspPi x.rspCi < ringOcc n x.rspCi → exec (.mbCiWrite f .rsp v) s = .next err)
    ∧ (ringOcc n x.evtCi ≤ ringOcc x.evtPi x.evtCi →
      exec (.mbCiWrite f .evt v) s = .next (s.setFn f { x with evtCi := n }))
    ∧ (ringOcc x.evtPi x.evtCi < ringOcc n x.evtCi → exec (.mbCiWrite f .evt v) s = .next err)
    ∧ (ringOcc n x.audCi ≤ ringOcc x.audPi x.audCi →
      exec (.mbCiWrite f .aud v) s = .next (s.setFn f { x with audCi := n }))
    ∧ (ringOcc x.audPi x.audCi < ringOcc n x.audCi → exec (.mbCiWrite f .aud v) s = .next err)

/-- R334, R319: an aligned 4- or 8-byte write into a slot of MB_CMD outside the frames that wait stores its bytes
there and nowhere else; a write into a waiting frame, or into a ring that Nirdin writes, is ignored and sets
MBERR; an access of another width is discarded and reported. -/
def Obligations.FrameWrites : Prop :=
  ∀ (s : State) (f : Fin 17) (off : Nat) (d : List Byte), barOpen s f = true →
    ((d.length = 4 ∨ d.length = 8) → off % d.length = 0 → off + d.length ≤ 0x1000 →
      ringOcc (s.fn f).cmdPi (s.fn f).cmdCi ≤ (off / 256 + 16 - (s.fn f).cmdCi % 16) % 16 →
      ∃ t, exec (.mbFrameWrite f .cmd off d) s = .next t
        ∧ t = s.modFn f (fun x => { x with mbox := writeBytes x.mbox (0x10000 + off) d })
        ∧ readBytes (t.fn f).mbox (0x10000 + off) d.length = d
        ∧ ∀ a, a < 0x10000 + off ∨ 0x10000 + off + d.length ≤ a → tget 0 (t.fn f).mbox a = tget 0 (s.fn f).mbox a)
    ∧ ((d.length = 4 ∨ d.length = 8) → off % d.length = 0 → off + d.length ≤ 0x1000 →
      (off / 256 + 16 - (s.fn f).cmdCi % 16) % 16 < ringOcc (s.fn f).cmdPi (s.fn f).cmdCi →
      exec (.mbFrameWrite f .cmd off d) s = .next (s.modFn f (fun x => { x with mberr := flagRaise s.now x.mberr })))
    ∧ (∀ r, r ≠ .cmd → (d.length = 4 ∨ d.length = 8) → off % d.length = 0 → off + d.length ≤ mbRingBytes r →
      exec (.mbFrameWrite f r off d) s = .next (s.modFn f (fun x => { x with mberr := flagRaise s.now x.mberr })))
    ∧ (∀ r, d.length ≠ 4 → d.length ≠ 8 → exec (.mbFrameWrite f r off d) s = .next (s.send (.aer f .unsupported)))

/-- R45, R320, R319, R565: a read of ST_NOW_LO latches the upper halves and answers the low 32 bits of the Sample Time; a
read of another register answers its value and changes nothing, one of a reserved offset, of another width or
unaligned completes as Unsupported, and the doorbell region reads 0 (R291);
BAR2_BASE takes bits 47 to 30 of a write; a BAR2 access inside an installed, ACTIVE channel reads and writes the
DDR bytes at BAR2_BASE + offset, one to another partition's memory sets DENY, and one outside is Unsupported. The
interconnect's header errors (R28) are taken first: `takeHeader` answers whether the transfer is lost. -/
def Obligations.HostWindows : Prop :=
  (∀ (s : State) (f : Fin 17), barOpen s f = true →
    ∃ t, exec (.stNowLoRead ⟨f, 0x300, 4⟩) s = .next t
      ∧ t.sent = .readData f (leBytes 4 (readSt s % 2 ^ 32)) [] :: s.sent
      ∧ (t.fn f).stHi = readSt s / 2 ^ 32 % 2 ^ 32
      ∧ (t.fn f).wallLo = wallAt s.wall (readSt s) / 2 ^ 16 % 2 ^ 32
      ∧ (t.fn f).wallHi = wallAt s.wall (readSt s) / 2 ^ 48 % 2 ^ 32
      ∧ (∀ g, g ≠ f.val → t.fn g = s.fn g)
      ∧ { t with fns := s.fns, sent := s.sent } = s)
  ∧ (∀ (s : State) (f : Fin 17) (off : Nat), barOpen s f = true → off % 4 = 0 → off ≠ 0x300 →
    exec (.stNowLoRead ⟨f, off, 4⟩) s = .next (s.send (match bar0Word s f off with
      | some v => .readData f (leBytes 4 v) []
      | none => .readUr f))
    ∧ (0x80000 ≤ off → off < 0x100000 → bar0Word s f off = some 0)
    ∧ bar0Word s f 0x310 = some (s.fn f).wallLo ∧ bar0Word s f 0x304 = some (s.fn f).stHi
    ∧ bar0Word s f 0x14 = some (s.fn f).cmdCi ∧ bar0Word s f 0x18 = some (s.fn f).rspPi
    ∧ bar0Word s f 0x100 = some (b2n ((s.fn f).rspPi != (s.fn f).rspCi) + 2 * b2n ((s.fn f).evtPi != (s.fn f).evtCi)
        + 4 * b2n ((s.fn f).audPi != (s.fn f).audCi) + 8 * b2n (s.fn f).deny.on + 65536 * (s.fn f).deny.cnt))
  ∧ (∀ (s : State) (f : Fin 17) (off width : Nat), barOpen s f = true → (width ≠ 4 ∧ width ≠ 8) ∨ off % width ≠ 0 →
    off ≠ 0x300 → exec (.stNowLoRead ⟨f, off, width⟩) s = .next (s.send (.readUr f)))
  ∧ (∀ (s : State) (v : BitVec 64), barOpen s 0 = true →
    exec (.bar2BaseWrite v) s = .next { s with bar2 := v.toNat / 2 ^ 30 % 2 ^ 18 * 2 ^ 30 })
  ∧ (∀ (s : State) (o n : Nat), barOpen s 0 = true → o + n ≤ bar2Size s →
    let a := s.bar2 + o
    let h := takeHeader s 0 .pcie a
    let x := bitmapFixAll h.1 a n
    ((inDdr s a n && chanActive s (chanOf a)) = true → ddrMayChange s { part := 0, secure := true } a n = true →
      (h.2 = false → exec (.bar2Read o n) s = .next ((memEvents x.1 0 .pcie (x.2 ++ (ddrRead x.1 a n).2.2)).send
        (.readData 0 (ddrRead x.1 a n).1 (ddrRead x.1 a n).2.1)))
      ∧ (h.2 = true → exec (.bar2Read o n) s = .next (h.1.send (.readData 0 (List.replicate n 0) (wordsOf a n)))))
    ∧ ((inDdr s a n && chanActive s (chanOf a)) = true → ddrMayChange s { part := 0, secure := true } a n = false →
      exec (.bar2Read o n) s = .next ((s.modFn 0 (fun y => { y with deny := flagRaise s.now y.deny })).send
        (.readData 0 (List.replicate n 0) [])))
    ∧ ((inDdr s a n && chanActive s (chanOf a)) = false → exec (.bar2Read o n) s = .next (s.send (.readUr 0))))
  ∧ (∀ (s : State) (o : Nat) (d : List Byte), barOpen s 0 = true → o + d.length ≤ bar2Size s →
    let a := s.bar2 + o
    let h := takeHeader s 0 .pcie a
    let w := ddrWrite h.1 a d
    ((inDdr s a d.length && chanActive s (chanOf a)) = true →
      ddrMayChange s { part := 0, secure := true } a d.length = true →
      exec (.bar2Write o d .sound) s = .next (if h.2 then h.1 else memEvents w.1 0 .pcie w.2)
      ∧ (h.2 = false → ∃ t, exec (.bar2Write o d .poisoned) s = .next t
        ∧ (∀ x ∈ wordsOf a d.length, maskOf t.mem x = poisonSyn)))
    ∧ ((inDdr s a d.length && chanActive s (chanOf a)) = true →
      ddrMayChange s { part := 0, secure := true } a d.length = false →
      exec (.bar2Write o d .sound) s = .next (s.modFn 0 (fun y => { y with deny := flagRaise s.now y.deny })))
    ∧ ((inDdr s a d.length && chanActive s (chanOf a)) = false →
      exec (.bar2Write o d .sound) s = .next (s.send (.aer 0 .unsupported))))

/-- R291, R292, R295: an accepted doorbell moves the index of the side that the host plays to the value written, or
no index under bit 26, and rearms the notification under bit 25; a refused one counts in DBERR, writes a record
with its DETAIL, and moves nothing. -/
def Obligations.Doorbells : Prop :=
  ∀ (s : State) (f : Fin 17) (n : Fin 65536) (wide : Bool) (v : BitVec 64), barOpen s f = true →
    let r := readDesc s n
    let o := occupancy (r.spool n)
    (doorbellFault r f n wide v.toNat = none → bit v.toNat 25 = false → bit v.toNat 26 = false →
      doorbellSide r n (bit v.toNat 27) = some true →
      exec (.doorbell f n wide v) s = .next (notify (r.modSpool n (fun p => { p with pi := v.toNat % 2 ^ 25 })) n o))
    ∧ (doorbellFault r f n wide v.toNat = none → bit v.toNat 25 = false → bit v.toNat 26 = false →
      doorbellSide r n (bit v.toNat 27) = some false →
      exec (.doorbell f n wide v) s = .next (notify (r.modSpool n (fun p => { p with ci := v.toNat % 2 ^ 25 })) n o))
    ∧ (doorbellFault r f n wide v.toNat = none → bit v.toNat 25 = true → bit v.toNat 26 = true →
      exec (.doorbell f n wide v) s = .next (rearm r n))
    ∧ (∀ d, doorbellFault r f n wide v.toNat = some d →
      exec (.doorbell f n wide v) s = .next
        (errRecord (r.modSpool n (fun p => { p with flags := hit s.now p.flags 25 })) (r.spool n).owner
          (spoolRecord 2 n d s.st v.toNat)))

/-- R324, R334, R565 to R567, R45: 32-bit writes of the BAR0 registers. A W1C bit of 1 clears its flag, unless hardware
set it in that tick (R12), a counter
field of 0 clears its counter and any other value keeps it, index registers move as R334 says, a read-only
register keeps its value, a reserved offset, an unaligned access and a poisoned write, or one with an ECRC error
where the host checks it (R321), change nothing and are reported. -/
def Obligations.RegisterWrites : Prop :=
  (∀ (s : State) (f : Fin 17) (v : BitVec 64), barOpen s f = true →
    let w := v.toNat % 2 ^ 32
    exec (.registerWrite f 0x0 4 v .sound) s = .next (s.modFn f (fun x => { x with
      mberr := if bit w 16 && x.mberr.at_ != s.now + 1 then { x.mberr with on := false, at_ := 0 } else x.mberr }))
    ∧ exec (.registerWrite f 0x4 4 v .sound) s = .next (s.modFn f (fun x => { x with
      mberr := if w % 65536 = 0 then { x.mberr with cnt := 0 } else x.mberr }))
    ∧ exec (.registerWrite f 0x10 4 v .sound) s = .next (cmdPiWrite s f (w % 65536))
    ∧ exec (.registerWrite f 0x1C 4 v .sound) s = .next (ciWrite s f .rsp (w % 65536))
    ∧ exec (.registerWrite f 0x24 4 v .sound) s = .next (ciWrite s f .evt (w % 65536))
    ∧ exec (.registerWrite f 0x2C 4 v .sound) s = .next (ciWrite s f .aud (w % 65536))
    ∧ (∀ off ∈ [0x14, 0x18, 0x20, 0x28, 0x300, 0x304, 0x30C, 0x310, 0x314],
      exec (.registerWrite f off 4 v .sound) s = .next s)
    ∧ (∀ off ∈ [0x8, 0xC, 0x30, 0x104, 0x110, 0x280, 0x320, 0x1000],
      exec (.registerWrite f off 4 v .sound) s = .next (s.send (.aer f .unsupported)))
    ∧ exec (.registerWrite f 0x12 4 v .sound) s = .next (s.send (.aer f .unsupported))
    ∧ exec (.registerWrite f 0x10 2 v .sound) s = .next (s.send (.aer f .unsupported))
    ∧ (∀ off width, exec (.registerWrite f off width v .poisoned) s = .next (s.send (.aer f .poisoned)))
    ∧ ((s.fn f).ecrcCheck = true → ∀ off width, exec (.registerWrite f off width v .ecrc) s = .next (s.send (.aer f .ecrc)))
    ∧ ((s.fn f).ecrcCheck = false → ∀ off width,
      exec (.registerWrite f off width v .ecrc) s = exec (.registerWrite f off width v .sound) s))
  ∧ (∀ (s : State) (v : BitVec 64), barOpen s 0 = true →
    let w := v.toNat % 2 ^ 32
    exec (.registerWrite 0 0x100 4 v .sound) s = .next (s.modFn 0 (fun x => { x with deny :=
      { on := x.deny.on && (!bit w 3 || x.deny.at_ == s.now + 1)
        cnt := if w / 65536 % 65536 = 0 then 0 else x.deny.cnt
        at_ := if bit w 3 && x.deny.at_ != s.now + 1 then 0 else x.deny.at_ } }))
    ∧ exec (.registerWrite 0 0x408 8 v .sound) s = .next { s with bar2 := v.toNat / 2 ^ 30 % 2 ^ 18 * 2 ^ 30 })
  ∧ (∀ (s : State) (f : Fin 17) (v : BitVec 64) (n : Fin 64), barOpen s f = true →
    ∃ t, exec (.registerWrite f (if n.val < 32 then 0x108 else 0x10C) 4 v .sound) s = .next t
      ∧ tget {} (t.fn f).ic n = (if bit v.toNat (n.val % 32) && icAssigned s f n
          && (tget {} (s.fn f).ic n).at_ != s.now + 1 then { tget {} (s.fn f).ic n with on := false, at_ := 0 }
          else tget {} (s.fn f).ic n)
      ∧ ∃ u, exec (.registerWrite f (0x200 + n.val / 2 * 4) 4 v .sound) s = .next u
      ∧ tget {} (u.fn f).ic n = (if v.toNat / 2 ^ (16 * (n.val % 2)) % 65536 = 0
          then { tget {} (s.fn f).ic n with cnt := 0 } else tget {} (s.fn f).ic n))

/-- R311 to R316, R321, R322: a write of an MSI-X table entry sets its address, data and mask, and sends what was held for
the function's unmasked vectors; an FLR returns the function's configuration space, mailboxes, interrupt status and
outstanding commands to their reset values and touches no other function, but that of PF0 removes every VF; a Hot Reset
returns every configuration space; a configuration write sets its field, and a read answers the identifiers; VF Enable clear
removes every VF; an early request is retried, and none is answered while PERST# is low;
R512: a JTAG write enters the Ledger with origin JTAG. Model choices: logs 6, 59, 124, 125, 127, 130. -/
def Obligations.FunctionConfiguration : Prop :=
  (∀ (s : State) (f : Fin 17) (v : Fin 2048) (adr : BitVec 64) (dat : BitVec 32) (mask : Bool),
    barOpen s f = true → v.val < vectorCount f →
    exec (.msixUnmask f ⟨v, adr, dat, mask⟩) s = .next (flushVectors (s.modFn f (fun x => { x with
      table := tset {} x.table v { address := adr.toNat, data := dat.toNat, unmasked := !mask } })) f))
  ∧ (∀ (s : State) (f : Fin 17), f.val ≠ 0 → (s.fn 0).vfEnable = true → s.gaf.state ≠ .recovery →
    exec (.flr f) s = .next (s.modFn f (fun x =>
      { stHi := x.stHi, wallFx := x.wallFx, wallLo := x.wallLo, wallHi := x.wallHi
        bound := x.bound, part := x.part, secure := x.secure })))
  ∧ (∀ (s : State), ∃ t, exec (.flr 0) s = .next t
      ∧ t.fn 0 = { stHi := (s.fn 0).stHi, wallFx := (s.fn 0).wallFx, wallLo := (s.fn 0).wallLo, wallHi := (s.fn 0).wallHi
                   bound := (s.fn 0).bound, part := (s.fn 0).part, secure := (s.fn 0).secure }
      ∧ (∀ f, 1 ≤ f → f ≤ 16 → t.fn f = resetConfig (s.fn f)) ∧ { t with fns := s.fns } = s)
  ∧ (∀ (s : State), ∃ t, exec .hotReset s = .next t
      ∧ (∀ f, f < 17 → t.fn f = resetConfig (s.fn f)) ∧ { t with fns := s.fns } = s)
  ∧ (∀ x : Fn, resetConfig x = { x with
      busMaster := false, vfEnable := false, d3hot := false, payload := 0, readReq := 2, relaxed := true, tag10 := false
      ecrcGen := false, ecrcCheck := false, timeout := 0, timeoutOff := false, barSize := 4, table := [], vecPend := [] })
  ∧ (∀ (s : State) (f : Fin 17) (on : Bool), s.power.perst = false → s.power.core = true → configReady s = true →
    fnPresent s f = true →
    exec (.configWrite f (.busMaster on)) s = .next (flushVectors (s.modFn f (fun x => { x with busMaster := on })) f)
    ∧ exec (.configWrite f (.d3hot on)) s = .next (s.modFn f (fun x => { x with d3hot := on }))
    ∧ exec (.configWrite f (.relaxed on)) s = .next (s.modFn f (fun x => { x with relaxed := on }))
    ∧ exec (.configWrite f (.tag10 on)) s = .next (s.modFn f (fun x => { x with tag10 := on }))
    ∧ exec (.configWrite f (.ecrcGen on)) s = .next (s.modFn f (fun x => { x with ecrcGen := on }))
    ∧ exec (.configWrite f (.ecrcCheck on)) s = .next (s.modFn f (fun x => { x with ecrcCheck := on }))
    ∧ (∀ v, exec (.configWrite f (.payload v)) s = .next (s.modFn f (fun x => { x with payload := v.val }))
      ∧ exec (.configWrite f (.readRequest v)) s = .next (s.modFn f (fun x => { x with readReq := v.val })))
    ∧ (∀ v, exec (.configWrite f (.timeout v on)) s =
        .next (s.modFn f (fun x => { x with timeout := v.toNat, timeoutOff := on })))
    ∧ (f.val = 0 → ∀ v, exec (.configWrite f (.barSize v)) s = .next (s.modFn 0 (fun x => { x with barSize := v.val })))
    ∧ exec (.configWrite f (.read 0x00)) s =
        .next (s.send (.configData f (0x1F3C + (if f.val = 0 then 0x7384 else 0x7385) * 2 ^ 16)))
    ∧ exec (.configWrite f (.read 0x08)) s = .next (s.send (.configData f (0xB0 + 0x120000 * 2 ^ 8)))
    ∧ exec (.configWrite f (.read 0x2C)) s =
        .next (s.send (.configData f (s.gaf.read.subVendor + s.gaf.read.subsystem * 2 ^ 16))))
  ∧ (∀ (s : State), s.power.perst = false → s.power.core = true → configReady s = true →
    exec (.configWrite 0 (.vfEnable true)) s = .next (s.modFn 0 (fun x => { x with vfEnable := true }))
    ∧ ∃ t, exec (.configWrite 0 (.vfEnable false)) s = .next t
      ∧ t.fn 0 = { s.fn 0 with vfEnable := false } ∧ (∀ f, 1 ≤ f → f ≤ 16 → t.fn f = resetConfig (s.fn f))
      ∧ { t with fns := s.fns } = s)
  ∧ (∀ (s : State) (f : Fin 17) (c : CfgField), s.power.perst = false → s.power.core = true → configReady s = false →
    fnPresent s f = true → exec (.configWrite f c) s = .next (s.send (.configRetry f)))
  ∧ (∀ (s : State) (f : Fin 17) (c : CfgField), s.power.perst = true → exec (.configWrite f c) s = .next s)
  ∧ (∀ (s : State) (ty : BitVec 8) (id : BitVec 32),
    exec (.jtagWrite ty id) s = .next (ledgerAppend s fromJtag s.st { objType := ty.toNat, objId := id.toNat, action := 0 }))

/-- R517, R518: LEDGER_READ reports the head of the Ledger and the entries asked for, in full to PF0 and redacted
for a VF that neither caused them nor owns their object; a request of PF0 that changes RETAIN also writes MRAM.
R522 to R524: PART_CFG writes a partition's key mask and label; INSTALL writes a P-384 point into an EMPTY key
slot and REVOKE empties an INSTALLED one, both in MRAM with a Ledger entry; KEY_STATUS reports the slots.
Model choices: logs 9, 16, 94. -/
def Obligations.LedgerPartitionsAndKeys : Prop :=
  Completes .ledgerRead { op := 0x1202, inSealed := true }
    (fun k t => (!bit k.blk 78 || (k.func == 0 && bit k.blk 79 == t.ledger.retain)) && fld k.blk 80 48 == 0
      && decide (fld k.blk 64 14 ≤ 8192)
      && decide (oldestSeq t.ledger ≤ fld k.blk 0 64) && decide (fld k.blk 0 64 ≤ headSeq t.ledger)
      && decide (fld k.blk 0 64 + fld k.blk 64 14 ≤ headSeq t.ledger + 1))
    (fun k t => report t (ledgerReadOut k t t.ledger))
  ∧ CompletesNv .ledgerRead { op := 0x1202, inSealed := true }
    (fun k t => bit k.blk 78 && k.func == 0 && (bit k.blk 79 != t.ledger.retain) && fld k.blk 80 48 == 0
      && decide (fld k.blk 64 14 ≤ 8192)
      && decide (oldestSeq t.ledger ≤ fld k.blk 0 64) && decide (fld k.blk 0 64 ≤ headSeq t.ledger)
      && decide (fld k.blk 0 64 + fld k.blk 64 14 ≤ headSeq t.ledger + 1) && !nvInhibit t)
    (fun k t => { status := .ok, next := { t with ledger := { t.ledger with retain := bit k.blk 79 } }
                  out := ledgerReadOut k t { t.ledger with retain := bit k.blk 79 }, items := [item 0 0] })
  ∧ CompletesNv .partCfg { op := 0x1203, pf0 := true } (fun k t => fld k.blk 8 56 == 0 && !nvInhibit t)
    (fun k t =>
      let st := storeImage t 0x1203 0x20 (fld k.blk 0 4) 16 (fld k.blk 0 4 + if fld k.blk 0 4 = 0 then 0xF0 else 0)
        (k.blk % 2 ^ 128)
      done { st.1 with
        parts := tset {} st.1.parts (fld k.blk 0 4) { keymask := fld k.blk 4 4, label := fld k.blk 64 64 } } [st.2])
  ∧ CompletesNv .keyInstall { op := 0x1205, pf0 := true }
    (fun k t => fld k.blk 2 2 == 0 && fld k.blk 4 60 == 0 && tget 0 t.keys (fld k.blk 0 2) == 0
      && onCurve (octets k.blk 64) (octets k.blk 448) && !nvInhibit t)
    (fun k t =>
      let v := octets k.blk 64 + 2 ^ 384 * octets k.blk 448
      let st := storeImage t 0x1205 0x21 (fld k.blk 0 2) 104 (fld k.blk 0 2) (keyImage (fld k.blk 0 2) v)
      done { st.1 with keys := tset 0 st.1.keys (fld k.blk 0 2) v } [st.2])
  ∧ CompletesNv .keyRevoke { op := 0x1205, pf0 := true }
    (fun k t => fld k.blk 2 2 == 1 && fld k.blk 4 60 == 0 && tget 0 t.keys (fld k.blk 0 2) != 0 && !nvInhibit t)
    (fun k t =>
      let st := storeImage t 0x1205 0x21 (fld k.blk 0 2) 104 (fld k.blk 0 2) (keyImage (fld k.blk 0 2) 0)
      done { st.1 with keys := tset 0 st.1.keys (fld k.blk 0 2) 0 } [st.2])
  ∧ Completes .keyStatus { op := 0x1206 } (fun k _ => k.blk == 0) (fun _ t => report t (keyStatusOut t))

/-- R507 to R511, R519 to R521: REPAIR_REPORT reports the maps; a marked Loom or core that is quiet moves onto its
tile's spare, and turns FAILED when the spare is taken, while Nirdin runs (R328); OBJ_OWNER gives objects that nothing
holds a new owner, with one Ledger entry each. Model choices: logs 12, 95, 133. -/
def Obligations.RepairAndOwners : Prop :=
  Completes .repairReport { op := 0x1201 } (fun k _ => k.blk == 0) (fun _ t => report t (leBytes 64 (repairImage t)))
  ∧ (∀ (s : State) (n : Fin 96), s.repair.marks.contains { kind := .loom, store := 0, addr := n.val } = true →
    s.gaf.state ≠ .halted → ((s.loom n).state = .empty ∨ (s.loom n).state = .loaded) →
    let u := { s with repair := { s.repair with
      marks := s.repair.marks.filter (fun m => m != { kind := .loom, store := 0, addr := n.val }) } }
    (tget false s.repair.loomSpare (n / 8) = false →
      ∃ v, v = copyWhere u (fun w => decide (draftAddr n 0 0 ≤ w) && decide (w < draftAddr n 0 0 + 0x40000))
      ∧ exec (.repairRemap (.loom n)) s = .next (repairNote
        { v with repair := { v.repair with loomSpare := tset false v.repair.loomSpare (n / 8) true } }
        1 0x10 n n (loomOwner v n).part))
    ∧ (tget false s.repair.loomSpare (n / 8) = true →
      exec (.repairRemap (.loom n)) s = .next (repairNote (({ u with repair := { u.repair with
          loomFailed := tset false u.repair.loomFailed n true
          unrepaired := min (u.repair.unrepaired + 1) 0xFFFF } }).modLoom n (fun x => { x with state := .failed }))
        3 0x10 n n (loomOwner u n).part)))
  ∧ (∀ (s : State) (n : Fin 24), s.repair.marks.contains { kind := .core, store := 0, addr := n.val } = true →
    s.gaf.state ≠ .halted → ((s.core n).state = .empty ∨ (s.core n).state = .stopped ∨ (s.core n).state = .fault) →
    tget false s.repair.mvSpare (n / 2) = true →
    let u := { s with repair := { s.repair with
      marks := s.repair.marks.filter (fun m => m != { kind := .core, store := 0, addr := n.val }) } }
    exec (.repairRemap (.core n)) s = .next (repairNote (({ u with repair := { u.repair with
          mvFailed := tset false u.repair.mvFailed n true
          unrepaired := min (u.repair.unrepaired + 1) 0xFFFF } }).modCore n
            (fun x => { x with state := .failed, queue := [] }))
        3 0x11 n n (coreOwner u n).part))
  ∧ (∀ (s : State) (n : Fin 24), s.repair.marks.contains { kind := .core, store := 0, addr := n.val } = true →
    s.gaf.state ≠ .halted → ((s.core n).state = .empty ∨ (s.core n).state = .stopped ∨ (s.core n).state = .fault) →
    tget false s.repair.mvSpare (n / 2) = false →
    let u := { s with repair := { s.repair with
      marks := s.repair.marks.filter (fun m => m != { kind := .core, store := 0, addr := n.val }) } }
    ∃ v, v = copyWhere u (fun w => decide (coreBase n ≤ w) && decide (w < coreBase n + 0x80000))
      ∧ exec (.repairRemap (.core n)) s = .next (repairNote
        { v with repair := { v.repair with mvSpare := tset false v.repair.mvSpare (n / 2) true } }
        1 0x11 n n (coreOwner v n).part))
  ∧ (∀ (s : State) (w : BitVec 8) (a : Nat) (row : Bool), s.gaf.state ≠ .halted →
    let m : Mark := { kind := if row then .row else .column, store := w.toNat, addr := a }
    (s.repair.marks.contains m = false ∨ arrayQuiet s false m.store a = false →
      exec (.repairRemap (.array w a row)) s = .next s)
    ∧ (s.repair.marks.contains m = true → arrayQuiet s false m.store a = true →
      exec (.repairRemap (.array w a row)) s = .next (remapArray s false m)))
  ∧ (∀ (s : State) (r : RepairItem), s.gaf.state = .halted → exec (.repairRemap r) s = .next s)
  ∧ CompletesNv .objOwner { op := 0x1204, pf0 := true }
    (fun k t => decide (1 ≤ fld k.blk 0 8) && decide (fld k.blk 0 8 ≤ 0x11) && decide (1 ≤ fld k.blk 16 16)
      && decide (fld k.blk 16 16 ≤ 1024) && fld k.blk 9 7 == 0 && fld k.blk 69 59 == 0 && !nvInhibit t
      && (List.range (fld k.blk 16 16)).all (fun i => objIdOk (fld k.blk 0 8) (fld k.blk 32 32 + i)
        && (objPair (fld k.blk 0 8) (fld k.blk 32 32 + i)).all (fun o => !objBusy t o.1 o.2))
      && (let u := (((List.range (fld k.blk 16 16)).flatMap
            (fun i => objPair (fld k.blk 0 8) (fld k.blk 32 32 + i))).foldl (setOwner false (fld k.blk 64 4) (bit k.blk 68)) (t, [])).1
          (List.range 12).all (fun j => !tileLineUsed t j || tileOwner u j == tileOwner t j)))
    (fun k t =>
      let r := ((List.range (fld k.blk 16 16)).flatMap (fun i => objPair (fld k.blk 0 8) (fld k.blk 32 32 + i))).foldl
        (setOwner (bit k.blk 8) (fld k.blk 64 4) (bit k.blk 68)) (t, [])
      done r.1 r.2)

/-- R329, R358, R463, R464: DEV_RESET with KEY 0x5752, and an accepted RESET of kind WARM, perform a warm reset; any
other KEY is ignored. A warm reset keeps Sample Time, wall time, links, bias outputs and their queues (R193), owners, keys,
repair map, BAR2_BASE and the DDR cells, clears the other Spools, Harness, Warp, Bobbins' tables, staged blocks, quadrant
powers and IC_CFG, sets MB_CMD_CI to MB_CMD_PI, and begins the boot at step 1 (R330), or enters RECOVERY when BOOT_REC is
high (R331): its level at that boot is free (log 46). R313, R463, R464: while PERST# is low the block is in a reset of kind E, which also clears configuration space,
mailboxes, interrupt status and BAR2_BASE; the boot begins again when PERST# rises. Model choices: logs 46, 100, 102, 109. -/
def Obligations.WarmAndPerstResets : Prop :=
  (∀ (s : State), newBall s = { s with
    gaf := { s.gaf with recBall := Config.freeBool s.freeCtr }, freeCtr := s.freeCtr + 1 })
  ∧ (∀ (s : State) (v : BitVec 32), barOpen s 0 = true →
    exec (.devResetWrite v) s = .next (if v.toNat % 2 ^ 16 = 0x5752 then warmReset (newBall s) else s))
  ∧ (∀ (c : Frame) (s : State) (rb : List Byte), admits { op := 0x0003, inSealed := true, inRec := true, pf0 := true } c s rb = true →
    let k := callOf { op := 0x0003, inSealed := true, inRec := true, pf0 := true } c (acceptState c s) rb
    (s.fn c.func).outst.any (fun o => o.tag == fld c.header.toNat 16 16) = false →
    fld k.blk 0 2 = 0 → fld k.blk 2 4 = 0 → resetRsv k.blk = false → outRefOf c = none →
    exec (.resetWarm c) s = .next (warmReset (newBall (completed c (acceptState c s) (waiting (acceptState c s))))))
  ∧ (∀ (s : State), s.power.good = true → s.power.core = true → s.power.perst = false → s.gaf.recBall = false →
    (bootPick s.gaf).isSome = true →
    let t := warmReset s
    t.gaf.state = .initialising ∧ t.gaf.bootStep = 1 ∧ t.gaf.booting = true ∧ t.gaf.stepAt = s.now
    ∧ t.gaf.read = s.gaf.board.getD {}
    ∧ t.gaf.slotA = s.gaf.slotA ∧ t.gaf.slotBImg = s.gaf.slotBImg ∧ t.gaf.floor = s.gaf.floor
    ∧ t.ledger = { s.ledger with boot := s.ledger.boot + 1 }
    ∧ t.time = { s.time with flags := tdel s.time.flags 6 } ∧ t.wall = s.wall ∧ t.links = s.links
    ∧ t.bar2 = s.bar2 ∧ t.owners = s.owners ∧ t.parts = s.parts ∧ t.keys = s.keys ∧ t.repair = s.repair
    ∧ t.mem.ddr = s.mem.ddr ∧ t.mem.l1 = [] ∧ t.biasN = s.biasN ∧ t.markIn = s.markIn
    ∧ (∀ b, (t.bc b).state = (s.bc b).state ∧ (t.bc b).present = (s.bc b).present ∧ (t.bc b).target = (s.bc b).target
      ∧ (t.bc b).qspool = (s.bc b).qspool)
    ∧ t.fns = mapEntries {} (fun x => { x with cmdCi := x.cmdPi, outst := [], bound := false, part := 0, secure := false }) s.fns
    ∧ t.spools = s.spools.filterMap (fun e => if s.blocksConsume e.1 && e.2.valid then some (e.1, { e.2 with
        fault := false, flags := [], resCtr := 0, resv := [], held := [], waiting := [], resize := none }) else none)
    ∧ t.ics = [] ∧ t.staged = [] ∧ t.threads = [] ∧ t.harness = {} ∧ t.dma = []
    ∧ t.warp = {} ∧ t.rts = [] ∧ t.pairs = [] ∧ t.caps = [] ∧ t.emits = [] ∧ t.power.quads = [])
  ∧ (∀ (s : State), s.power.good = true → s.power.core = true → s.power.perst = false → s.gaf.recBall = true →
    (warmReset s).gaf.state = .recovery ∧ (warmReset s).gaf.booting = false)
  ∧ (∀ (s : State), ∃ t, exec .perstAssert s = .next t
    ∧ t.power.perst = true ∧ t.gaf.state = .initialising ∧ t.gaf.booting = false ∧ t.bar2 = 0
    ∧ t.time = { s.time with flags := tdel s.time.flags 6 } ∧ t.wall = s.wall ∧ t.links = s.links ∧ t.ledger = s.ledger
    ∧ t.owners = s.owners ∧ t.parts = s.parts ∧ t.keys = s.keys ∧ t.repair = s.repair ∧ t.mem.ddr = s.mem.ddr
    ∧ t.spools = keptSpools s ∧ t.harness = {} ∧ t.warp = {} ∧ t.staged = [] ∧ t.ics = [] ∧ t.power.quads = []
    ∧ t.lehr.tripped = false
    ∧ (∀ b, (t.bc b).state = (s.bc b).state ∧ (t.bc b).present = (s.bc b).present ∧ (t.bc b).target = (s.bc b).target)
    ∧ t.fns = mapEntries {} (fun x => resetMail (resetConfig x))
        (mapEntries {} (fun x => { x with cmdCi := x.cmdPi, outst := [], bound := false, part := 0, secure := false }) s.fns))
  ∧ (∀ (s : State), s.power.perst = true → s.power.good = true → s.power.core = true → (bootPick s.gaf).isSome = true →
    let u (b : Bool) : State := { s with
      power := { s.power with perst := false, perstAt := s.now }
      gaf := { s.gaf with recBall := b }, freeCtr := s.freeCtr + 1 }
    exec .perstDeassert s = .next (bootStart (u (Config.freeBool s.freeCtr)))
    ∧ bootStart (u false) = { u false with
        gaf := { s.gaf with
          recBall := false, bootRec := false, state := .initialising, booting := true, bootStep := 1, stepAt := s.now
          read := s.gaf.board.getD {} }
        ledger := { s.ledger with boot := s.ledger.boot + 1 } }
    ∧ (bootStart (u true)).gaf.state = .recovery ∧ (bootStart (u true)).gaf.booting = false
    ∧ (bootStart (u true)).power.perst = false)
  ∧ (∀ (s : State), s.power.perst = false → exec .perstDeassert s = .next s)
  ∧ (∀ (s : State), s.power.perst = true → (s.power.good && s.power.core) = false →
    exec .perstDeassert s = .next (newBall { s with power := { s.power with perst := false, perstAt := s.now } }))

/-- R461 to R464, R330, R331: a power-on reset leaves what MRAM, the fuses and the NOR hold; power-good starts the
boot, in RECOVERY when BOOT_REC is high; steps 2 to 7 of the boot follow, each within the time that R330 gives it, and its
end, whatever BIST found (log 95), leaves READY, or SEALED when no manifest matches.
R462, R480, R425: an undervoltage of the core rail group records the supply event and leaves the always-on-only
state, in which Sample Time, the wall set and the bias channels stay; its return is a reset of kind E.
Model choices: logs 46, 47, 94, 95, 127. -/
def Obligations.PowerOnBootAndCoreRails : Prop :=
  (∀ (s : State), ∃ t, exec .powerOnReset s = .next t
    ∧ t.time = { State.reset.time with refclk := s.time.refclk, wait := !s.time.refclk }
    ∧ t.wall = {} ∧ t.links = [] ∧ t.fns = [] ∧ t.bar2 = 0
    ∧ t.gaf.state = .initialising ∧ t.gaf.slotA = s.gaf.slotA ∧ t.gaf.slotBImg = s.gaf.slotBImg
    ∧ t.gaf.floor = s.gaf.floor ∧ t.gaf.activeB = s.gaf.activeB ∧ t.gaf.board = s.gaf.board ∧ t.power.good = false
    ∧ t.owners = s.owners ∧ t.parts = s.parts ∧ t.keys = s.keys ∧ t.spools = [] ∧ t.harness = {} ∧ t.warp = {}
    ∧ t.mem = {} ∧ t.threads = [] ∧ t.bobbins = [] ∧ t.ports = [] ∧ t.power.quads = [] ∧ t.weave = {}
    ∧ t.repair = storedMap s.repair.stored
    ∧ t.ledger.next = s.ledger.next - s.ledger.uncommitted)
  ∧ (∀ (s : State), s.power.good = false → s.power.aon = true → s.power.core = true → s.power.perst = false →
    s.time.refclk = true → (bootPick s.gaf).isSome = true →
    exec (.powerGood false) s = .next { s with
      power := { s.power with good := true }
      gaf := { s.gaf with
        recBall := false, bootRec := false, state := .initialising, booting := true, bootStep := 1, stepAt := s.now
        read := s.gaf.board.getD {} }
      ledger := { s.ledger with boot := s.ledger.boot + 1 } }
    ∧ ∃ t, exec (.powerGood true) s = .next t ∧ t.gaf.state = .recovery ∧ t.gaf.booting = false ∧ t.power.good = true)
  ∧ (∀ (s : State), s.gaf.booting = true → s.gaf.bootStep < 7 →
    s.gaf.stepAt + stepMax s.gaf.bootStep ≤ s.now →
    bootTick s = { s with gaf := { s.gaf with bootStep := s.gaf.bootStep + 1, stepAt := s.now } })
  ∧ (∀ (s : State), s.gaf.booting = true → s.power.core = true →
    exec .bootComplete s = .next (bootLast { s with freeCtr := s.freeCtr + 1 } (Config.bist s.freeCtr)))
  ∧ (∀ (s : State) (b isSealed : Bool) (found : List RepairItem),
    s.gaf.fromRam = false → bootPick s.gaf = some (b, isSealed) →
      let t := bootLast s found
      t.gaf.state = (if isSealed then .sealed else .ready) ∧ t.gaf.bootStep = 8 ∧ t.gaf.booting = false
      ∧ t.gaf.running = (if b then s.gaf.slotBImg else s.gaf.slotA) ∧ t.gaf.slotB = b)
  ∧ (∀ (s : State) (found : List RepairItem), s.gaf.fromRam = true →
    let t := bootLast s found
    t.gaf.bootStep = 8 ∧ t.gaf.booting = false ∧ t.gaf.fromRam = false
      ∧ t.gaf.running = s.gaf.running
      ∧ t.gaf.state = (match s.gaf.running with | some i => if selfTested i then .ready else .sealed | none => .sealed))
  ∧ (∀ (s : State) (rail : Fin 6), s.power.core = true →
    exec (.coreUndervoltage rail) s = .next (loseCore (supplyEvent s rail 4 false)))
  ∧ (∀ (s : State), (loseCore s).power.core = false ∧ (loseCore s).wall = s.wall ∧ (loseCore s).keys = s.keys
    ∧ (loseCore s).owners = s.owners ∧ (loseCore s).parts = s.parts
    ∧ (∀ e ∈ (loseCore s).spools, s.blocksConsume e.1 = true ∧ e.2.valid = true))
  ∧ (∀ (s : State), s.power.core = false →
    exec .coreRailReturn s = .next (bootStart (resetE (newBall { s with power := { s.power with core := true } }))))

/-- R327, R53, R84: at its ST a staged block applies, the blocks of one tick in the order of their acceptance, and
the ones that are not due stay; the power commands whose ST has come follow. -/
def Obligations.StagedBlocks : Prop :=
  (∀ (s : State), exec .stagedApply s = .next ((List.range 12).foldl applyTilePower ((List.range 4).foldl applyQuadPower
      ((s.staged.filter (fun x => decide (x.at_ ≤ s.st))).foldl applyStaged
        { s with staged := s.staged.filter (fun x => decide (s.st < x.at_)) }))))
  ∧ (∀ (s : State), s.staged.all (fun x => decide (s.st < x.at_)) = true → (∀ q, (s.quad q).pend = none) →
      (∀ t, (s.tile t).pend = none) → exec .stagedApply s = .next s)
  ∧ (∀ (s : State) (q : Fin 4) (p : PowerCmd), (s.quad q).pend = some p → p.begun = false → p.at_ ≤ s.st →
      p.target = 2 → (s.quad q).state = .off →
      applyQuadPower s q = setQuad (s.modQuad q (fun x => { x with
        fromOff := true, pend := some { p with begun := true, entry := none } })) q .transition)
  ∧ (∀ (s : State) (t : Fin 12) (p : PowerCmd), (s.tile t).pend = some p → p.begun = false → p.at_ ≤ s.st →
      p.target = 2 → (s.tile t).state ≠ .active →
      applyTilePower s t = (setTile s t .waking).modTile t (fun x => { x with
        pend := some { p with begun := true, entry := some (slowCeil (p.at_ + 4800)) } }))

/-- R453, R468 to R470, R358: QUAD_POWER of a new target waits for its ST and answers when the target is reached,
one of the present state completes at once; TILE_POWER and the resets of a tile or quadrant are scheduled for
APPLY_AT; POWER_STATUS reports the states and clears the flags its mask names. R483, R484, R475, R479: LEHR_CFG
sets the thresholds; RELEASE also ends the holds of stops that are over; REINSTATE also makes a suspect sensor
count again; LEHR_STATUS reports Lehr and clears the flags its mask names. Model choices: logs 19, 90, 91. -/
def Obligations.PowerAndLehrCommands : Prop :=
  Completes .quadPower { op := 0x0F01, pf0 := true }
    (fun k t => fld k.blk 2 2 != 3 && fld k.blk 5 59 == 0 && badTime (fld k.blk 64 64) k.accept == none
      && !powerPending t (fld k.blk 0 2)
      && ((t.quad (fld k.blk 0 2)).state == quadTarget (fld k.blk 2 2)
        || (!((t.quad (fld k.blk 0 2)).state == .off
              && (tget false t.power.rfBad (fld k.blk 0 2) || stopCovers t (fld k.blk 0 2)))
          && ((fld k.blk 2 2 != 0 && !(fld k.blk 2 2 == 1 && (t.quad (fld k.blk 0 2)).state == .active))
            || bit k.blk 4 || (!runsIn t (quadTiles (fld k.blk 0 2)) && !captureBusy t (fld k.blk 0 2))))))
    (fun k t =>
      if (t.quad (fld k.blk 0 2)).state = quadTarget (fld k.blk 2 2) then done t []
      else waiting (t.modQuad (fld k.blk 0 2) (fun x => { x with
        pend := some { target := fld k.blk 2 2, force := bit k.blk 4, at_ := applyAt (fld k.blk 64 64) k.accept, func := k.func, tag := k.tag } })))
  ∧ Completes .tilePower { op := 0x0F02 }
    (fun k t =>
      let e := if fld k.blk 4 2 = 2 then slowCeil (applyAt (fld k.blk 64 64) k.accept + 4800)
        else applyAt (fld k.blk 64 64) k.accept
      decide (fld k.blk 0 4 < 12) && (fld k.blk 4 2 == 1 || fld k.blk 4 2 == 2) && fld k.blk 7 57 == 0
      && (if fld k.blk 4 2 = 2 then activeBy t (fld k.blk 0 4 / 3) e else !quadOff t (fld k.blk 0 4 / 3))
      && ownsTile t k.who (fld k.blk 0 4) && badTime (fld k.blk 64 64) k.accept == none
      && !powerPending t (fld k.blk 0 4 / 3)
      && (fld k.blk 4 2 == 1 || (!stopCovers t (fld k.blk 0 4 / 3) && t.time.mode != .lost))
      && (fld k.blk 4 2 == 2 || bit k.blk 6 || !runsIn t [fld k.blk 0 4]))
    (fun k t => scheduled (t.modTile (fld k.blk 0 4) (fun x => { x with
        pend := some { target := fld k.blk 4 2, force := bit k.blk 6, at_ := applyAt (fld k.blk 64 64) k.accept, func := k.func, tag := k.tag } }))
      (if fld k.blk 4 2 = 2 then slowCeil (applyAt (fld k.blk 64 64) k.accept + 4800)
        else applyAt (fld k.blk 64 64) k.accept)
      [item 0x26 (fld k.blk 0 4)])
  ∧ Completes .resetTile { op := 0x0003 }
    (fun k t => fld k.blk 0 2 == 2 && decide (fld k.blk 2 4 < 12) && fld k.blk 6 58 == 0
      && (t.quad (fld k.blk 2 4 / 3)).state != .off && ownsTile t k.who (fld k.blk 2 4)
      && badTime (fld k.blk 64 64) k.accept == none && !powerPending t (fld k.blk 2 4 / 3))
    (fun k t => scheduled (t.modTile (fld k.blk 2 4) (fun x => { x with resetAt := some (applyAt (fld k.blk 64 64) k.accept) }))
      (applyAt (fld k.blk 64 64) k.accept) [item 0x26 (fld k.blk 2 4)])
  ∧ Completes .resetQuadrant { op := 0x0003 }
    (fun k t => fld k.blk 0 2 == 1 && decide (fld k.blk 2 4 < 4) && fld k.blk 6 58 == 0 && k.func == 0
      && (t.quad (fld k.blk 2 4)).state != .off && (quadTiles (fld k.blk 2 4)).all (ownsTile t k.who)
      && badTime (fld k.blk 64 64) k.accept == none && !powerPending t (fld k.blk 2 4))
    (fun k t => scheduled (t.modQuad (fld k.blk 2 4) (fun x => { x with resetAt := some (applyAt (fld k.blk 64 64) k.accept) }))
      (applyAt (fld k.blk 64 64) k.accept) [item 0x25 (fld k.blk 2 4)])
  ∧ Completes .powerStatus { op := 0x0F03 }
    (fun k _ => !statusReqBad k 0 256 powerMap && (!k.clear || k.func == 0))
    (fun k t => report (if k.clear
        then { t with power := { t.power with flags := clearFlags t.now powerMap k.blk t.power.flags } } else t)
      (leBytes 32 (powerImage t)))
  ∧ (∀ (act : Nat), act = 0 ∨ act = 1 ∨ act = 2 →
    Completes (fun c => if act = 0 then .lehrCfg c else if act = 1 then .lehrRelease c else .lehrReinstate c)
      { op := 0x1001, pf0 := true }
      (fun k t => fld k.blk 96 2 == act && !lehrBad k.blk
        && (act != 1 || !held t || releasable t) && (act != 2 || isSuspect t (fld k.blk 98 5)))
      (fun k t =>
        let st := storeImage t 0x1001 0x28 0 32 lehrDefault (k.blk % 2 ^ 96)
        let u := { st.1 with lehr := { st.1.lehr with
          warn := fld k.blk 0 16, stop := fld k.blk 16 16, graceCut := fld k.blk 32 16, hyst := fld k.blk 48 8
          rateAlarm := fld k.blk 56 8, rateStop := fld k.blk 64 8, stopGrace := fld k.blk 80 16 } }
        done (if act = 0 then u
          else if act = 1 then { u with lehr := { u.lehr with dev := none, quads := [] } }
          else setSuspect u (fld k.blk 98 5) false) [st.2]))
  ∧ Completes .lehrStatus { op := 0x1002 }
    (fun k _ => !statusReqBad k 0 1024 lehrMap && (!k.clear || k.func == 0))
    (fun k t => report (if k.clear then { t with lehr := { t.lehr with flags := clearFlags t.now lehrMap k.blk t.lehr.flags } } else t)
      (leBytes 128 (lehrImage t)))

/-- R453, R454, R458, R465, R466: when its channel is trained a quadrant that leaves OFF has its entry instant; at
that instant it and its tiles reach their states, and the command is answered; a tile that wakes is ACTIVE at
its instant; a tile or quadrant reset takes place at its ST. Model choices: log 101. -/
def Obligations.PowerTransitions : Prop :=
  (∀ (s : State) (q : Fin 4) (d : DimmReport) (p : PowerCmd), (s.quad q).pend = some p → p.begun = true →
    (s.quad q).fromOff = true → p.entry = none →
    exec (.quadTrainingDone q d) s = .next ((trainChannel s q d).modQuad q (fun x => { x with
      pll := true
      pend := some { p with entry := some (if p.target = 1 then nextSlow s else slowCeil (nextSlow s + 48000000)) } })))
  ∧ (∀ (s : State) (q : Fin 4) (p : PowerCmd) (e : Nat), (s.quad q).pend = some p → p.entry = some e → e ≤ s.st →
    exec (.quadEntry q) s = .next (quadReached (setQuad
      (((quadTiles q).foldl (fun u t => if (u.tile t).state = .off then setTile u t .standby else u) s).modQuad q
        (fun x => { x with fromOff := false, conv := p.target == 2 })) q (quadTarget p.target)) q p e))
  ∧ (∀ (s : State) (t : Fin 12) (e : Nat), wakeAt (s.tile t) = some e → e ≤ s.st → (s.tile t).state = .waking →
    s.time.mode ≠ .lost →
    exec (.tileWake t) s = .next ((setTile s t .active).modTile t (fun y =>
      { y with pend := none, entry := none, everActive := true, wasOff := false })))
  ∧ (∀ (s : State) (t : Fin 12) (a : Nat), (s.tile t).resetAt = some a → a ≤ s.st →
    exec (.tileResetApply t) s = .next (tileReset s t a))
  ∧ (∀ (s : State) (q : Fin 4) (a : Nat), (s.quad q).resetAt = some a → a ≤ s.st →
    exec (.quadrantResetApply q) s = .next (((stopCapture ((quadTiles q).foldl (fun u i => tileReset u i a) s) q).modCap q
      (fun _ => {})).modQuad q (fun x => { x with resetAt := none })))

/-- R480, R477, R202, R192, R461: every supply event sets SUPPLY and its UV or OV bit and writes its record; an
overvoltage of the core group or VDD_AON begins a device stop, a VDDA_RF event stops its quadrant, a VDDA_BIAS
event clamps every bias channel; a droop has no further action; a comparator that clears takes its bits away;
and at the end of the NV load after power-on the bias channels start. Model choices: logs 92, 101. -/
def Obligations.SupplyEvents : Prop :=
  (∀ (s : State) (rail : Fin 6), exec (.coreOvervoltage rail) s = .next (beginStop (supplyEvent s rail 4 true) none 4))
  ∧ (∀ (s : State), exec .vddAonOvervoltage s = .next (beginStop (supplyEvent s 6 6 true) none 6))
  ∧ (∀ (s : State) (q : Fin 4) (high over_ : Bool),
    let u := supplyEvent s ((if high then 11 else 7) + q.val) 5 over_
    exec (.vddaRfSupplyEvent q high over_) s = .next (beginStop
      { u with power := { u.power with rfBad := tset false u.power.rfBad q true } } (some q.val) 5))
  ∧ (∀ (s : State) (neg over_ : Bool),
    let u := biasClampAll (supplyEvent s (if neg then 16 else 15) 0 over_)
    exec (.vddaBiasUndervoltage neg over_) s = .next { u with power := { u.power with biasBad := true, biasLoad := false } })
  ∧ (∀ (s : State), exec .vddaBiasReturn s = .next { s with power := { s.power with
      biasBad := false, biasFirst := false, biasLoad := s.power.biasLoad || s.power.biasFirst } })
  ∧ (∀ (s : State), s.power.biasLoad = true →
    exec .nvLoadDone s = .next { biasPowerUp s with power := { s.power with biasLoad := false } })
  ∧ (∀ (s : State) (rail : Fin 17), droopRail rail = true →
    let u := uncore (lehrHit (lehrHit s hSupply) hDroop) 15
    let last := tget 0 s.lehr.droopAt rail
    exec (.droop rail) s = .next (if last ≠ 0 ∧ s.now < last - 1 + 750000 then u
      else lehrRecord { u with lehr := { u.lehr with droopAt := tset 0 u.lehr.droopAt rail (s.now + 1) } } 0x67 rail 0 0))
  ∧ (∀ (s : State) (rail : Fin 17), ∃ t, exec (.supplyComparatorClear rail) s = .next t
    ∧ t.lehr.uv = (if bit s.lehr.uv rail then s.lehr.uv - 2 ^ rail.val else s.lehr.uv)
    ∧ t.lehr.ov = (if bit s.lehr.ov rail then s.lehr.ov - 2 ^ rail.val else s.lehr.ov)
    ∧ { t with lehr := s.lehr, power := s.power } = s
    ∧ ((rail.val < 7 ∨ 15 ≤ rail.val) → t.power = s.power))
  ∧ (∀ (s : State) (rail cause : Nat) (over_ : Bool),
    ∃ u, supplyEvent s rail cause over_ = lehrRecord u (if over_ then 0x66 else 0x65) rail cause 0
      ∧ u.lehr.flags = hit s.now s.lehr.flags 67
      ∧ u.lehr.uv = (if over_ || bit s.lehr.uv rail then s.lehr.uv else s.lehr.uv + 2 ^ rail)
      ∧ u.lehr.ov = (if !over_ || bit s.lehr.ov rail then s.lehr.ov else s.lehr.ov + 2 ^ rail)
      ∧ u.harness.asserts = { line := .uncore 15, tick := s.now, hop := 1 } :: s.harness.asserts)

/-- R477 to R482, R457: the steps of an orderly stop, the trip, the loss and return of a quadrant's PLL, and the
commit of Ledger entries once MRAM may be written. Model choices: logs 92, 93. -/
def Obligations.StopsAndTrips : Prop :=
  (∀ (s : State) (q : Fin 4) (r : StopRun), quadStop s q = some r → r.step = 0 → graceOver s (some q.val) r = true →
    ∃ t, exec (.stopGraceEnd ⟨1 + q.val, by omega⟩) s = .next t
      ∧ quadStop t q = some { r with grace := some s.now, step := 1 }
      ∧ t = atGrace s (some q.val) r)
  ∧ (∀ (s : State) (r : StopRun) (g : Nat), s.lehr.dev = some r → r.step = 2 → r.safe = true → r.grace = some g →
    g + 32 ≤ s.now → exec (.stopGraceEnd 0) s = .next (setStop (stopOff s none r) none (some { r with step := 3 })))
  ∧ (∀ (s : State), s.lehr.tripped = false → exec .analogueTrip s = .next
      (let u := markLooms s (fun _ => true) cStop
       let u := (List.range 96).foldl (fun s l => if (s.loom l).state = .running then cutRun s l false lRunLost else s) u
       let u := biasHold { u with lehr := { u.lehr with tripped := true, dev := none, quads := [], cause := 3 } }
       ledgerNote (lehrRecord u 0x63 0 3 0) fromLehr 0x28 3 0x8008))
  ∧ (∀ (s : State), s.lehr.tripped = true → exec .analogueTrip s = .next s)
  ∧ (∀ (s : State) (q : Fin 4), (s.quad q).pll = true → quadOff s q = false →
    let u := s.modQuad q (fun x => { x with pll := false, pllStop := true })
    exec (.pllLoss q) s = .next (beginStop { u with power := { u.power with flags := hit s.now u.power.flags 41 } } (some q.val) 8))
  ∧ (∀ (s : State) (q : Fin 4), (s.quad q).pllStop = true → nirdinRuns s = true →
    (quadStop s q = none → exec (.pllRelock q) s = .next (s.modQuad q (fun x => { x with
      pll := x.state != .off, pllStop := false })))
    ∧ (∀ r, quadStop s q = some r → r.step ≠ 3 → (s.quad q).state ≠ .off →
      exec (.pllRelock q) s = .next (s.modQuad q (fun x => { x with pll := x.state != .off, pllStop := x.state != .off })))
    ∧ (∀ r, quadStop s q = some r → r.step = 3 → s.lehr.dev = none → s.lehr.tripped = false → (∀ c ∈ r.causes, c = 8) →
      ∃ t, exec (.pllRelock q) s = .next t ∧ (t.quad q).pll = true ∧ (t.quad q).pllStop = false
        ∧ (t.quad q).state = .standby ∧ quadStop t q = none ∧ (∀ i ∈ quadTiles q, (t.tile i).state = .standby)))
  ∧ (∀ (s : State), exec .ledgerCommit s = .next
      (if nvInhibit s then s else storeMap { s with ledger := { s.ledger with uncommitted := 0 } }))
  ∧ (∀ (s : State) (scope : Option Nat) (cause : Nat), s.lehr.tripped = false → s.lehr.dev = none → stopOf s scope = none →
    beginStop s scope cause = stopNotice (uncore (stopLogged (markLooms
      (setStop s scope (some { begin_ := s.now, st := s.st, causes := [cause] })) (inScope scope) cStop) scope cause) 14)
      scope cause s.st 0)

/-- R472 to R476: a round begins at a slow-tick boundary whose ST is a multiple of 24,000,000, and one that was not
evaluated is dropped with ROUND_MISS; 72 µs later, with its 68 conversions, it is evaluated: the readings, the
cross-check, the hottest region, the tests, and the history of 100 rounds. Model choices: logs 39, 92. -/
def Obligations.LehrRounds : Prop :=
  (∀ (s : State), slowNow s = true → counting s = true → s.st % 24000000 = 0 →
    (tget ({} : HkUnit) s.hk.units 1).refok = true → s.lehr.round = none →
    exec .lehrRound s = .next { s with
      hk := { s.hk with roundHeld := (tget ({} : HkUnit) s.hk.units 1).cal.isSome }
      lehr := { s.lehr with round := some s.now, taken := 0, codes := [] } })
  ∧ (∀ (s : State) (r : Nat), s.lehr.round = some r → 68 ≤ s.lehr.taken → r + 54000 ≤ s.now →
    let u := crossCheck { s with lehr := { s.lehr with
      round := none, taken := 0, codes := []
      reading := (List.range 28).foldl (fun l i => tset 0 l i (sgn 16 (enc 16 (Config.thermal i (tget 0 s.lehr.codes i))))) []
      changed := s.lehr.changed.filterMap (fun e => if e.2 ≤ 101 then some (e.1, e.2 + 1) else none) } }
    let v := thermalTests { u with lehr := { u.lehr with maximum := (hottest u).2, maxSensor := (hottest u).1 } }
    exec .lehrEvaluate s = .next { v with lehr := { v.lehr with
      history := ((List.range 28).map (regionReading v) :: v.lehr.history).take 100 } })

/-- R39, R40, R42, R44: an accepted TIME_EPOCH loads ST with 0 at the second slow-tick boundary after it, and the
state is then SET with ROOT; TIME_RELEASE returns to FREE without a change of ST; the loss of REFCLK is LOST
with ST of the last edge rounded down to a slow tick, and its return keeps LOST; a count mismatch sets TIME_FAULT and stops its
quadrant, if it runs. Model choices: logs 89, 93. -/
def Obligations.EpochAndReference : Prop :=
  Completes .timeEpoch { op := 0x0101, pf0 := true }
    (fun k t => k.blk == 0 && t.time.mode != .set && t.time.epochAt.isNone && t.weave.admission.isNone && t.time.refclk)
    (fun _ t => scheduled { t with time := { t.time with epochAt := some (t.now + (toSlow t + 24)) } }
      (stAfter t (toSlow t + 24)) [item 0x23 0])
  ∧ Completes .timeRelease { op := 0x0102, pf0 := true }
    (fun k t => k.blk == 0 && t.time.mode == .set && !releaseBusy t)
    (fun _ t => done { t with time := { t.time with mode := .free, root := false } } [item 0x23 0])
  ∧ (∀ (s : State) (a : Nat), slowNow s = true → s.time.epochAt = some a → a ≤ s.now →
    ∃ t, exec .epochLoad s = .next t ∧ t.time.st = 0 ∧ t.time.mode = .set ∧ t.time.root = true
      ∧ t.time.gen = min (s.time.gen + 1) 255 ∧ t.time.epochAt = none ∧ t.time.tick = s.time.tick)
  ∧ (∀ (s : State), s.time.refclk = true → ∃ t, exec .refclkLoss s = .next t
      ∧ t.time.refclk = false ∧ t.time.mode = .lost ∧ t.time.root = false
      ∧ t.time.st = (s.time.st - 1536) / 768 * 768 ∧ t.time.epochAt = none)
  ∧ (∀ (s : State), s.time.refclk = false → ∃ t, exec .refclkReturn s = .next t
      ∧ t.time = { s.time with refclk := true, slowPhase := t.time.slowPhase }
      ∧ (s.weave.admission = none → t.time = { s.time with refclk := true }))
  ∧ (∀ (s : State) (q : Fin 4), slowNow s = true → (s.quad q).pll = true →
    exec (.timeCountCheck [q]) s = .next (beginStop (uncore { s with time := { s.time with flags := hit s.now s.time.flags 4 } } 24)
      (some q.val) 7))
  ∧ (∀ (s : State) (l : List (Fin 4)), slowNow s = false ∨ (∀ q ∈ l, (s.quad q).pll = false) →
    exec (.timeCountCheck l) s = .next s)

/-- R82 to R88, R141, R142: PORT_CFG and THREAD_CFG are staged for APPLY_AT; TSET_CFG, LIST_WRITE and PD_COEF write
their tables at once, PD_COEF the bank that is not active; PORT_STATUS reports and clears. Each makes the checks
of its rule, in order. R186 to R188: FLUX_CFG is staged for APPLY_AT, FLUX_PD writes the coefficients that are
not active, and FLUX_STATUS reports and clears. Model choices: log 19. -/
def Obligations.PortThreadAndFluxSetup : Prop :=
  (Serves .portCfg { op := 0x0201 }
    (fun k s =>
      let b := k.blk
      let p := fld b 0 16
      let ap := fld b 128 64
      ([(portBad p || decide (fld b 18 5 > 20) || fld b 24 8 != 0 || fld b 89 39 != 0 || fld b 192 64 != 0, .badParam),
        (tileDown s (tidTile p), .notActive), (!mayChange k.who (portOwner s p), .partDenied)]
        ++ timeFail ap k.accept ++ [(isStaged s .portCfg p, .busy)]))
    (fun k s =>
      let b := k.blk
      let p := fld b 0 16
      let ap := fld b 128 64
      (let st := storeImage s 0x0201 (portType p) p 32 p (b % 2 ^ 89 - (if bit b 23 then 2 ^ 23 else 0))
       scheduled (stage st.1 { kind := .portCfg, obj := p, blk := b, at_ := applyAt ap k.accept, func := k.func })
         (applyAt ap k.accept) [st.2])) :)
  ∧ (Serves .threadCfg { op := 0x0202 }
    (fun k s =>
      let b := k.blk
      let t := fld b 0 16
      let ap := fld b 128 64
      let ro := tidKind t == 1
      ([(tidKind t == 3 && tidOk t, .badParam), (!tidOk t, .badTid),
        (!rsvOk b (if ro then rthreadRsv else threadRsv) || (ro && discBad (discOf b)), .badParam),
        (tileDown s (tidTile t), .notActive), (!mayChange k.who (threadOwner s t), .partDenied)]
        ++ timeFail ap k.accept))
    (fun k s =>
      let b := k.blk
      let t := fld b 0 16
      let ap := fld b 128 64
      let ro := tidKind t == 1
      let n := if ro then 64 else 32
      let img := b % 2 ^ (8 * n) - ap * 2 ^ 128
      (let st := storeImage s 0x0202 (tidType t) t n (t + (if ro then rthreadDefault else 0)) img
       scheduled (stage st.1 { kind := .threadCfg, obj := t, blk := b, at_ := applyAt ap k.accept, func := k.func })
         (applyAt ap k.accept) [st.2])) :)
  ∧ (Serves .tsetCfg { op := 0x0203 }
    (fun k s =>
      let b := k.blk
      let p := fld b 0 16
      [(!portOk p || fld b 19 13 != 0 || (List.range 16).any (fun i => decide (tsetEntry b i ≥ 2 ^ 14))
          || (List.range 16).any (fun i => decide (portSlots p ≤ i) && tsetEntry b i != 0), .badParam),
       (tileDown s (tidTile p), .notActive), (!mayChange k.who (portOwner s p), .partDenied)])
    (fun k s =>
      let b := k.blk
      let p := fld b 0 16
      let set := fld b 16 3
      (let st := storeImage s 0x0203 (portType p) (p + set * 2 ^ 16) 36 (p + set * 2 ^ 16) (b % 2 ^ 288)
       done (st.1.modPort p (fun x => { x with
         tset := (List.range 16).foldl (fun t i => tset 0 t (16 * set + i) (tsetEntry b i)) x.tset }))
         [{ st.2 with objId := p }])) :)
  ∧ (Serves .listWrite { op := 0x0204 }
    (fun k s =>
      let b := k.blk
      let t := fld b 0 16
      let list := fld b 16 2
      let first := fld b 32 8
      let n := fld b 40 9
      let f := (listForm (tidKind t) list).getD (0, 4, 32)
      let vs := (List.range n).map (listValue b f.2.1)
      [(!tidOk t, .badTid),
       ((listForm (tidKind t) list).isNone || n == 0 || fld b 18 14 != 0 || fld b 49 15 != 0, .badParam),
       (decide (first + n > f.1), .lenExceeds),
       (vs.any (fun v => !extended (8 * f.2.1) f.2.2 v) || (f.2.2 == 48 && vs.any (fun v => !freqOk (sgn 48 (v % 2 ^ 48)))),
         .badParam),
       (tidKind t != 3 && tileDown s (tidTile t), .notActive), (!mayChange k.who (threadOwner s t), .partDenied)])
    (fun k s =>
      let b := k.blk
      let t := fld b 0 16
      let list := fld b 16 2
      let first := fld b 32 8
      let n := fld b 40 9
      let f := (listForm (tidKind t) list).getD (0, 4, 32)
      (let len := 8 + f.2.1 * n
       let st := storeImage s 0x0204 (tidType t) (t + list * 2 ^ 16) len 0 (b % 2 ^ (8 * len))
       done (writeList st.1 t list first n b f.2.1 f.2.2) [{ st.2 with objId := t }])) :)
  ∧ (Serves .pdCoef { op := 0x0205 }
    (fun k s =>
      let p := fld k.blk 0 16
      [(portBad p || fld k.blk 16 16 != 0 || !coefsOk k.blk, .badParam),
       (tileDown s (tidTile p), .notActive), (!mayChange k.who (portOwner s p), .partDenied)])
    (fun k s =>
      let p := fld k.blk 0 16
      (let st := storeImage s 0x0205 (portType p) p 132 (p + identityImage) (k.blk % 2 ^ 1056)
       done (writeBank st.1 p (coefsOf k.blk)) [st.2])) :)
  ∧ (Serves .portStatus { op := 0x0206 }
    (fun k s =>
      let p := fld k.blk 0 16
      [(portBad p || statusReqBad k 16 128 portMap, .badParam),
        (k.func != 0 && (portOwner s p).part != k.who.part, .partDenied)])
    (fun k s =>
      let p := fld k.blk 0 16
      report (if k.clear then s.modPort p (fun x => { x with flags := clearFlags s.now portMap k.blk x.flags }) else s)
        (leBytes 16 (portImage s .portCfg p))) :)
  ∧ (Serves .fluxCfg { op := 0x0601 }
    (fun k s =>
      let b := k.blk
      let p := fld b 0 16
      let ap := fld b 128 64
      ([(fluxBad p || fld b 17 6 != 0 || fld b 24 56 != 0 || fld b 89 39 != 0 || fld b 192 64 != 0, .badParam),
        (tileDown s (tidTile p), .notActive), (!mayChange k.who (portOwner s p), .partDenied)]
        ++ timeFail ap k.accept ++ [(isStaged s .fluxCfg p, .busy)]))
    (fun k s =>
      let b := k.blk
      let p := fld b 0 16
      let ap := fld b 128 64
      (let st := storeImage s 0x0601 oFluxPort p 32 p (b % 2 ^ 89 - (if bit b 23 then 2 ^ 23 else 0))
       scheduled (stage st.1 { kind := .fluxCfg, obj := p, blk := b, at_ := applyAt ap k.accept, func := k.func })
         (applyAt ap k.accept) [st.2])) :)
  ∧ (Serves .fluxPd { op := 0x0602 }
    (fun k s =>
      let p := fld k.blk 0 16
      [(fluxBad p || fluxPdBad k.blk, .badParam), (tileDown s (tidTile p), .notActive),
       (!mayChange k.who (portOwner s p), .partDenied)])
    (fun k s =>
      let p := fld k.blk 0 16
      (let st := storeImage s 0x0602 oFluxPort p 292 (p + 0x10000 * 2 ^ 288) (k.blk % 2 ^ 2336)
       done (writeBank st.1 p (fluxCoefs k.blk)) [st.2])) :)
  ∧ (Serves .fluxStatus { op := 0x0603 }
    (fun k s =>
      let p := fld k.blk 0 16
      [(fluxBad p || statusReqBad k 16 128 portMap, .badParam),
        (k.func != 0 && (portOwner s p).part != k.who.part, .partDenied)])
    (fun k s =>
      let p := fld k.blk 0 16
      report (if k.clear then s.modPort p (fun x => { x with flags := clearFlags s.now portMap k.blk x.flags }) else s)
        (leBytes 16 (portImage s .fluxCfg p))) :)

/-- R93 to R96, R104, R111: allocation and release of runs, writes of tick words into a run of the caller, the
descriptors of segments with their rings, JUMP_CFG for APPLY_AT, and BOBBIN_STATUS. R143 to R149: window
profiles, weights of the bank that is not active, a WEIGHT_SWAP that waits, the pair configuration for APPLY_AT,
FIR coefficients of the bank that is not active, and READ_STATUS. Model choices: logs 13, 17, 19, 29. -/
def Obligations.BobbinAndReadoutSetup : Prop :=
  (Serves .bobbinAlloc { op := 0x0301 }
    (fun k s =>
      let t := fld k.blk 0 4
      let n := fld k.blk 32 13
      let at_ := findRun (s.bobbin t) n
      [(decide (t ≥ 12) || n == 0 || decide (n > envBlocks) || fld k.blk 4 28 != 0 || fld k.blk 45 19 != 0, .badParam),
       (tileDown s t, .notActive), (at_.isNone, .noSpace)])
    (fun k s =>
      let t := fld k.blk 0 4
      let n := fld k.blk 32 13
      let at_ := findRun (s.bobbin t) n
      let start := 64 * at_.getD 0
      (let st := storeImage s 0x0301 oRun (runId t start) 8 t (t + n * 2 ^ 32)
       { status := .ok, items := [st.2], out := leBytes 8 (start + n * 2 ^ 32)
         next := st.1.modBobbin t (fun b => { b with runs := tset {} b.runs start { blocks := n, owner := k.who.part } }) })) :)
  ∧ (Serves .bobbinFree { op := 0x0302 }
    (fun k s =>
      let t := fld k.blk 0 4
      let start := fld k.blk 32 19
      let b := s.bobbin t
      let r : Run := tget {} b.runs start
      [(decide (t ≥ 12) || fld k.blk 4 28 != 0 || fld k.blk 51 13 != 0, .badParam), (tileDown s t, .notActive),
       (r.blocks == 0, .badParam), (r.owner != k.who.part, .partDenied), (pointsInto b start r, .busy)])
    (fun k s =>
      let t := fld k.blk 0 4
      let start := fld k.blk 32 19
      let b := s.bobbin t
      (let st := storeImage s 0x0302 oRun (runId t start) 8 0 k.blk
       done (st.1.modBobbin t (fun b => { b with runs := tset {} b.runs start {} })) [st.2])) :)
  ∧ (Serves .bobbinWrite { op := 0x0303, inlineF := true }
    (fun k s =>
      let t := fld k.blk 0 4
      let w := fld k.blk 32 19
      let n := fld k.blk 64 19
      let r := runOf (s.bobbin t) w
      [(decide (t ≥ 12) || n == 0 || decide (n > 425984) || fld k.blk 4 28 != 0 || fld k.blk 51 13 != 0
          || fld k.blk 83 45 != 0, .badParam),
       (tileDown s t, .notActive), (decide (k.data.length < 8 * n), .lenExceeds),
       (match r with | some e => decide (w + n > e.1 + 64 * e.2.blocks) | none => true, .lenExceeds),
       (match r with | some e => e.2.owner != k.who.part | none => true, .partDenied), (playOverlap s t w n, .busy)])
    (fun k s =>
      let t := fld k.blk 0 4
      let w := fld k.blk 32 19
      let n := fld k.blk 64 19
      (let st := storeImage s 0x0303 oRun (runId t w) 16 0 k.blk
       done ((clearErrs st.1 (bobbinBase t + 8 * w) (8 * n)).modBobbin t (fun b => writeWords b w n k.data)) [st.2])) :)
  ∧ (Serves .segmentDesc { op := 0x0304 }
    (fun k s =>
      let g := fld k.blk 0 12
      let t := fld k.blk 12 4
      let b := s.bobbin t
      let d := k.blk % 2 ^ 192
      let old := tget 0 b.segs g
      let str := dStreamed d
      let run := runOf b (dStart d)
      let other := boundElsewhere b g (dSlot d)
      let nx := tget 0 b.segs (dNext d)
      [(g == 0 || decide (t ≥ 12) || dLength d == 0 || dUfill d == 3 || !rsvOk k.blk segRsv || !dValid d, .badParam),
       (tileDown s t, .notActive),
       (!str && (match run with | some e => decide (dStart d + dLength d > e.1 + 64 * e.2.blocks) | none => true),
        .lenExceeds),
       (!str && (match run with | some e => e.2.owner != k.who.part | none => true), .partDenied),
       (str && dDdr d % 128 != 0, .badParam),
       (str && dChain d && dNext d != g && dValid nx && dStreamed nx && dSlot nx == dSlot d, .badParam),
       (str && !inDdr s (dDdr d) (8 * dLength d), .lenExceeds),
       (str && !ddrMayChange s k.who (dDdr d) (8 * dLength d), .partDenied),
       (str && (match other with | some e => dOwner e == k.who.part | none => false), .busy),
       (str && other.isSome, .partDenied),
       (segBusy s t g, .busy), (dValid old && dOwner old != k.who.part, .partDenied)])
    (fun k s =>
      let g := fld k.blk 0 12
      let t := fld k.blk 12 4
      let b := s.bobbin t
      let d := k.blk % 2 ^ 192
      let old := tget 0 b.segs g
      (let new := d + k.who.part * 2 ^ 192
       let st := storeImage s 0x0304 oSeg (segId t g) 32 (g + t * 2 ^ 12) new
       done ((clearErrs st.1 (segAddr t g) 32).modBobbin t (fun b => rebind { b with segs := tset 0 b.segs g new } old new))
         [st.2])) :)
  ∧ (Serves .segmentDelete { op := 0x0304 }
    (fun k s =>
      let g := fld k.blk 0 12
      let t := fld k.blk 12 4
      let old := segDesc s t g
      [(g == 0 || decide (t ≥ 12) || !rsvOk k.blk segRsv || dValid k.blk, .badParam), (tileDown s t, .notActive),
       (dValid old && dOwner old != k.who.part, .partDenied), (segBusy s t g, .busy)])
    (fun k s =>
      let g := fld k.blk 0 12
      let t := fld k.blk 12 4
      let old := segDesc s t g
      (if dValid old then
        let st := storeImage s 0x0304 oSeg (segId t g) 32 (g + t * 2 ^ 12) (g + t * 2 ^ 12)
        done ((clearErrs st.1 (segAddr t g) 32).modBobbin t (fun b => rebind { b with segs := tset 0 b.segs g 0 } old 0)) [st.2]
       else done s [])) :)
  ∧ (Serves .jumpCfg { op := 0x0305 }
    (fun k s =>
      let t := fld k.blk 0 16
      let ap := fld k.blk 64 64
      let o := threadOwner s t
      let ch := tileCand (tidTile t) (jumpInput t) (fld k.blk 17 3)
      ([(tidKind t == 3 && tidOk t, .badParam), (!tidOk t, .badTid),
        (fld k.blk 20 12 != 0 || fld k.blk 44 20 != 0, .badParam), (tileDown s (tidTile t), .notActive),
        (!mayChange k.who o || (bit k.blk 16 && !routeOk s o ch), .partDenied)]
        ++ timeFail ap k.accept))
    (fun k s =>
      let t := fld k.blk 0 16
      let ap := fld k.blk 64 64
      (let st := storeImage s 0x0305 (tidType t) t 16 t (k.blk % 2 ^ 64)
       scheduled (stage st.1 { kind := .jumpCfg, obj := t, blk := k.blk, at_ := applyAt ap k.accept, func := k.func })
         (applyAt ap k.accept) [st.2])) :)
  ∧ (Serves .bobbinStatus { op := 0x0306 }
    (fun k s =>
      let t := fld k.blk 0 4
      [(decide (t ≥ 12) || statusReqBad k 4 320 bobbinMap, .badParam),
       (k.func != 0 && tileOwner s t != k.who.part, .partDenied)])
    (fun k s =>
      let t := fld k.blk 0 4
      (report (if k.clear then s.modBobbin t (fun b => { b with
          flags := clearFlags s.now bobbinMap k.blk b.flags
          underrunSt := if bit k.blk fUnderrun then 0 else b.underrunSt }) else s) (leBytes 40 (bobbinImage s t)))) :)
  ∧ (Serves .windowProfile { op := 0x0401 }
    (fun k s =>
      let b := k.blk
      let tid := fld b 0 16
      let r := rtOfTid tid
      let n := fld b 16 4
      [(!tidOk tid || tidKind tid != 1, .badTid),
       (wLen b == 0 || decide (wLen b > 4096) || decide (wDb b > 511) || wDest b == 3 || !rsvOk b profRsv, .badParam),
       (wDest b != 0 && (wDbEn b || wRecEn b || wEvtMask b != 0 || wEarlyEvt b || wEarlyEn b), .badParam),
       (tileDown s (tidTile tid), .notActive), (!mayChange k.who (threadOwner s tid), .partDenied),
       (wRecEn b && !recordSpool s (wSpool b), .badParam),
       ((wRecEn b && (s.spool (wSpool b)).owner != k.who.part)
          || (wDbEn b && (ownerOf s oBit (wDb b)).part != k.who.part), .partDenied),
       (wDbEn b && (s.producers (wDb b)).any (fun p => p != (0, r)), .busy),
       (!wValid b && (s.rt r).windows.any (fun w => w.num == n && w.inFlight (stTick s)), .busy)])
    (fun k s =>
      let b := k.blk
      let tid := fld b 0 16
      let r := rtOfTid tid
      let n := fld b 16 4
      (let st := storeImage s 0x0401 2 (tid + n * 2 ^ 16) 32 (tid + n * 2 ^ 16) b
       done (st.1.modRt r (fun x => { x with profiles := tset 0 x.profiles n (if wValid b then b else 0) }))
         [{ st.2 with objId := tid }])) :)
  ∧ (Serves .weightWrite { op := 0x0402 }
    (fun k s =>
      let h := k.blk
      let tid := fld h 0 16
      let r := rtOfTid tid
      let first := fld h 16 12
      let n := fld h 32 13
      let x := s.rt r
      [(!tidOk tid || tidKind tid != 1, .badTid),
       (n == 0 || fld h 28 4 != 0 || fld h 45 19 != 0, .badParam),
       (decide (first + n > 4096), .lenExceeds), (tileDown s (tidTile tid), .notActive),
       (!mayChange k.who (threadOwner s tid), .partDenied), (x.swap.isSome, .busy)])
    (fun k s =>
      let h := k.blk
      let tid := fld h 0 16
      let r := rtOfTid tid
      let first := fld h 16 12
      let n := fld h 32 13
      let x := s.rt r
      (let st := storeImage s 0x0402 2 tid (8 + 4 * n) 0 (h % 2 ^ (64 + 32 * n))
       let d := (leBytes (4 * n) (h / 2 ^ 64))
       let s := clearErrs st.1 (weightBase r (if x.activeB then 0 else 1) + 4 * first) (4 * n)
       done (s.modRt r (fun x => if x.activeB then { x with bankA := writeWeights x.bankA first n d }
                                 else { x with bankB := writeWeights x.bankB first n d })) [st.2])) :)
  ∧ (Serves .weightSwap { op := 0x0403 }
    (fun k s =>
      let tid := fld k.blk 0 16
      let r := rtOfTid tid
      let ap := fld k.blk 64 64
      ([(!tidOk tid || tidKind tid != 1, .badTid), (fld k.blk 17 47 != 0, .badParam),
        (tileDown s (tidTile tid), .notActive), (!mayChange k.who (threadOwner s tid), .partDenied)]
        ++ timeFail ap k.accept ++ [((s.rt r).swap.isSome, .busy)]))
    (fun k s =>
      let tid := fld k.blk 0 16
      let r := rtOfTid tid
      let ap := fld k.blk 64 64
      (waiting (s.modRt r (fun x => { x with
        swap := some { at_ := applyAt ap k.accept, now_ := bit k.blk 16, func := k.func, tag := k.tag } })))) :)
  ∧ (Serves .readpairCfg { op := 0x0404 }
    (fun k s =>
      let p := fld k.blk 0 16
      let ap := fld k.blk 64 64
      ([(!portOk p || tidKind p != 1 || fld k.blk 16 4 == fld k.blk 20 4 || fld k.blk 25 39 != 0
          || fld k.blk 128 128 != 0, .badParam),
        (tileDown s (tidTile p), .notActive), (!mayChange k.who (portOwner s p), .partDenied)]
        ++ timeFail ap k.accept ++ [(isStaged s .readpairCfg p, .busy)]))
    (fun k s =>
      let p := fld k.blk 0 16
      let ap := fld k.blk 64 64
      (let st := storeImage s 0x0404 oPair p 32 (p + 2 ^ 20) (k.blk % 2 ^ 24)
       scheduled (stage st.1 { kind := .readpairCfg, obj := p, blk := k.blk, at_ := applyAt ap k.accept, func := k.func })
         (applyAt ap k.accept) [st.2])) :)
  ∧ (Serves .rdFirCoef { op := 0x0405 }
    (fun k s =>
      let p := fld k.blk 0 16
      [(!portOk p || tidKind p != 1 || fld k.blk 16 16 != 0 || !coefsOk k.blk, .badParam),
       (tileDown s (tidTile p), .notActive), (!mayChange k.who (portOwner s p), .partDenied)])
    (fun k s =>
      let p := fld k.blk 0 16
      (let st := storeImage s 0x0405 oPair p 132 (p + identityImage) (k.blk % 2 ^ 1056)
       done (st.1.modPair p (fun x => if x.firB then { x with fir0 := coefsOf k.blk } else { x with fir1 := coefsOf k.blk }))
         [st.2])) :)
  ∧ (Serves .readStatus { op := 0x0406 }
    (fun k s =>
      let p := fld k.blk 0 16
      [(!portOk p || tidKind p != 1 || statusReqBad k 16 224 readMap, .badParam),
       (k.func != 0 && (portOwner s p).part != k.who.part, .partDenied)])
    (fun k s =>
      let p := fld k.blk 0 16
      (report (if k.clear then s.modPair p (fun x => { x with flags := clearFlags s.now readMap k.blk x.flags }) else s)
        (leBytes 28 (readImage s p)))) :)

/-- R122 to R126, R244: an open-readout-window emission on an enabled thread takes its profile and opens a window,
sets WIN_BAD where the profile is not valid, and is discarded with EMITDIS on a disabled thread; a window
latches frame, discrimination and privilege at its first sample; at its close tick it forms p, STATE and CONF
over its samples. Model choices: logs 62, 81, 82, 83. -/
def Obligations.ReadoutWindows : Prop :=
  (∀ (s : State) (rt : Fin 384) (w : Emission), dueOps s (tidOfRt rt) 5 = [w] →
    let t := tidOfRt rt
    let u := dropOps (takeTs s t) t 5
    let prof := tget 0 (u.rt rt).profiles (w.param % 16)
    ((u.thread t).en = true → wValid prof = true → exec (.emitWindow rt) s = .next (openWindow u rt w prof))
    ∧ ((u.thread t).en = true → wValid prof = false → exec (.emitWindow rt) s = .next (pairHit u rt fWinBad))
    ∧ ((u.thread t).en = false → exec (.emitWindow rt) s = .next (portFlag u t fEmitDis 1)))
  ∧ (∀ (s : State) (rt : Fin 384), dueOps s (tidOfRt rt) 5 = [] →
    exec (.emitWindow rt) s = .next (takeTs s (tidOfRt rt)))
  ∧ (∀ (s : State) (rt : Fin 384) (w : Window), (s.rt rt).windows = [w] → w.dropped = false → w.latched = none →
    w.t0 = stTick s →
    exec (.windowFirstSample rt) s = .next (s.modRt rt (fun x => { x with windows := [{ w with
      latched := some ((fullFrame s (tidOfRt rt) (32 * w.t0)).1, (fullFrame s (tidOfRt rt) (32 * w.t0)).2, x.disc,
        privSlot s rt) }] })))
  ∧ (∀ (s : State) (rt : Fin 384) (adc : AdcTrace) (w : Window), (s.rt rt).windows = [w] → wDest w.prof = 0 →
    openNow w = true → w.early = none → wEarlyEn w.prof = true → w.t0 + 65 ≤ stTick s → ∀ st j,
    (demod s rt w adc (min (wLen w.prof) (stTick s - w.t0 - 64))).early = some (st, j) →
    exec (.earlyDecision rt adc) s = .next (modWindow
      (let u := decide_ (noteCodes s (pairOfRt rt) adc) rt w st
       if wEarlyEvt w.prof then assertLine u (.rtEarly rt) else u) rt w.k (fun w => { w with early := some (st, j) })))
  ∧ (∀ (s : State) (rt : Fin 384) (adc : AdcTrace) (w : Window), (s.rt rt).windows = [w] → wDest w.prof = 0 →
    openNow w = true → w.early.isSome = true → exec (.earlyDecision rt adc) s = .next s)
  ∧ (∀ (s : State) (rt : Fin 384) (adc : AdcTrace) (w : Window), (s.rt rt).windows.find? (closeDue s) = some w →
    exec (.windowClose rt adc) s = .next (handRecords (writeVerdicts (closeWindow s rt w adc) rt) rt))
  ∧ (∀ (s : State) (rt : Fin 384) (adc : AdcTrace), (s.rt rt).windows.find? (closeDue s) = none →
    exec (.windowClose rt adc) s = .next s)
  ∧ (∀ (s : State) (rt : Fin 384) (w : Swap), (s.rt rt).swap = some w →
    let t := stTick s
    let tid := tidOfRt rt
    let u := storeImage s 0x0403 2 tid 16 tid tid
    (w.at_ ≤ 32 * t → w.now_ = true ∨ insideWindow (s.rt rt) t = false → exec (.weightSwapEffect rt) s = .next
      (answer (u.1.modRt rt (fun x => swapBanks x t w.now_)) w.func w.tag .ok (32 * t) [] [u.2]))
    ∧ (32 * t < w.at_ → exec (.weightSwapEffect rt) s = .next s)
    ∧ (w.now_ = false → insideWindow (s.rt rt) t = true → exec (.weightSwapEffect rt) s = .next s))

/-- R137 to R140: RAW_CAPTURE arms the capture of a quadrant, ABORT and CAPTURE_STATUS; a capture runs when START_AT
is reached; at its end, or at an overflow of its buffer, which sets OVF, the whole ticks of its codes stand in DDR, UL0 to
UL3 asserts, and the notice is sent, whose payload is a free value (log 22). R245, R249, R257, R264: WARP_BIND is staged for APPLY_AT, WARP_STATUS
reports and clears; when the due tick of a decision passes that is not valid device-wide, WARP_LATE of its tile
asserts, and the decisions that no tick presents any more are dropped. -/
def Obligations.RawCapturesAndWarp : Prop :=
  Serves .rawCapture { op := 0x0407 }
    (fun k s =>
      let b := k.blk
      let p := fld b 0 16
      let q := quadOfTile (tidTile p)
      let len := fld b 32 24
      let a := fld b 64 48
      let at_ := fld b 128 64
      let trig := bit b 16
      let v := 104 + q
      let ch := uncoreCand v (fld b 17 3)
      let c := s.cap q
      let s' := s.modCap q (fun x => { x with
        state := .armed, pair := p, trig := trig, cand := fld b 17 3, length := len, addr := a
        label := if trig then 0 else at_, written := 0, func := k.func, part := k.who.part, hop := 0, abort := none })
      ([(bit b 20 || fld b 21 11 != 0 || fld b 56 8 != 0 || fld b 112 16 != 0 || fld b 192 64 != 0
          || !portOk p || tidKind p != 1 || len == 0 || a % 128 != 0, .badParam),
        (tileDown s (tidTile p), .notActive),
        (chanOf a != q || !inDdr s a (32 * len), .lenExceeds),
        (!mayChange k.who (portOwner s p) || !ddrMayChange s k.who a (32 * len)
          || (trig && !routeOk s (portOwner s p) ch), .partDenied),
        (!trig && at_ % 32 != 0, .badTime), (!trig && decide (at_ < k.accept + captureLead), .tooLate),
        (c.state == .armed || c.state == .running, .busy)]))
    (fun k s =>
      let b := k.blk
      let p := fld b 0 16
      let q := quadOfTile (tidTile p)
      let len := fld b 32 24
      let a := fld b 64 48
      let at_ := fld b 128 64
      let trig := bit b 16
      let v := 104 + q
      let ch := uncoreCand v (fld b 17 3)
      let w := wiringAt s (2 ^ 64)
      let w' : Wiring := { w with sel := fun x => if x = v then some ch else w.sel x }
      let edges := if trig then (List.range 8).filterMap (fun j =>
          let d := 768 + q + 32 * j
          if bit (w.pen d) 10 then some (ch, d) else none) else []
      let s' := (storeSel s (uncoreConsumer v)).modCap q (fun x => { x with
        state := .armed, pair := p, trig := trig, cand := fld b 17 3, length := len, addr := a
        label := if trig then 0 else at_, written := 0, func := k.func, part := k.who.part, hop := 0, abort := none })
      let r := cycleReport k s' 0x0407 ch (if trig then cycleLen w' edges else 0)
      { status := .ok, next := r.1, out := r.2, apply := if trig then 0 else at_ })
  ∧ Serves .rawCaptureAbort { op := 0x0407 }
    (fun k s =>
      let p := fld k.blk 0 16
      let q := quadOfTile (tidTile p)
      let c := s.cap q
      [(!bit k.blk 20 || !portOk p || tidKind p != 1, .badParam), (tileDown s (tidTile p), .notActive),
       (!mayChange k.who (portOwner s p) || ((c.state == .armed || c.state == .running) && c.part != k.who.part),
         .partDenied)])
    (fun k s =>
      let p := fld k.blk 0 16
      let q := quadOfTile (tidTile p)
      let c := s.cap q
      { status := .ok, out := leBytes 4 0
        next := if c.state == .armed || c.state == .running then s.modCap q (fun x => { x with abort := some s.now }) else s })
  ∧ Serves .captureStatus { op := 0x0408 }
    (fun k s =>
      let q := fld k.blk 0 2
      [(statusReqBad k 2 192 capMap, .badParam), (k.func != 0 && (s.cap q).part != k.who.part, .partDenied)])
    (fun k s =>
      let q := fld k.blk 0 2
      let u := noteTicks s q
      (report (if k.clear then u.modCap q (fun x => { x with flags := clearFlags s.now capMap k.blk x.flags }) else u)
        (leBytes 24 (captureImage u q))))
  ∧ (∀ (s : State) (q : Fin 4), (s.cap q).state = .armed → (s.cap q).trig = false →
    ((s.cap q).label + 44 * 32 ≤ s.st →
      exec (.captureStart q) s = .next (s.modCap q (fun x => { x with state := .running })))
    ∧ (s.st < (s.cap q).label + 44 * 32 → exec (.captureStart q) s = .next s))
  ∧ (∀ (s : State) (q : Fin 4) (codes : List (BitVec 12)), (s.cap q).state = .running → (s.cap q).abort = none →
    (s.cap q).length ≤ codes.length / 16 → 0 < (s.cap q).length →
    let c := s.cap q
    let used := codes.take (16 * c.length)
    let w := ddrWrite s c.addr (used.flatMap codeBytes)
    exec (.captureDone q codes false) s = .next (captureEnd
      ((noteCodes (memEvents w.1 c.part (.tile (tidTile c.pair)) w.2) c.pair { first := c.label, codes := used }).modCap q
        (fun x => { x with written := c.length })) q))
  ∧ (∀ (s : State) (q : Fin 4) (codes : List (BitVec 12)), (s.cap q).state = .running → (s.cap q).abort = none →
    codes.length / 16 < (s.cap q).length →
    exec (.captureDone q codes false) s = .next s
    ∧ exec (.captureDone q codes true) s = .next (captureEnd ((writeCapture s q (codes.length / 16) codes).modCap q
        (fun x => { x with flags := hit s.now x.flags 4 })) q))
  ∧ (∀ (s : State) (q : Fin 4) (codes : List (BitVec 12)) (o : Bool), (s.cap q).state ≠ .running →
    abortDue s (s.cap q) = false → exec (.captureDone q codes o) s = .next s)
  ∧ Serves .warpBind { op := 0x0801 }
    (fun k s =>
      let slot := fld k.blk 3 5
      let imp := bit k.blk 2
      let b := fld k.blk 16 10
      let key := slotKey (fld k.blk 0 2) (b2n imp) slot
      let ap := fld k.blk 64 64
      let bound := s.warp.binds.any (fun e => e.1 != key && e.1 / 32 % 2 == 1 && e.2 == b + 1)
      ([(decide (slot > 20) || (imp && decide (b < 512)) || fld k.blk 9 7 != 0 || fld k.blk 26 38 != 0, .badParam),
        (imp && bit k.blk 8 && (bound || stagedImport s key b), .busy),
        ((ownerOf s oBit b).part != k.who.part, .partDenied)] ++ timeFail ap k.accept ++ [(isStaged s .warpBind key, .busy)]))
    (fun k s =>
      let slot := fld k.blk 3 5
      let imp := bit k.blk 2
      let b := fld k.blk 16 10
      let key := slotKey (fld k.blk 0 2) (b2n imp) slot
      let ap := fld k.blk 64 64
      (let id := key
       let st := storeImage s 0x0801 oBit (id + 2 ^ 16) 16 (k.blk % 2 ^ 8) (k.blk % 2 ^ 64)
       scheduled (stage st.1 { kind := .warpBind, obj := key, blk := k.blk, at_ := applyAt ap k.accept, func := k.func })
         (applyAt ap k.accept) [{ st.2 with objId := b }]))
  ∧ Serves .warpStatus { op := 0x0802 }
    (fun k s =>
      let b := fld k.blk 0 10
      [(statusReqBad k 10 384 warpMap, .badParam),
       (k.func != 0 && (ownerOf s oBit b).part != k.who.part, .partDenied)])
    (fun k s =>
      let b := fld k.blk 0 10
      (report (if k.clear then { s with warp := { s.warp with
          flags := tmod [] s.warp.flags b (clearFlags s.now warpMap k.blk) } } else s) (leBytes 48 (warpImage s b))))
  ∧ (∀ (s : State) (b : Fin 512) (d : Decision), (s.decBit b).armed = [d] → d.due = stTick s →
    tileActive s d.tile = true →
    (lateDecision d = true → exec (.dueTick b) s = .next ((assertOnce s (.warpLate d.tile)).modBit b
      (fun x => { x with armed := x.armed.filter (fun _ => true) })))
    ∧ (lateDecision d = false → exec (.dueTick b) s = .next (s.modBit b
      (fun x => { x with armed := x.armed.filter (fun _ => true) }))))
  ∧ (∀ (s : State) (b : Fin 512) (d e : Decision), (s.decBit b).armed = [d, e] → d.due < e.due → e.due + 2 ≤ stTick s →
    exec (.dueTick b) s = .next (s.modBit b (fun x => { x with armed := x.armed.filter (fun x => decide (e.due ≤ x.due)) })))

/-- R273, R279 to R282: HARNESS_CFG and HARNESS_SINK take effect at APPLY_AT and report the shortest new static
cycle, HARNESS_FIRE asserts at APPLY_AT, and HARNESS_STATUS reports and clears. R265, R270, R271, R283: an edge
at a marker input changes the level that the next ticks sample; a channel delivers what it carried one tick ago
to its own segment and what it carried three ticks ago to the others; at a slow-tick boundary a channel whose
registers differ from its stored copy gets the stored copy back, and an unreadable stored copy sets TBL_ERR.
Model choices: logs 19, 65, 66, 83. -/
def Obligations.HarnessCommandsAndEvents : Prop :=
  (Serves .harnessCfg { op := 0x0901 }
    (fun k s =>
      let ch := fld k.blk 0 10
      let pen := fld k.blk 16 16
      let ap := fld k.blk 64 64
      let o := ownerOf s oChan ch
      ([(fld k.blk 10 6 != 0 || fld k.blk 32 32 != 0, .badParam),
        (!mayChange k.who o || (List.range 16).any (fun i => bit pen i && !sourceAllowed s o.part (sourceOf ch i)),
          .partDenied)] ++ timeFail ap k.accept ++ [(isStaged s .harnessCfg ch, .busy)]))
    (fun k s =>
      let ch := fld k.blk 0 10
      let pen := fld k.blk 16 16
      let ap := fld k.blk 64 64
      let t := applyAt ap k.accept
      let w := wiringAt s t
      let w' : Wiring := { w with pen := fun c => if c = ch then pen else w.pen c }
      let edges := ((List.range 16).filter (fun i => !bit (w.pen ch) i)).filterMap
        (fun i => (inEdge w' ch i).map (fun u => (u, ch)))
      let st := storeImage s 0x0901 oChan ch 16 ch (k.blk % 2 ^ 32)
      let r := cycleReport k st.1 0x0901 ch (cycleLen w' edges)
      { status := .ok, apply := t, items := [st.2], out := r.2
        next := stage r.1 { kind := .harnessCfg, obj := ch, blk := k.blk, at_ := t, func := k.func } }) :)
  ∧ (Serves .harnessSink { op := 0x0902 }
    (fun k s =>
      let v := fld k.blk 0 7
      let en := bit k.blk 8
      let ch := uncoreCand v (fld k.blk 9 3)
      let ap := fld k.blk 64 64
      let o := sinkOwner s v
      ([(decide (v ≥ 104) || fld k.blk 7 1 != 0 || fld k.blk 14 50 != 0 || fld k.blk 12 2 == 3
          || (fld k.blk 12 2 != 0 && decide (v ≥ 8)), .badParam),
        (!mayChange k.who o || (en && !routeOk s o ch), .partDenied)]
        ++ timeFail ap k.accept ++ [(isStaged s .harnessSink v, .busy)]))
    (fun k s =>
      let v := fld k.blk 0 7
      let en := bit k.blk 8
      let ch := uncoreCand v (fld k.blk 9 3)
      let ap := fld k.blk 64 64
      let t := applyAt ap k.accept
      let w := wiringAt s t
      let w' : Wiring := { w with sel := fun x => if x = v then (if en then some ch else none) else w.sel x }
      let edges := if en && w.sel v != some ch && decide (8 ≤ v) && decide (v < 40) then
          (List.range 8).filterMap (fun j =>
            let d := 768 + (v - 8) + 32 * j
            if bit (w.pen d) 8 then some (ch, d) else none)
        else []
      let st := storeImage s 0x0902 (sinkObj v).1 (sinkObj v).2 16 v (k.blk % 2 ^ 14)
      let r := cycleReport k st.1 0x0902 ch (cycleLen w' edges)
      { status := .ok, apply := t, items := [st.2], out := r.2
        next := stage r.1 { kind := .harnessSink, obj := v, blk := k.blk, at_ := t, func := k.func } }) :)
  ∧ (Serves .harnessFire { op := 0x0903 }
    (fun k s =>
      let ch := fld k.blk 0 10
      let ap := fld k.blk 64 64
      ([(fld k.blk 10 54 != 0, .badParam), (!mayChange k.who (ownerOf s oChan ch), .partDenied)] ++ timeFail ap k.accept))
    (fun k s =>
      let ch := fld k.blk 0 10
      let ap := fld k.blk 64 64
      let t := applyAt ap k.accept
      (scheduled (stage s { kind := .harnessFire, obj := ch, blk := k.blk, at_ := t, func := k.func }) t [])) :)
  ∧ (Serves .harnessStatus { op := 0x0904 }
    (fun k s =>
      let ch := fld k.blk 0 10
      let a := fld k.blk 128 32
      [(statusReqBad k 10 192 harnessMap || (k.clear && a != 0 && a != 0xFFFFFFFF), .badParam),
       (k.func != 0 && (ownerOf s oChan ch).part != k.who.part, .partDenied)])
    (fun k s =>
      let ch := fld k.blk 0 10
      let a := fld k.blk 128 32
      (report (if k.clear then s.modChan ch (fun x => { x with
          flags := clearFlags s.now harnessMap k.blk x.flags, assertCnt := if a = 0 then 0 else x.assertCnt }) else s)
        (leBytes 24 (harnessImage s ch)))) :)
  ∧ (∀ (s : State) (m : Fin 8) (r : Bool), ∃ t, exec (.markerInputEdge m r) s = .next t
      ∧ (tget {} t.markIn m).level = r ∧ (tget {} t.markIn m).samples = (tget {} s.markIn m).samples
      ∧ (∀ n, n ≠ m.val → tget {} t.markIn n = tget {} s.markIn n) ∧ { t with markIn := s.markIn } = s)
  ∧ (∀ (s : State) (ch : Fin 1024) (c : Carry), pendingDelivery s ch true = some c →
    (let u := deliverSegment (delivered_ s c true) (segmentOf ch) c
     pendingDelivery u ch false = none → exec (.harnessEventDelivery ch) s = .next u))
  ∧ (∀ (s : State) (ch : Fin 1024), pendingDelivery s ch true = none →
    (∀ c, pendingDelivery s ch false = some c → exec (.harnessEventDelivery ch) s = .next
      (((List.range 13).filter (fun g => g != segmentOf ch)).foldl (fun u g => deliverSegment u g c) (delivered_ s c false)))
    ∧ (pendingDelivery s ch false = none → exec (.harnessEventDelivery ch) s = .next s))
  ∧ (∀ (s : State), slowNow s = true → ∀ ch, checkNeeded s = [ch] →
    selsNeeded s = [] →
    (badBytes s ch = [] → (s.chan ch).stored < 2 ^ 16 →
      exec .harnessTableCheck s = .next (s.modChan ch (fun x => { x with pen := x.stored })))
    ∧ (∀ j, 2 ≤ j → badBytes s ch = [j] → (s.chan ch).stored < 2 ^ 16 → exec .harnessTableCheck s = .next
      (tblErr (s.modChan ch (fun x => { x with pen := x.stored })) ch j)))
  ∧ (∀ (s : State) (ch j : Nat), tblErr s ch j =
      errRecord (s.modChan ch (fun x => { x with flags := hit s.now x.flags hTblErr })) (ownerOf s oChan ch).part
        (spoolRecord 0x50 ch j s.st 0))
  ∧ (∀ (s : State) (key w : Nat), byteBad (maskOf s.mem (selAddr key)) = false →
    (tget none s.harness.sels key = some w → checkSel s key = setSel s key w)
    ∧ (tget none s.harness.sels key = none → checkSel s key = s))
  ∧ (∀ (s : State) (key : Nat), byteBad (maskOf s.mem (selAddr key)) = true →
    checkSel s key = tblErr s (selChan key (selRegs s key)) (selAddr key % 2 ^ 16))
  ∧ (∀ (s : State), slowNow s = false → exec .harnessTableCheck s = .next s)

/-- R51, R62, R72 to R75, R84, R180, R226: the emissions of one op that reach a thread in one tick are taken
together. On an enabled thread that accepts the op, set-timing-set only makes its set the pending one, set-
frequency-index loads F and keeps the accumulator, add-phase starts from the loaded phase or the accumulator and
adds every ADD, and set-amplitude-index and flux-step load the entry; more than one sets the conflict flag of
the op. A disabled thread, or one of a kind that does not take the op, discards them with EMITDIS; without one
nothing but a timing set is taken. Model choices: log 19. -/
def Obligations.ThreadEmissions : Prop :=
  (∀ (s : State) (r : ThreadRef) (w : Emission) (es : List Emission),
    let t := tidOf r
    let u (op : Nat) : State := dropOps (takeTs s t) t op
    let runs (op : Nat) : Prop :=
      dueOps s t op = es ∧ winner es = some w ∧ ((u op).thread t).en = true ∧ opAccepted (tidKind t) op = true
    (runs 0 → exec (.emitTset r) s = .next (u 0))
    ∧ (runs 2 →
      exec (.emitFreq r) s = .next (ncoConf (selectFreq (u 2) t (w.param % 64) ((u 2).thread t).zacc)
        (decide (1 < es.length))))
    ∧ (runs 3 → ∀ l, es.filter (fun e => bit e.param 6) = [l] →
      let z := (es.filter (fun e => !bit e.param 6)).foldl (fun z e => addPhase t z (e.param % 64))
        (addPhase t (0, u 3) (l.param % 64))
      exec (.emitPhase r) s = .next (setFrame z.2 t ((u 3).thread t).fo z.1))
    ∧ (runs 3 → es.filter (fun e => bit e.param 6) = [] →
      let z := es.foldl (fun z e => addPhase t z (e.param % 64)) (((u 3).thread t).zacc, u 3)
      exec (.emitPhase r) s = .next (setFrame z.2 t ((u 3).thread t).fo z.1))
    ∧ (runs 4 →
      let v := selectAmp (u 4) t (w.param % 256)
      exec (.emitAmp r) s = .next (if 1 < es.length then portFlag v t fAmpConf 1 else v)))
  ∧ (∀ (s : State) (fp : Fin 192) (w : Emission) (es : List Emission),
    let t := mkTid (fp / 16) 2 (fp % 16)
    let u := dropOps (takeTs s t) t 6
    dueOps s t 6 = es → winner es = some w →
    ((u.thread t).en = true →
      let v := selectLvl u t (w.param % 64)
      exec (.emitFlux fp) s = .next (if 1 < es.length then portFlag v t fAmpConf 1 else v))
    ∧ ((u.thread t).en = false → exec (.emitFlux fp) s = .next (portFlag u t fEmitDis es.length)))
  ∧ (∀ (s : State) (r : ThreadRef) (es : List Emission),
    let t := tidOf r
    let u (op : Nat) : State := portFlag (dropOps (takeTs s t) t op) t fEmitDis es.length
    let drops (op : Nat) : Prop := dueOps s t op = es ∧ es ≠ []
      ∧ (((dropOps (takeTs s t) t op).thread t).en = false ∨ opAccepted (tidKind t) op = false)
    (drops 0 → exec (.emitTset r) s = .next (u 0)) ∧ (drops 2 → exec (.emitFreq r) s = .next (u 2))
      ∧ (drops 3 → exec (.emitPhase r) s = .next (u 3)) ∧ (drops 4 → exec (.emitAmp r) s = .next (u 4)))
  ∧ (∀ (s : State) (t : Nat) (w : Emission),
    winner (s.emits.filter (fun e => reached s t e && e.ts.isSome && opAccepted (tidKind t) e.op)) = some w →
    ((s.thread t).en = true → ((takeTs s t).thread t).pendSet = w.ts.getD 0)
    ∧ ((s.thread t).en = false → (takeTs s t).thread t = s.thread t))
  ∧ (∀ (s : State) (t i : Nat) (z : BitVec 32), s.mem.errs = [] →
    let x := s.thread t
    selectFreq s t i z = setFrame (s.modThread t (fun x => { x with freqIdx := i })) t (tget 0 x.freqs i) z
    ∧ addPhase t (z, s) i = (z + tget 0 x.phases i, s)
    ∧ selectAmp s t i = s.modThread t (fun x => { x with ampIdx := i, amp := tget 0 x.amps i })
    ∧ selectLvl s t i = s.modThread t (fun x => { x with lvlIdx := i, lvl := tget 0 x.lvls i }))

/-- R97 to R104, R228: a play-segment that reaches an idle enabled thread starts its segment in the present tick, at
tick word 0, for LENGTH ticks; index 0 leaves the thread idle; a segment that is not valid only sets JMPBAD, and
one of another partition SEGDENY. On a thread that plays, it is a request: NOW while the tick is two or more
before the final one, else NEXT with JLATE. At the end of a final tick the request of NOW is taken, else the
segment's own chain, else the thread falls idle; a muted thread ends its own loop. Model choices: logs 70, 112,
113, 120. -/
def Obligations.SegmentsAndJumps : Prop :=
  (∀ (s : State) (r : ThreadRef) (w : Emission),
    let t := tidOf r
    let u := dropOps (takeTs s t) t 1
    dueOps s t 1 = [w] → (u.thread t).en = true → opAccepted (tidKind t) 1 = true →
    ((s.thread t).play = none → (s.thread t).gap = none → w.param ≠ 0 →
      exec (.emitPlay r) s = .next (takeSegment u t w.param u.now 1)
      ∧ ∀ v, v = takeSegment u t w.param u.now 1 → segFault u t w.param = none →
        0 < dLength (segDesc s (tidTile t) w.param) → ∃ p, (v.thread t).play = some p ∧ p.seg = w.param ∧ p.first = s.now ∧ p.base = 0
          ∧ p.final + 1 = s.now + dLength (segDesc s (tidTile t) w.param))
    ∧ ((s.thread t).play = none → (s.thread t).gap = none → w.param = 0 → exec (.emitPlay r) s = .next u)
    ∧ (∀ p, (s.thread t).play = some p → s.now ≤ p.final → p.first < s.now →
      exec (.emitPlay r) s = .next (requestJump u t w.param p.final true)))
  ∧ (∀ (s : State) (t seg k src : Nat),
    (segFault s t seg = some fJmpBad ↔ dValid (segDesc s (tidTile t) seg) = false ∨ segBad s t seg = true)
    ∧ (∀ f, segFault s t seg = some f →
      takeSegment s t seg k src =
        (noteSegRead s t seg).modBobbin (tidTile t) (fun x => { x with flags := hit s.now x.flags f }))
    ∧ (s.mem.errs = [] → segBad s t seg = false ∧ noteSegRead s t seg = s))
  ∧ (∀ (s : State) (t seg f : Nat), (s.thread t).now_ = none → (s.thread t).next_ = none →
    (s.now + 2 ≤ f → ((requestJump s t seg f true).thread t).now_ = some { seg := seg, reg := s.now, loom := true }
      ∧ ((requestJump s t seg f true).thread t).next_ = none)
    ∧ (f < s.now + 2 → ((requestJump s t seg f true).thread t).next_ = some { seg := seg, reg := s.now, loom := true }
      ∧ ((requestJump s t seg f true).thread t).now_ = none
      ∧ isOn ((requestJump s t seg f true).bobbin (tidTile t)).flags fJLate = true))
  ∧ (∀ (s : State) (r : ThreadRef),
    let t := tidOf r
    let x := s.thread t
    (∀ p, x.play = some p → p.final < s.now →
      exec (.segmentEnd r) s = .next (passBoundary (takeTs s t) t p.final))
    ∧ (∀ f, x.play = none → x.gap = some f → f < s.now →
      exec (.segmentEnd r) s = .next (passBoundary (takeTs s t) t f))
    ∧ (∀ p, x.play = some p → s.now ≤ p.final → exec (.segmentEnd r) s = .next s)
    ∧ (x.play = none → x.gap = none → exec (.segmentEnd r) s = .next s))
  ∧ (∀ (s : State) (t f : Nat) (p : Play) (j : Jump), (s.thread t).play = some p →
    let u := s.modThread t (fun x => { x with now_ := x.next_, next_ := none })
    ((s.thread t).now_ = some j → j.seg ≠ 0 → segFault u t j.seg = none →
      passBoundary s t f = takeSegment u t j.seg (f + 1) 0)
    ∧ ((s.thread t).now_ = some j → j.seg = 0 → passBoundary s t f = goIdle u t f)
    ∧ ((s.thread t).now_ = none → passBoundary s t f = chainOrIdle u t)
    ∧ ((dChain p.desc && dNext p.desc != 0) = false → chainOrIdle s t = goIdle s t p.final)
    ∧ (dChain p.desc = true → dNext p.desc = p.seg → p.seg ≠ 0 → (s.thread t).en = true → segFault s t p.seg = none →
      portMuted s (portOfTid t) = true → chainOrIdle s t = goIdle s t p.final))

/-- R105 to R110: the stream engine writes a descriptor for the words of the lowest ring with room, and its mover
lays the words that arrive at their ring positions and consumes the descriptor; a descriptor that fails a check
of the fetch, or whose transfer is discarded, brings no word (logs 25, 120). A tick whose word is missing
sets UNDERRUN once, asserts the UNDERRUN line of the tile, and marks the shots that target the thread; a tick
whose word is there changes nothing. Model choices: logs 25, 29. -/
def Obligations.StreamsAndFill : Prop :=
  (∀ (s : State) (tile : Fin 12), (tileActive s tile && canPut s (s.spool (32 + tile))) = true →
    (∀ i d g w n, (List.range 16).find? (fun i => (fetchRoom s tile i).isSome) = some i →
      fetchRoom s tile i = some (d, g, w, n) →
      let pos := (tget {} (s.bobbin tile).rings i).issued
      exec (.streamFetchIssue tile) s = .next (appendEntry (s.modBobbin tile (fun b => { b with
        rings := tmod {} b.rings i (fun r => { r with issued := r.issued + (n + 1) / 2 * 2 }) })) (32 + tile) 0 true
        (streamDesc tile i g d w n pos)))
    ∧ ((List.range 16).find? (fun i => (fetchRoom s tile i).isSome) = none →
      exec (.streamFetchIssue tile) s = .next s))
  ∧ (∀ (s : State) (tile : Fin 12), (tileActive s tile && canPut s (s.spool (32 + tile))) = false →
    exec (.streamFetchIssue tile) s = .next s)
  ∧ (∀ (s : State) (tile : Fin 12),
    let n := 32 + tile.val
    let u := readDesc s n
    let p := u.spool n
    let e := ringRead u p p.ci
    let v := leNat e.1
    let u := memEvents u p.owner (.tile tile) e.2.2
    let i := fld v 208 4
    let who := partWho u (match ringSegment (u.bobbin tile) i with | some g => dOwner g.2 | none => p.owner)
    let gone (u : State) := ringArrive u tile i (fld v 212 12) (mLen v) none
    let h := takeHeader u who.part (.tile tile) (mSrc v)
    let r := internalRead h.1 (mSrc v) (mBytes v)
    ((spoolLive p = false ∨ occupancy p = 0) → exec (.streamFetchDone tile) s = .next (readDesc s n))
    ∧ (spoolLive p = true → occupancy p ≠ 0 → e.2.1 = true → exec (.streamFetchDone tile) s = .next (consume (gone u) n))
    ∧ (spoolLive p = true → occupancy p ≠ 0 → e.2.1 = false → (streamFail u who v).isSome = true →
      exec (.streamFetchDone tile) s = .next (consume (gone (errRecord u (addrOwner u (mSrc v))
        (memRecord u 0x0010 who.part (.tile tile) (mSrc v) 0 0))) n))
    ∧ (spoolLive p = true → occupancy p ≠ 0 → e.2.1 = false → streamFail u who v = none → h.2 = true →
      exec (.streamFetchDone tile) s = .next (consume (gone h.1) n))
    ∧ (spoolLive p = true → occupancy p ≠ 0 → e.2.1 = false → streamFail u who v = none → h.2 = false →
      exec (.streamFetchDone tile) s = .next (consume (ringArrive (memEvents r.1 who.part (.tile tile) r.2.2.2) tile i
        (fld v 212 12) (mLen v) (some (r.2.1, r.2.2.1))) n)))
  ∧ (∀ (s : State) (who : Owner) (v : Nat), streamFail s who v = none ↔
      mOp v = 1 ∧ mLen v ≠ 0 ∧ mSrc v % 16 = 0 ∧ mDst v % 16 = 0 ∧ inDdr s (mSrc v) (mBytes v) = true
        ∧ ddrMayChange s who (mSrc v) (mBytes v) = true ∧ chanActive s (chanOf (mSrc v)) = true)
  ∧ (∀ (s : State) (r : ThreadRef),
    let t := tidOf r
    (playAt (s.thread t) s.now = none → exec (.underrunFill r) s = .next s)
    ∧ (∀ p, playAt (s.thread t) s.now = some p →
      (∀ w, readTick s t s.now p = .ok w → exec (.underrunFill r) s = .next s)
      ∧ (∀ why, readTick s t s.now p = .error why → (s.thread t).filled = some s.now →
        exec (.underrunFill r) s = .next s)
      ∧ (∀ why, why = .late ∨ why = .busy → readTick s t s.now p = .error why → (s.thread t).filled ≠ some s.now →
        exec (.underrunFill r) s = .next (markLooms (assertLine ((s.modThread t (fun x => { x with
            filled := some s.now })).modBobbin (tidTile t) (fun b => { b with
              underrunSt := if isOn b.flags fUnderrun then b.underrunSt else s.st
              flags := hit s.now b.flags fUnderrun })) (.underrun (tidTile t)))
          (fun l => tileOfLoom l == tidTile t && draftTargets (s.loom l) t) cUnderrun))
      ∧ (readTick s t s.now p = .error .fault → (s.thread t).filled ≠ some s.now →
        ∃ v, exec (.underrunFill r) s = .next v
          ∧ isOn (v.bobbin (tidTile t)).flags fFetchFault = true ∧ isOn (v.bobbin (tidTile t)).flags fUnderrun = true)))

/-- R230 to R232, R235, R236, R239, R242: LOOM_LOAD takes a signed image whose objects the owner owns into a Loom
that does not run, LOOM_CFG its inputs and Spools; LOOM_RUN arms it for shots at RUN_AT + k PERIOD; STOP ends a
run at the next END, ABORT at the next tick boundary; LOOM_STATUS reports and clears. R236 to R238, R229: at the
start instant of its next shot an ARMED Loom of an ACTIVE tile that no stop covers starts the shot at the entry
word, with its registers loaded and the shot number counted on; one that still runs, or may not, counts the shot
in SKIP and goes on; at any other instant nothing happens. A MARK that reaches an output acts 32 ticks later.
Model choices: logs 69, 70, 79. -/
def Obligations.LoomRuns : Prop :=
  (Serves .loomLoad { op := 0x0701, inlineF := true }
    (fun k s =>
      let l := fld k.blk 0 7
      let x := s.loom l
      let b := k.data
      let h := leNat (b.take 64)
      let ws := draftWords b (hWords h)
      let o := loomOwner s l
      let tested := match s.gaf.running with | some i => formatTested i 40 (fld h 0 16) | none => false
      [(decide (l ≥ 96) || fld k.blk 7 121 != 0 || !k.isRef, .badParam),
       (tileDown s (tileOfLoom l) || x.state == .failed, .notActive), (!mayChange k.who o, .partDenied),
       (!(x.state == .empty || x.state == .loaded || x.state == .fault), .busy),
       (!tested, .incompatible), (!imageSigned s o.part (fld h 16 2) b, .sigFail), (draftBad b, .badDraft),
       (!draftOwned s l o.part ws, .partDenied),
       (ws.any (fun w => uPubEn w && (s.producers (uPubDb w)).any (fun p => p != (2, l))), .busy)])
    (fun k s =>
      let l := fld k.blk 0 7
      let x := s.loom l
      let b := k.data
      let h := leNat (b.take 64)
      let ws := draftWords b (hWords h)
      (done ((clearErrs s (draftAddr l 0 0) 0x40000).modLoom l (fun x => { x with
          state := .loaded, header := h
          words := (ws.zipIdx).foldl (fun t w => tset 0 t w.2 w.1) [] }))
        [item oLoom l (hBuild x.header) (hBuild h)])) :)
  ∧ (Serves .loomCfg { op := 0x0702 }
    (fun k s =>
      let b := k.blk
      let l := fld b 0 7
      let x := s.loom l
      let o := loomOwner s l
      let sp := ((List.range 4).map (cfgSpool b)).filter (fun n => n != 0)
      [(decide (l ≥ 96) || fld b 7 25 != 0 || fld b 112 144 != 0, .badParam),
       (tileDown s (tileOfLoom l) || x.state == .failed, .notActive),
       (!mayChange k.who o || (List.range 4).any (fun i => bit b (99 + 4 * i) &&
          !routeOk s o (tileCand (tileOfLoom l) (4 * (l % 8) + i) (fld b (96 + 4 * i) 3))), .partDenied),
       (!(x.state == .empty || x.state == .loaded), .busy), (sp.any (fun n => !recordSpool s n), .badParam),
       (sp.any (fun n => (s.spool n).owner != o.part), .partDenied)])
    (fun k s =>
      let b := k.blk
      let l := fld b 0 7
      let x := s.loom l
      (let st := storeImage s 0x0702 oLoom l 32 l (b % 2 ^ 112)
       let u := (List.range 4).foldl (fun s i => storeSel s (tileConsumer (tileOfLoom l) (4 * (l % 8) + i))) st.1
       done (u.modLoom l (fun x => { x with cfg := b % 2 ^ 112 / 2 ^ 32 * 2 ^ 32 })) [st.2])) :)
  ∧ (Serves .loomRun { op := 0x0703 }
    (fun k s =>
      let b := k.blk
      let l := fld b 0 7
      let x := s.loom l
      let at_ := fld b 64 64
      let shots := fld b 128 32
      let per := fld b 160 32
      (runChecks k s 0 ++
       [(stopCovers s (quadOfLoom l), .busy), (at_ % 32 != 0, .badTime), (decide (at_ < k.accept + leadSamples), .tooLate),
        (s.time.mode != .set, .noEpoch), (x.state == .empty || x.state == .fault, .badParam), (loomActive x, .busy),
        (per == 0 && shots != 1, .badParam)]))
    (fun k s =>
      let b := k.blk
      let l := fld b 0 7
      let x := s.loom l
      let at_ := fld b 64 64
      let shots := fld b 128 32
      let per := fld b 160 32
      (scheduled (s.modLoom l (fun x => { x with
         state := .armed, started := false, run := some { first := fld b 32 32, at_ := at_, shots := shots, period := per } })) at_ [])) :)
  ∧ (Serves .loomStop { op := 0x0703 }
    (fun k s =>
      let l := fld k.blk 0 7
      (runChecks k s 1 ++ [(!loomActive (s.loom l), .badParam)]))
    (fun k s =>
      let l := fld k.blk 0 7
      (done (s.modLoom l (fun x =>
        if x.state = .running then { x with run := x.run.map (fun r => { r with stop := true }) }
        else { x with state := .loaded, run := none })) [])) :)
  ∧ (Serves .loomAbort { op := 0x0703 }
    (fun k s =>
      let l := fld k.blk 0 7
      (runChecks k s 2 ++ [(!loomActive (s.loom l), .badParam)]))
    (fun k s =>
      let l := fld k.blk 0 7
      (scheduled (s.modLoom l (fun x => { x with abort := some (s.now + 1) })) (k.accept + 32) [])) :)
  ∧ (Serves .loomStatus { op := 0x0704 }
    (fun k s =>
      let l := fld k.blk 0 7
      [(decide (l ≥ 96) || statusReqBad k 7 320 loomMap, .badParam),
       (k.func != 0 && (loomOwner s l).part != k.who.part, .partDenied)])
    (fun k s =>
      let l := fld k.blk 0 7
      (report (if k.clear then s.modLoom l (fun x => { x with flags := clearFlags s.now loomMap k.blk x.flags }) else s)
        (leBytes 40 (loomImage s l)))) :)
  ∧ (∀ (s : State) (l : Fin 96) (r : LoomRun), (s.loom l).run = some r → runOver r = false →
    s.st = r.at_ + 32 * r.period * r.next →
    ((s.loom l).state = .armed → tileActive s (tileOfLoom l) = true → stopCovers s (quadOfLoom l) = false →
      s.time.mode = .set →
      ∃ t, exec (.shotStart l) s = .next t
        ∧ (t.loom l).state = .running ∧ (t.loom l).word = some (hEntry (s.loom l).header, 0)
        ∧ (t.loom l).shot = (r.first + r.next) % 2 ^ 32 ∧ (t.loom l).lastStart = s.st
        ∧ (t.loom l).run = some { r with next := r.next + 1 } ∧ (t.loom l).latches = [] ∧ (t.loom l).meas = 0
        ∧ (t.loom l).flags = (s.loom l).flags
        ∧ (∀ m, m ≠ l.val → t.loom m = s.loom m) ∧ { t with looms := s.looms } = s)
    ∧ ((s.loom l).state = .running ∨ ((s.loom l).state = .armed
        ∧ (tileActive s (tileOfLoom l) = false ∨ stopCovers s (quadOfLoom l) = true ∨ s.time.mode ≠ .set)) →
      runOver { r with next := r.next + 1 } = false →
      exec (.shotStart l) s = .next (s.modLoom l (fun x => { x with
        flags := hit s.now x.flags lSkip, run := some { r with next := r.next + 1 } }))))
  ∧ (∀ (s : State) (l : Fin 96), ((s.loom l).run = none ∨ loomActive (s.loom l) = false
      ∨ (∀ r, (s.loom l).run = some r → runOver r = true ∨ s.st ≠ r.at_ + 32 * r.period * r.next)) →
    exec (.shotStart l) s = .next s)
  ∧ (∀ (s : State) (m : Fin 8) (e : Emission),
    s.emits.filter (fun e => e.op == 8 && decide (e.tick ≤ s.now) && e.param % 8 == m.val) = [e] →
    exec (.emitMark m) s = .next { s with
      emits := s.emits.filter (fun e => !(e.op == 8 && decide (e.tick ≤ s.now) && e.param % 8 == m.val))
      markOut := tmod {} s.markOut m (fun x => { x with
        due := x.due ++ [(s.now + 32, if e.param / 8 % 4 = 0 then 3 else e.param / 8 % 4, 32, true)] }) })
  ∧ (∀ (s : State) (m : Fin 8), s.emits.filter (fun e => e.op == 8 && decide (e.tick ≤ s.now) && e.param % 8 == m.val) = [] →
    exec (.emitMark m) s = .next s)

/-- R211 to R224, R233: a running Loom presents its word once a tick. In the first tick of a word, whose code words
can be read, the slots, the publication, the Harness lines and the record are presented, the counter and the
index operations are done, and the word that follows is chosen: END at the end of HOLD ends the shot; else the
condition is tested at the end of HOLD, or in every tick under UNTIL, and ALT or NEXT follows. An unreadable
word is FETCH: the Loom is in FAULT. A Loom that does not run, or has presented in this tick, does nothing.
Model choices: log 75. -/
def Obligations.Microwords : Prop :=
  (∀ (s : State) (l : Fin 96) (a j : Nat), (s.loom l).word = some (a, j) → (s.loom l).state = .running →
    (s.loom l).last ≠ s.now + 1 →
    let x := s.loom l
    let w := tget 0 x.words a
    let v := memEvents (s.modLoom l (fun x => { x with last := s.now + 1 })) (loomOwner s l).part (.tile (tileOfLoom l))
      ((List.range 5).flatMap (fun i => wordEvents (draftAddr l a i) (maskOf s.mem (draftAddr l a i))))
    let u := v.modLoom l (fun y => { y with pc := a, ixPre := if j = 0 then x.index else x.ixPre })
    ((List.range 5).any (fun i => badWord (maskOf s.mem (draftAddr l a i))) = false →
      (j = 0 → exec (.microword l) s = .next
        (let p := (presentSlots u l w).modLoom l (fun y => { y with
           index := indexOp w y.counters y.index, counters := counterOp w y.counters })
         advance (pushRecord (raises (publish p l w) l w) l a w) l a w 0 x.counters))
      ∧ (j ≠ 0 → exec (.microword l) s = .next (advance u l a w j x.counters)))
    ∧ ((List.range 5).any (fun i => badWord (maskOf s.mem (draftAddr l a i))) = true →
      exec (.microword l) s = .next (draftFault v l)))
  ∧ (∀ (s : State) (l : Fin 96), ((s.loom l).word = none ∨ (s.loom l).state ≠ .running ∨ (s.loom l).last = s.now + 1) →
    exec (.microword l) s = .next s)
  ∧ (∀ (s : State) (l a w j : Nat) (pre : Tbl Nat),
    let goto (u : State) (p : Nat × Nat) : State := u.modLoom l (fun x => { x with word := some p })
    let t := testCond s l w pre
    (uEnd w = true → j = uHold w → advance s l a w j pre = endShot s l)
    ∧ (uEnd w = true → j ≠ uHold w → advance s l a w j pre = goto s (a, j + 1))
    ∧ (uEnd w = false → j = uHold w ∨ uUntil w = true → t.true_ = true →
      advance s l a w j pre = goto (clearLatch t.next l w) (uAlt w, 0))
    ∧ (uEnd w = false → j = uHold w → t.true_ = false → advance s l a w j pre = goto t.next (uNext w, 0))
    ∧ (uEnd w = false → j ≠ uHold w → uUntil w = true → t.true_ = false →
      advance s l a w j pre = goto t.next (a, j + 1))
    ∧ (uEnd w = false → j ≠ uHold w → uUntil w = false → advance s l a w j pre = goto s (a, j + 1)))
  ∧ (∀ (w : Nat) (c : Tbl Nat), uCsel w < 8 →
    (uCop w = 1 → tget 0 (counterOp w c) (uCsel w) = uCimm w)
    ∧ (uCop w = 2 → tget 0 (counterOp w c) (uCsel w) = tget 0 c (uCsel w) - 1)
    ∧ (uCop w = 3 → tget 0 (counterOp w c) (uCsel w) = (tget 0 c (uCsel w) + 1) % 2 ^ 24)
    ∧ (uCop w = 4 → tget 0 (counterOp w c) (uCsel w) = (tget 0 c (uCsel w) + uCimm w) % 2 ^ 24)
    ∧ (uCop w = 0 → counterOp w c = c)
    ∧ (∀ i, i ≠ uCsel w → tget 0 (counterOp w c) i = tget 0 c i))

/-- R160, R173 to R176: MARVER_LOAD takes a signed image whose program passes the checks, MARVER_CTL starts or stops
a core at APPLY_AT, MV_THREAD_CFG binds a thread, MARVER_STATUS reports and clears. Model choices: log 79. -/
def Obligations.MarverCommands : Prop :=
  (Serves .marverLoad { op := 0x0501, inlineF := true }
    (fun k s =>
      let c := fld k.blk 0 5
      let x := s.core c
      let b := k.data
      let h := leNat (b.take 64)
      let o := coreOwner s c
      let tested := match s.gaf.running with | some i => formatTested i 56 (fld h 0 16) | none => false
      [(decide (c ≥ 24) || fld k.blk 5 123 != 0 || !k.isRef, .badParam),
       (tileDown s (tileOfCore c) || x.state == .failed, .notActive), (!mayChange k.who o, .partDenied),
       (x.state == .running, .busy),
       (!tested, .incompatible), (!imageSigned s o.part (fld h 16 2) b, .sigFail), (progBad b, .badProg)])
    (fun k s =>
      let c := fld k.blk 0 5
      let x := s.core c
      let b := k.data
      let h := leNat (b.take 64)
      (done ((clearErrs s (coreBase c) 0x60000).modCore c (fun x => loadedCore x b))
        [item oMarver c (cBuild x.header) (cBuild h)])) :)
  ∧ (Serves .marverStart { op := 0x0502 }
    (fun k s =>
      let b := k.blk
      let c := fld b 0 5
      let x := s.core c
      let ap := fld b 64 64
      [(decide (c ≥ 24) || fld b 5 1 != 0 || fld b 6 58 != 0, .badParam),
       (tileDown s (tileOfCore c) || x.state == .failed, .notActive), (!mayChange k.who (coreOwner s c), .partDenied),
       (x.state == .empty || x.state == .fault || x.state == .running, .badParam)]
       ++ timeFail ap k.accept ++ [(isStaged s .marverCtl c, .busy)])
    (fun k s =>
      let at_ := applyAt (fld k.blk 64 64) k.accept
      scheduled (stage s { kind := .marverCtl, obj := fld k.blk 0 5, blk := k.blk, at_ := at_, func := k.func }) at_ []) :)
  ∧ (Serves .marverStop { op := 0x0502 }
    (fun k s =>
      let b := k.blk
      let c := fld b 0 5
      let x := s.core c
      let ap := fld b 64 64
      [(decide (c ≥ 24) || fld b 5 1 != 1 || fld b 6 58 != 0, .badParam),
       (tileDown s (tileOfCore c) || x.state == .failed, .notActive), (!mayChange k.who (coreOwner s c), .partDenied),
       (false, .badParam)]
       ++ timeFail ap k.accept ++ [(isStaged s .marverCtl c, .busy)])
    (fun k s =>
      let at_ := applyAt (fld k.blk 64 64) k.accept
      scheduled (stage s { kind := .marverCtl, obj := fld k.blk 0 5, blk := k.blk, at_ := at_, func := k.func }) at_ []) :)
  ∧ (Serves .mvThreadCfg { op := 0x0503 }
    (fun k s =>
      let b := k.blk
      let t := fld b 0 16
      let r := rtOfTid t
      [(!tidOk t, .badTid),
       (tidKind t != 1 || decide (mvDb b > 511) || fld b 23 9 != 0 || fld b 41 7 != 0 || fld b 64 64 != 0, .badParam),
       (tileDown s (tidTile t), .notActive),
       (!mayChange k.who (threadOwner s t) || !mayChange k.who (coreOwner s (coreOfRt r)), .partDenied),
       (mvRecEn b && !recordSpool s (mvSpool b), .badParam),
       ((mvDbEn b && (ownerOf s oBit (mvDb b)).part != k.who.part)
          || (mvRecEn b && (s.spool (mvSpool b)).owner != k.who.part), .partDenied),
       (mvDbEn b && (s.producers (mvDb b)).any (fun p => p != (1, r)), .busy)])
    (fun k s =>
      let b := k.blk
      let t := fld b 0 16
      let r := rtOfTid t
      (let st := storeImage s 0x0503 2 t 16 t (b % 2 ^ 64)
       done (st.1.modRt r (fun x => { x with mvCfg := if b % 2 ^ 64 / 2 ^ 16 = 0 then 0 else b % 2 ^ 64 })) [st.2])) :)
  ∧ (Serves .marverStatus { op := 0x0504 }
    (fun k s =>
      let c := fld k.blk 0 5
      [(decide (c ≥ 24) || statusReqBad k 5 256 marverMap, .badParam),
       (k.func != 0 && (coreOwner s c).part != k.who.part, .partDenied)])
    (fun k s =>
      let c := fld k.blk 0 5
      (report (if k.clear then s.modCore c (fun x => { x with flags := clearFlags s.now marverMap k.blk x.flags }) else s)
        (leBytes 32 (marverImage s c)))) :)

/-- R164, R165, R168: the next sample of a window with destination TRC arrives as an event in the core of its
thread, 59 ticks after it was taken, and joins the queue of its lane slot unless that holds 16; the oldest group
is dispatched to a waiting core; a window without a decision in time sets OVERBUDGET once.
Model choices: logs 85, 86, 87. -/
def Obligations.MarverEvents : Prop :=
  (∀ (s : State) (r : Fin 384) (j : Nat) (adc : AdcTrace) (w : Window),
    (s.rt r).windows.find? (fun w => eventDue s w (.trc j)) = some w →
    let m := demod s r { w with prof := w.prof % 2 ^ 23 + w.prof / 2 ^ 24 * 2 ^ 24 } adc (j + 1)
    exec (.mvEventArrival r (.trc j) adc) s = .next (deliver (modWindow (noteCodes s (pairOfRt r) adc) r w.k (fun w => { w with fed := j + 1 })) w r 0 j
      (chainFlags w m (adcOver w adc (j + 1))) m.y))
  ∧ (∀ (s : State) (r : Fin 384) (adc : AdcTrace) (w : Window),
    (s.rt r).windows.find? (fun w => eventDue s w .endw) = some w →
    let m := demod s r { w with prof := w.prof % 2 ^ 23 + w.prof / 2 ^ 24 * 2 ^ 24 } adc (wLen w.prof)
    let o := adcOver w adc (wLen w.prof)
    exec (.mvEventArrival r .endw adc) s = .next
      (endMvWindow (deliver s w r 1 0 (chainFlags w m o) (0, 0)) r w adc (m.cicSat || m.firSat)))
  ∧ (∀ (s : State) (r : Fin 384) (adc : AdcTrace) (w : Window) (l : BitVec 48 × BitVec 48) (f : Disc) (p : Bool),
    (s.rt r).windows.find? (fun w => eventDue s w .int) = some w → w.latched = some (l.1, l.2, f, p) →
    let m := demod s r w adc (wLen w.prof)
    let o := adcOver w adc (wLen w.prof)
    let S := integrated (shifts f p).2.2 m.acc
    exec (.mvEventArrival r .int adc) s = .next (endMvWindow (deliver s w r 2 0
      (chainFlags w m o + flagBits [(gFetchFault, m.bad.isSome || w.badW)]) S.1) r w adc (m.cicSat || m.firSat || S.2)))
  ∧ (∀ (s : State) (r : Fin 384) (k : MvEvent) (adc : AdcTrace),
    (s.rt r).windows.find? (fun w => eventDue s w k) = none → exec (.mvEventArrival r k adc) s = .next s)
  ∧ (∀ (s : State) (w : Window) (r kind j chain : Nat) (d : Int × Int), mvValid w.mv = true →
    (s.core (coreOfRt r)).state = .running →
    let q := (s.core (coreOfRt r)).queue
    ((q.filter (fun e => e.lane == laneOfRt r && e.slot == r % 2)).length < 16 →
      deliver s w r kind j chain d = s.modCore (coreOfRt r) (fun x => { x with queue := q ++
        [{ tick := s.now, at_ := stTick s, kind := kind, lane := laneOfRt r, slot := r % 2, rt := r, k := w.k, j := j
           chain := chain, datum := d }] }))
    ∧ (16 ≤ (q.filter (fun e => e.lane == laneOfRt r && e.slot == r % 2)).length →
      deliver s w r kind j chain d = loseEvent (coreHit s (coreOfRt r) mInOvf) r w.k))
  ∧ (∀ (s : State) (c : Fin 24) (e : MvQueued), (s.core c).queue = [e] → readyGroup s c = some (groupKey e) →
    ∃ t, exec (.mvDispatch c) s = .next t ∧ OnlyCore s t c
      ∧ (t.core c).queue = [] ∧ (t.core c).wait = false ∧ (t.core c).lp = 2 ^ e.lane ∧ (t.core c).mask = 2 ^ e.lane
      ∧ tget 0 (t.core c).a 7 = groupKey e / 3 % 2 ∧ (t.core c).pc = cVec (s.core c).header (groupKey e % 3)
      ∧ tget none (t.core c).cur e.lane = some (e.rt, e.k) ∧ tget none (t.core c).datum e.lane = some e.datum
      ∧ (t.core c).v = (s.core c).v ∧ (t.core c).x = (s.core c).x ∧ (t.core c).y = (s.core c).y)
  ∧ (∀ (s : State) (c : Fin 24), readyGroup s c = none → exec (.mvDispatch c) s = .next s)
  ∧ (∀ (s : State) (r : Fin 384) (w : MvWindow),
    (s.core (coreOfRt r)).wins.filter (fun w => w.rt == r.val && overBudget (stTick s) w) = [w] →
    exec (.mvOverbudget r) s = .next (coreHit (modWin s (coreOfRt r) r w.k (fun v => { v with overdue := true }))
      (coreOfRt r) mOverBudget))
  ∧ (∀ (s : State) (r : Fin 384), (s.core (coreOfRt r)).wins.filter (fun w => w.rt == r.val && overBudget (stTick s) w) = [] →
    exec (.mvOverbudget r) s = .next s)

/-- R157 to R161, R165: control and scalar instructions: NOP, WAIT with all lanes, JMP, BRZ and DJNZ with their
cycles, RPT, the address, modifier, ring and stride registers, PGE and PRST on the lane predicate. R161, R170: a
core runs the instruction at its program address only when it is in RUNNING in an ACTIVE tile, no WAIT holds it
and its cycle has come; a command of another instruction does nothing, and an unreadable program word is the
fault of R170, whichever instruction is asked for. A repeated instruction leaves the address until its last
repetition. -/
def Obligations.MarverScalars : Prop :=
  (∀ (s : State) (c : Fin 24) (w : Nat), fetches s c w = true → iOp w = 0x00 →
    exec (.mvNop c) s = .next (s.modCore c (fun x => stepped s x 1)))
  ∧ (∀ (s : State) (c : Fin 24) (w : Nat), fetches s c w = true → iOp w = 0x01 →
    exec (.mvWait c) s = .next (s.modCore c (fun x => { stepped s x 1 with wait := true, lp := 255, mask := 255 })))
  ∧ (∀ (s : State) (c : Fin 24) (w : Nat), fetches s c w = true → iOp w = 0x02 →
    exec (.mvJmp c) s = .next (s.modCore c (fun x => { stepped s x 2 with pc := iImm w 14 })))
  ∧ (∀ (s : State) (c : Fin 24) (w : Nat), fetches s c w = true → iOp w = 0x03 → tget 0 (s.core c).a (iXa w) = 0 →
    exec (.mvBrz c) s = .next (s.modCore c (fun x => { stepped s x 2 with pc := iImm w 14 })))
  ∧ (∀ (s : State) (c : Fin 24) (w : Nat), fetches s c w = true → iOp w = 0x03 → tget 0 (s.core c).a (iXa w) ≠ 0 →
    exec (.mvBrz c) s = .next (s.modCore c (fun x => stepped s x 1)))
  ∧ (∀ (s : State) (c : Fin 24) (w : Nat), fetches s c w = true → iOp w = 0x04 →
    (tget 0 (s.core c).a (iXa w) + 65535) % 65536 ≠ 0 →
    exec (.mvDjnz c) s = .next (s.modCore c (fun x => { stepped s x 2 with pc := iImm w 14, a := tset 0 x.a (iXa w) ((tget 0 x.a (iXa w) + 65535) % 65536) })))
  ∧ (∀ (s : State) (c : Fin 24) (w : Nat), fetches s c w = true → iOp w = 0x04 →
    (tget 0 (s.core c).a (iXa w) + 65535) % 65536 = 0 →
    exec (.mvDjnz c) s = .next (s.modCore c (fun x => { stepped s x 1 with a := tset 0 x.a (iXa w) 0 })))
  ∧ (∀ (s : State) (c : Fin 24) (w : Nat), fetches s c w = true → iOp w = 0x05 →
    exec (.mvRpt c) s = .next (s.modCore c (fun x => { stepped s x 1 with rpt := iImm w 16 })))
  ∧ (∀ (s : State) (c : Fin 24) (w : Nat), fetches s c w = true → iOp w = 0x06 →
    exec (.mvLda c) s = .next (s.modCore c (fun x => { stepped s x 1 with a := tset 0 x.a (iXa w) (iImm w 16) })))
  ∧ (∀ (s : State) (c : Fin 24) (w : Nat), fetches s c w = true → iOp w = 0x07 →
    exec (.mvLdm c) s = .next (s.modCore c (fun x => { stepped s x 1 with m := tset 0 x.m (iXm w) (iImm w 16) })))
  ∧ (∀ (s : State) (c : Fin 24) (w : Nat), fetches s c w = true → iOp w = 0x08 →
    exec (.mvAdda c) s = .next (s.modCore c (fun x => { stepped s x 1 with a := tset 0 x.a (iXa w) ((tget 0 x.a (iXa w) + iImm w 16) % 65536) })))
  ∧ (∀ (s : State) (c : Fin 24) (w : Nat), fetches s c w = true → iOp w = 0x09 →
    exec (.mvSetk c) s = .next (s.modCore c (fun x => { stepped s x 1 with k := tset 0 x.k (iXa w) (iImm w 4) })))
  ∧ (∀ (s : State) (c : Fin 24) (w : Nat), fetches s c w = true → iOp w = 0x0A →
    exec (.mvSetys c) s = .next (s.modCore c (fun x => { stepped s x 1 with ystride := iImm w 14 })))
  ∧ (∀ (s : State) (c : Fin 24) (w : Nat), fetches s c w = true → iOp w = 0x2A →
    exec (.mvPge c) s = .next (s.modCore c (fun x => { stepped s x 1 with lp :=
      (((activeLanes x).filter (fun l => decide ((vReg x l (iVa w)).1 ≥ (vReg x l (iVb w)).1))).map (fun l => 2 ^ l)).sum })))
  ∧ (∀ (s : State) (c : Fin 24) (w : Nat), fetches s c w = true → iOp w = 0x2B →
    exec (.mvPrst c) s = .next (s.modCore c (fun x => { stepped s x 1 with lp := x.mask })))
  ∧ (∀ (s : State) (c : Fin 24) (e : Nat × Instr), e ∈ marverInstrs c →
    ((coreRuns s c = false ∨ (s.core c).wait = true ∨ 2 * s.now + 1 < (s.core c).cycle) → exec e.2 s = .next s)
    ∧ (coreRuns s c = true → (s.core c).wait = false → (s.core c).cycle ≤ 2 * s.now + 1 →
      let a := progAddr c (s.core c).pc
      let m := maskOf s.mem a
      (badWord m = true → exec e.2 s = .next
        (coreFault (memEvents s (coreOwner s c).part (.tile (tileOfCore c)) (wordEvents a m)) c))
      ∧ (badWord m = false → iOp (delivered (tget 0 (s.core c).prog (s.core c).pc) m) ≠ e.1 → exec e.2 s = .next s)))
  ∧ (∀ (s : State) (c : Nat) (n : Nat), (s.core c).stop = false →
    (∀ r, (s.core c).rpt = r + 2 → retire s c n none = s.modCore c (fun x => { x with
      cycle := max x.cycle (2 * s.now) + n, rpt := r + 1 }))
    ∧ ((s.core c).rpt = 1 → retire s c n none = s.modCore c (fun x => { stepped s x n with rpt := 0 }))
    ∧ ((s.core c).rpt = 0 → retire s c n none = s.modCore c (fun x => stepped s x n)))

/-- R153 to R157, R162, R164: in every active lane, and in no other, VD takes the saturated value: IN the rounded
datum of the dispatch, which is free where none brought one (log 140), LDI one half, MOV a register, LDX and LDY a word
of memory with its post-modification, VADD, VSUB, VSHR, and MOVA the rounded accumulator; STX stores a register, clears the stored errors of its
bytes, and changes no other word. Model choices: logs 84, 140. -/
def Obligations.MarverVectors : Prop :=
  (∀ (s : State) (c : Fin 24) (w : Nat), fetches s c w = true →
    let x := s.core c
    (iOp w = 0x10 →
      let free (i : Nat) : Int := sgn 24 (enc 24 (Config.mvDatum c x.ins i))
      let d (l : Nat) : Int × Int := (tget none x.datum l).getD (free (2 * l), free (2 * l + 1))
      WritesV (.mvIn c) s c w (fun l => (convRound (d l).1 (iImm w 5), convRound (d l).2 (iImm w 5)))
        (fun x => { x with ins := x.ins + 1 }))
    ∧ (iOp w = 0x11 → WritesV (.mvLdi c) s c w (fun l =>
        let z := vReg x l (iVd w)
        if bit w 44 then (z.1, sgn 24 (iImm w 24)) else (sgn 24 (iImm w 24), z.2)))
    ∧ (iOp w = 0x12 → WritesV (.mvMov c) s c w (fun l => vReg x l (iVa w)))
    ∧ (iOp w = 0x13 → cleanReads s (xReads s c w) = true →
      WritesV (.mvLdx c) s c w (fun l => readX s c w l) (postX w))
    ∧ (iOp w = 0x14 → cleanReads s (yReads s c w) = true →
      WritesV (.mvLdy c) s c w (fun l => readY s c w l) (postY w))
    ∧ (iOp w = 0x16 → WritesV (.mvVadd c) s c w (fun l => addZ (vReg x l (iVa w)) (vReg x l (iVb w))))
    ∧ (iOp w = 0x17 → WritesV (.mvVsub c) s c w (fun l =>
        ((vReg x l (iVa w)).1 - (vReg x l (iVb w)).1, (vReg x l (iVa w)).2 - (vReg x l (iVb w)).2)))
    ∧ (iOp w = 0x18 → WritesV (.mvVshr c) s c w (fun l =>
        (convRound (vReg x l (iVa w)).1 (iImm w 5), convRound (vReg x l (iVa w)).2 (iImm w 5))))
    ∧ (iOp w = 0x26 → WritesV (.mvMova c) s c w (fun l =>
        (convRound (accReg x l (iAcc w)).1 (iImm w 6), convRound (accReg x l (iAcc w)).2 (iImm w 6)))))
  ∧ (∀ (s : State) (c : Fin 24) (w : Nat), fetches s c w = true → iOp w = 0x15 →
    let x := s.core c
    let i := xIndex x w
    ∃ t, exec (.mvStx c) s = .next t ∧ (∀ d, d ≠ c.val → t.core d = s.core d)
      ∧ (∀ l, l < 8 → bit x.lp l = true → tget 0 (t.core c).x (2048 * l + i) = packWord (vReg x l (iVa w))
          ∧ ∀ j, j < 8 → maskOf t.mem (xAddr c l i + j) = 0)
      ∧ (∀ a, (∀ l, l < 8 → bit x.lp l = true → a ≠ 2048 * l + i) → tget 0 (t.core c).x a = tget 0 x.x a)
      ∧ { t.core c with x := x.x } = postX w (stepped s x 1)
      ∧ { t with cores := s.cores, mem := { t.mem with errs := s.mem.errs } } = s)

/-- R155, R156, R162, R163: in every active lane CMUL, CMAC, CMACY and TAPM put the exact product, or its sum with
the accumulator, into ACC; CLRA clears one, CLRG the guard bits; CLS3 and STI set STATE and CONF.
Model choices: logs 85, 87. -/
def Obligations.MarverAccumulators : Prop :=
  (∀ (s : State) (c : Fin 24) (w : Nat), fetches s c w = true →
    let x := s.core c
    (iOp w = 0x20 → WritesAcc (.mvCmul c) s c w (fun l => cmul (iConj w) (vReg x l (iVa w)) (vReg x l (iVb w))))
    ∧ (iOp w = 0x21 → WritesAcc (.mvCmac c) s c w (fun l =>
        addZ (accReg x l (iAcc w)) (cmul (iConj w) (vReg x l (iVa w)) (vReg x l (iVb w)))))
    ∧ (iOp w = 0x22 → cleanReads s (yReads s c w) = true → WritesAcc (.mvCmacy c) s c w (fun l =>
        addZ (accReg x l (iAcc w)) (cmul (iConj w) (vReg x l (iVa w)) (readY s c w l))) (postY w)))
  ∧ (∀ (s : State) (c : Fin 24) (w : Nat), fetches s c w = true → iOp w = 0x23 →
    cleanReads s (xReads s c w ++ yReads s c w) = true →
    let x := s.core c
    let lim : Int := 2 ^ 55
    ∃ t, exec (.mvTapm c) s = .next t ∧ (∀ d, d ≠ c.val → t.core d = s.core d)
      ∧ (∀ l, l < 8 → bit x.lp l = true →
          let z := addZ (accReg x l (iAcc w)) (cmul (iConj w) (readX s c w l) (readY s c w l))
          (tget false x.hold (4 * l + iAcc w) = false →
            accReg (t.core c) l (iAcc w) = (clip (-lim) (lim - 1) z.1, clip (-lim) (lim - 1) z.2))
          ∧ tget 0 (t.core c).x (2048 * l + nextX x w) = packWord (readX s c w l))
      ∧ (t.core c).v = x.v ∧ (t.core c).y = x.y ∧ (t.core c).a = (postY w (postX w x)).a
      ∧ (t.core c).pc = (x.pc + 1) % 16384)
  ∧ (∀ (s : State) (c : Fin 24) (w : Nat), fetches s c w = true → iOp w = 0x24 →
    ∃ t, exec (.mvClra c) s = .next t ∧ OnlyCore s t c
      ∧ (∀ l, l < 8 → bit (s.core c).lp l = true →
          accReg (t.core c) l (iAcc w) = (0, 0) ∧ tget false (t.core c).hold (4 * l + iAcc w) = false)
      ∧ { t.core c with acc := (s.core c).acc, hold := (s.core c).hold } = stepped s (s.core c) 1)
  ∧ (∀ (s : State) (c : Fin 24) (w : Nat), fetches s c w = true → iOp w = 0x25 →
    ∃ t, exec (.mvClrg c) s = .next t ∧ OnlyCore s t c
      ∧ (∀ l, l < 8 → bit (t.core c).govl l = (bit (s.core c).govl l && !bit (s.core c).lp l))
      ∧ (∀ l a, l < 8 → a < 4 → tget false (t.core c).hold (4 * l + a) =
          (tget false (s.core c).hold (4 * l + a) && !bit (s.core c).lp l))
      ∧ { t.core c with govl := (s.core c).govl, hold := (s.core c).hold } = stepped s (s.core c) 1)
  ∧ (∀ (s : State) (c : Fin 24) (w : Nat), fetches s c w = true → iOp w = 0x28 →
    let x := s.core c
    ∃ t, exec (.mvCls3 c) s = .next t ∧ OnlyCore s t c
      ∧ (∀ l, l < 8 → bit x.lp l = true →
          let d : Disc := { l3 := bit w 5, thA := (vReg x l (iVb w)).1, thB := (vReg x l (iVb w)).2, confShift := iImm w 5 }
          tget 0 (t.core c).stateL l = stateOf d (vReg x l (iVa w)).1
          ∧ tget 0 (t.core c).confL l = confOf d (vReg x l (iVa w)).1)
      ∧ (∀ l, l < 8 → bit x.lp l = false →
          tget 0 (t.core c).stateL l = tget 0 x.stateL l ∧ tget 0 (t.core c).confL l = tget 0 x.confL l)
      ∧ { t.core c with stateL := x.stateL, confL := x.confL } = stepped s x 1)
  ∧ (∀ (s : State) (c : Fin 24) (w : Nat), fetches s c w = true → iOp w = 0x29 →
    let x := s.core c
    ∃ t, exec (.mvSti c) s = .next t ∧ OnlyCore s t c
      ∧ (∀ l, l < 8 → bit x.lp l = true →
          tget 0 (t.core c).stateL l = iImm w 2 ∧ tget 0 (t.core c).confL l = fld w 2 8)
      ∧ (∀ l, l < 8 → bit x.lp l = false →
          tget 0 (t.core c).stateL l = tget 0 x.stateL l ∧ tget 0 (t.core c).confL l = tget 0 x.confL l)
      ∧ { t.core c with stateL := x.stateL, confL := x.confL } = stepped s x 1)

/-- R166, R167: in every active lane PUB writes the decision of its current window, once: a second one sets PUBDUP,
one without a window NOWIN, and a window that lost an event publishes nothing; REC builds the record of its window as it stands, clears SATL and FFL of the lane,
and hands it on two ticks later. Model choices: log 84. -/
def Obligations.MarverOutputs : Prop :=
  (∀ (s : State) (c : Fin 24) (w : Nat), fetches s c w = true →
    (iOp w = 0x30 → exec (.mvPub c) s = .next ((inLanes s c (pubLane c)).modCore c (fun x => stepped s x 1)))
    ∧ (iOp w = 0x31 → exec (.mvRec c) s = .next ((inLanes s c (recLane c w)).modCore c (fun x => stepped s x 1))))
  ∧ (∀ (s : State) (c l : Nat), curWin (s.core c) l = none →
    pubLane c s l = s.modCore c (fun x => { x with flags := hit s.now x.flags mNoWin })
    ∧ ∀ w, recLane c w s l = s.modCore c (fun x => { x with flags := hit s.now x.flags mNoWin }))
  ∧ (∀ (s : State) (c l : Nat) (v : MvWindow), curWin (s.core c) l = some v →
    (v.lost = true → pubLane c s l = s)
    ∧ (v.lost = false → v.pub.isSome = true → pubLane c s l = s.modCore c (fun x => { x with flags := hit s.now x.flags mPubDup }))
    ∧ (v.lost = false → v.pub = none → wDest v.prof ≠ 2 → mvDbEn v.cfg = false → mvEvtMask v.cfg = 0 →
      pubLane c s l = modWin s c v.rt v.k (fun u => { u with
        pub := some (stTick s + 1, tget 0 (s.core c).stateL l), early := none }))
    ∧ (mvRecEn v.cfg = false → ∀ w, recLane c w s l = s)
    ∧ (mvRecEn v.cfg = true → ∀ w,
      let q := reserve s (mvSpool v.cfg) (some (tileOfCore c)) rowMarver v.rt
      recLane c w s l = q.1.modCore c (fun x => { x with
        satl := clrBit x.satl l, ffl := clrBit x.ffl l
        records := x.records ++ [{ tick := s.now + 2, rt := v.rt, spool := mvSpool v.cfg, resv := q.2
                                   image := mvRecordImage s (s.core c) l w v }] })))

/-- R206 to R210, R203: BIAS_GROUP_CFG, BIAS_CFG and BIAS_CTL take effect at the first update instant not before
APPLY_AT, BIAS_NV writes the power-up record where the MRAM write verifies, and BIAS_STATUS reports and clears.
RUN fails while the channel ramps or ranges or a cause holds it, CLAMP likewise, and TEST unless the channel
rests at code 0 in RUN. Model choices: logs 19, 78. -/
def Obligations.BiasCommands : Prop :=
  (Serves .biasGroupCfg { op := 0x0610 }
    (fun k s =>
      let t := fld k.blk 0 4
      let ap := fld k.blk 64 64
      ([(decide (t ≥ 12) || decide (fld k.blk 32 16 < 32) || fld k.blk 4 28 != 0 || fld k.blk 48 16 != 0, .badParam),
        ((List.range 32).any (fun i => !mayChange k.who (bcOwner s (32 * t + i))), .partDenied)]
        ++ timeFail ap k.accept))
    (fun k s =>
      let t := fld k.blk 0 4
      let ap := fld k.blk 64 64
      let at_ := slowCeil (applyAt ap k.accept)
      (let st := storeImage s 0x0610 0x26 t 16 (t + 32 * 2 ^ 32) (k.blk % 2 ^ 64)
       scheduled (stage st.1 { kind := .biasGroup, obj := t, blk := k.blk, at_ := at_, func := k.func }) at_ [st.2])) :)
  ∧ (Serves .biasCfg { op := 0x0611 }
    (fun k s =>
      let b := k.blk
      let t := fld b 0 16
      let n := bcOfTid t
      let q := fld b 64 16
      let ap := fld b 128 64
      let o := bcOwner s n
      let ch := tileCand (tidTile t) (112 + tidIndex t) (fld b 22 3)
      let x := s.bc n
      ([(!tidOk t, .badTid),
        (tidKind t != 3 || !rsvOk b bcfgRsv || fld b 88 20 == 0, .badParam),
        (!mayChange k.who o || (bit b 21 && !routeOk s o ch), .partDenied),
        (q != 0 && !queueOk s q, .badParam), (q != 0 && (s.spool q).owner != o.part, .partDenied)]
        ++ timeFail ap k.accept
        ++ [((bit b 18 || bit b 19) && (x.state == .ranging || x.state == .test || x.state == .safe || x.state == .held),
             .busy), (isStaged s .biasCfg n, .busy)]))
    (fun k s =>
      let b := k.blk
      let t := fld b 0 16
      let n := bcOfTid t
      let ap := fld b 128 64
      let at_ := slowCeil (applyAt ap k.accept)
      (let img := b % 2 ^ 128 - (b2n (bit b 18)) * 2 ^ 18 - (b2n (bit b 19)) * 2 ^ 19 - fld b 32 20 * 2 ^ 32
       let st := storeImage s 0x0611 4 t 32 (t + 100 * 2 ^ 80 + 1000 * 2 ^ 88) img
       scheduled (stage st.1 { kind := .biasCfg, obj := n, blk := b, at_ := at_, func := k.func }) at_ [st.2])) :)
  ∧ (Serves .biasRun { op := 0x0612 }
    (fun k s =>
      let t := fld k.blk 0 16
      let n := bcOfTid t
      let ap := fld k.blk 64 64
      [(!tidOk t, .badTid), (tidKind t != 3 || fld k.blk 16 2 != 0 || fld k.blk 18 46 != 0, .badParam),
        (!mayChange k.who (bcOwner s n), .partDenied)] ++ timeFail ap k.accept
        ++ [(ctlBusy s (s.bc n) 0, .busy)])
    (fun k s =>
      let at_ := slowCeil (applyAt (fld k.blk 64 64) k.accept)
      scheduled (stage s { kind := .biasCtl, obj := bcOfTid (fld k.blk 0 16), blk := k.blk, at_ := at_, func := k.func })
        at_ []) :)
  ∧ (Serves .biasTest { op := 0x0612 }
    (fun k s =>
      let t := fld k.blk 0 16
      let n := bcOfTid t
      let ap := fld k.blk 64 64
      [(!tidOk t, .badTid), (tidKind t != 3 || fld k.blk 16 2 != 1 || fld k.blk 18 46 != 0, .badParam),
        (!mayChange k.who (bcOwner s n), .partDenied)] ++ timeFail ap k.accept
        ++ [(ctlBusy s (s.bc n) 1, .busy)])
    (fun k s =>
      let at_ := slowCeil (applyAt (fld k.blk 64 64) k.accept)
      scheduled (stage s { kind := .biasCtl, obj := bcOfTid (fld k.blk 0 16), blk := k.blk, at_ := at_, func := k.func })
        at_ []) :)
  ∧ (Serves .biasClamp { op := 0x0612 }
    (fun k s =>
      let t := fld k.blk 0 16
      let n := bcOfTid t
      let ap := fld k.blk 64 64
      [(!tidOk t, .badTid), (tidKind t != 3 || fld k.blk 16 2 != 2 || fld k.blk 18 46 != 0, .badParam),
        (!mayChange k.who (bcOwner s n), .partDenied)] ++ timeFail ap k.accept
        ++ [(ctlBusy s (s.bc n) 2, .busy)])
    (fun k s =>
      let at_ := slowCeil (applyAt (fld k.blk 64 64) k.accept)
      scheduled (stage s { kind := .biasCtl, obj := bcOfTid (fld k.blk 0 16), blk := k.blk, at_ := at_, func := k.func })
        at_ []) :)
  ∧ (CompletesNv .biasNv { op := 0x0613 }
    (fun k s => tidOk (fld k.blk 0 16) && tidKind (fld k.blk 0 16) == 3
      && rsvOk k.blk [(18, 14), (52, 12), (84, 12), (116, 12)] && fld k.blk 96 20 != 0
      && mayChange k.who (bcOwner s (bcOfTid (fld k.blk 0 16))) && !nvInhibit s)
    (fun k s =>
      let b := k.blk
      let t := fld b 0 16
      let st := storeImage s 0x0613 4 t 16 (t + 1000 * 2 ^ 96) (b % 2 ^ 128)
      done (st.1.modBc (bcOfTid t) (fun x => { x with
        puRange := fld b 16 2, puCode := sgn 20 (fld b 32 20), safeCode := sgn 20 (fld b 64 20), nvSlew := fld b 96 20 }))
        [st.2]) :)
  ∧ (Serves .biasStatus { op := 0x0614 }
    (fun k s =>
      let t := fld k.blk 0 16
      let n := bcOfTid t
      [(!tidOk t, .badTid), (tidKind t != 3 || statusReqBad k 16 256 biasMap, .badParam),
       (k.func != 0 && (bcOwner s n).part != k.who.part, .partDenied)])
    (fun k s =>
      let t := fld k.blk 0 16
      let n := bcOfTid t
      (report (if k.clear then s.modBc n (fun x => { x with flags := clearFlags s.now biasMap k.blk x.flags }) else s)
        (leBytes 32 (biasImage s n)))) :)

/-- R199 to R201: at a slow-tick boundary, once its move tick has come, the limiter moves the accumulator toward the
target by at most the rate, and never past it; a code presented while the deglitcher waits reaches the output 72
ticks later, 3 DG_WIN later still after a change of its bits 19 to 14; between boundaries nothing moves.
Model choices: log 28. -/
def Obligations.BiasLimiter : Prop :=
  (∀ (s : State) (b : Fin 384), slowNow s = true →
    ∃ t, exec (.biasSlewStep b) s = .next t ∧ t.bc b = slewStep s.now (s.bc b)
      ∧ (∀ d, d ≠ b.val → t.bc d = s.bc d) ∧ { t with bias := s.bias } = s)
  ∧ (∀ (s : State) (b : Fin 384), slowNow s = false → exec (.biasSlewStep b) s = .next s)
  ∧ (∀ (now : Nat) (x : Bias),
    let y := moveA now x
    (y.target = x.target ∧ y.state = x.state ∧ y.range = x.range)
    ∧ (0 ≤ rateOf x → x.accum ≤ x.target * 256 → x.accum ≤ y.accum ∧ y.accum ≤ x.target * 256
        ∧ y.accum ≤ x.accum + rateOf x)
    ∧ (0 ≤ rateOf x → x.target * 256 ≤ x.accum → y.accum ≤ x.accum ∧ x.target * 256 ≤ y.accum
        ∧ x.accum - rateOf x ≤ y.accum)
    ∧ (x.accum ≠ x.target * 256 → y.present = convRound y.accum 8))
  ∧ (∀ (now : Nat) (x : Bias) (c : Int), c ≠ x.present →
    (x.dgWin = 0 ∨ majorBits c = majorBits x.present →
      (presentCode now x c).path = x.path ++ [(now + 72, c)] ∧ (presentCode now x c).holdEnd = x.holdEnd)
    ∧ (x.dgWin ≠ 0 → majorBits c ≠ majorBits x.present →
      (presentCode now x c).path = x.path ++ [(now + 72 + 3 * x.dgWin, c)]
      ∧ (presentCode now x c).holdEnd = some (now + 72 + 3 * x.dgWin)))
  ∧ (∀ (s : State) (b : Fin 384) (t : Nat), (s.bc b).holdEnd = some t →
    (t ≤ s.now → exec (.deglitchHoldEnd b) s = .next (s.modBc b (fun x => { settle s.now x with holdEnd := none })))
    ∧ (s.now < t → exec (.deglitchHoldEnd b) s = .next s))
  ∧ (∀ (s : State) (b : Fin 384), (s.bc b).holdEnd = none → exec (.deglitchHoldEnd b) s = .next s)
  ∧ (∀ (s : State) (b : Fin 384) (t : Nat), (s.bc b).clampAt = some t →
    (t ≤ s.now → (∀ r c, (s.bc b).ranging = some (r, c, none) →
      exec (.biasClampEngage b) s = .next (s.modBc b (fun x => { shunt x with
        range := r, ranging := some (r, c, some (s.now + 1563 * 24)) })))
     ∧ ((s.bc b).ranging = none → exec (.biasClampEngage b) s = .next (s.modBc b (fun x => { shunt x with
        state := .clamped, ranging := none, pullUp := false, pullDown := false }))))
    ∧ (s.now < t → exec (.biasClampEngage b) s = .next s))
  ∧ (∀ (s : State) (b : Fin 384), (s.bc b).clampAt = none → exec (.biasClampEngage b) s = .next s)
  ∧ (∀ (s : State) (b : Fin 384) (r t : Nat) (c : Option Int), (s.bc b).ranging = some (r, c, some t) →
    (t ≤ s.now → exec (.rangeClampRelease b) s = .next (s.modBc b (fun x => { x with
      ranging := none, target := c.getD 0, accum := 0, present := 0 })))
    ∧ (s.now < t → exec (.rangeClampRelease b) s = .next s))

/-- R190, R194 to R198: at an update instant a channel in RUN counts REPCNT down or takes the entry of its queue
whose NOT_BEFORE has come, in triggered mode one for each step event; elsewhere nothing is taken. A push lays
the preset and NOT_BEFORE 1,536 samples later into the queue, or is dropped with BQOVF. A load beyond the limits
sets COMPLY or ILIM. Model choices: logs 28, 76, 77. -/
def Obligations.BiasQueues : Prop :=
  (∀ (s : State) (b : Fin 384), slowNow s = true → s.st / slowSamples % groupN s (bcTile b) = 0 →
    (s.bc b).updated ≠ s.now + 1 →
    let u := s.modBc b (fun x => joinSteps s.now { x with updated := s.now + 1 })
    ((s.bc b).state = .run → (s.bc b).clamping = false → (s.bc b).repcnt = 0 →
      exec (.biasUpdate b) s = .next (takeQueue u b))
    ∧ ((s.bc b).state = .run → (s.bc b).clamping = false → 0 < (s.bc b).repcnt →
      exec (.biasUpdate b) s = .next (u.modBc b (fun x => { x with repcnt := x.repcnt - 1 })))
    ∧ ((s.bc b).state ≠ .run ∨ (s.bc b).clamping = true → exec (.biasUpdate b) s = .next u))
  ∧ (∀ (s : State) (b : Fin 384), (slowNow s = false ∨ s.st / slowSamples % groupN s (bcTile b) ≠ 0
      ∨ (s.bc b).updated = s.now + 1) → exec (.biasUpdate b) s = .next s)
  ∧ (∀ (s : State) (b : Nat), (s.bc b).qspool ≠ 0 → (s.bc b).trig = false →
    let u := readDesc s (s.bc b).qspool
    let q := u.spool (s.bc b).qspool
    let e := ringRead u q q.ci
    let v := leNat e.1
    (spoolLive q = true → queueVisible q = true → fld v 64 64 ≤ s.st → e.2.1 = false → rsvOk v queueRsv = true →
      takeQueue s b = (consume (memEvents u q.owner .spool e.2.2) (s.bc b).qspool).modBc b (fun x => { x with
        target := sgn 20 (fld v 0 20), repcnt := fld v 32 16
        flags := hitIf s.now (fld v 64 64 != 0 && decide (fld v 64 64 + 768 * groupN
          (consume (memEvents u q.owner .spool e.2.2) (s.bc b).qspool) (bcTile b) ≤ s.st)) x.flags bBqLate }))
    ∧ (spoolLive q = false ∨ queueVisible q = false ∨ s.st < fld v 64 64 → takeQueue s b = u))
  ∧ (∀ (s : State) (b : Fin 384) (e : Emission), dueOps s (tidOfBc b) 7 = [e] →
    let u := dropOps s (tidOfBc b) 7
    let q := s.spool (s.bc b).qspool
    let en := leBytes 16 (pack [(enc 20 (tget 0 (s.bc b).presets (e.param % 64)), 20), (0, 4), (1, 1), (0, 39),
      (s.st + 1536, 64)])
    ((s.bc b).qspool ≠ 0 → q.resize.isSome = true ∨ canPut u q = true →
      exec (.emitBias b) s = .next (produce u (s.bc b).qspool 0 false none en))
    ∧ ((s.bc b).qspool ≠ 0 → q.valid = true → q.resize = none → canPut u q = false →
      exec (.emitBias b) s = .next (bcHit (dropEntry u (s.bc b).qspool) b bBqOvf))
    ∧ ((s.bc b).qspool = 0 → exec (.emitBias b) s = .next u))
  ∧ (∀ (s : State) (b : Fin 384), exec (.biasCompliance b) s = .next
    (s.modBc b (fun x => { x with flags := hit s.now x.flags (if (s.bc b).range = 3 then bIlim else bComply) })))

/-- R286 to R289, R307 to R309: SPOOL_CREATE, the three modes of SPOOL_RESIZE, SPOOL_DELETE and SPOOL_STATUS with
their checks, in order; a create takes the lowest free pages for an on-chip ring (log 17), an empty resize
applies at once, DRAIN waits for the ring to empty, DISCARD empties it and counts what it discards. -/
def Obligations.SpoolCommands : Prop :=
  (Serves .spoolCreate { op := 0x0A01 }
    (fun k s =>
      let n := fld k.blk 0 16
      let d := fld k.blk 64 256
      let p := spoolOf d k.who.part (fld d 0 64)
      let bytes := entryBytes p * ringSize p
      let page := findPages s (pagesOf bytes)
      let limit := match fnOfPart s k.who.part with | some f => vectorCount f | none => 0
      ([(decide (n < 256), .partDenied), ((s.spool n).valid, .busy),
        (fld k.blk 16 48 != 0 || !rsvOk d createRsv || p.target == 3 || decide (p.log2n < 4) || decide (p.log2n > 24)
          || decide (p.esize > 4) || !esizeOk p.cls p.esize, .badParam),
        (p.order && p.cls != 1 && p.cls != 2, .badParam), ((p.kick || p.engine != 0) && p.cls != 0, .badParam),
        (p.kick && (kickedSpool s p.engine).isSome, .busy), (p.irqEn && decide (p.vector ≥ limit), .badParam)]
        ++ (placeFail s k.who p.target p.base bytes) ++
       [(p.hookEn && (ownerOf s oHook p.hook).part != k.who.part, .partDenied),
        (p.target == 2 && page.isNone, .noSpace),
        (p.notify == 2 && (p.thresh == 0 || decide (p.thresh > ringSize p)), .badParam)]))
    (fun k s =>
      let n := fld k.blk 0 16
      let d := fld k.blk 64 256
      let p := spoolOf d k.who.part (fld d 0 64)
      let bytes := entryBytes p * ringSize p
      let page := findPages s (pagesOf bytes)
      let base := if p.target = 2 then ringBase + 4096 * page.getD 0 else p.base
      let st := storeImage s 0x0A01 oSpool n 40 n (k.blk % 2 ^ 320)
      { status := .ok, items := [st.2], out := leBytes 8 base
        next := rewriteDesc { st.1 with spools := tset {} st.1.spools n { p with base := base, flags := (st.1.spool n).flags } } n }) :)
  ∧ (Serves .spoolResizeEmpty { op := 0x0A02 }
    (fun k s =>
      let n := fld k.blk 0 16
      let p := s.spool n
      (resizeChecks k s 0 ++ [(occupancy p != 0 || p.resv.any (fun r => r.entry.isSome) || !p.held.isEmpty, .busy)]))
    (fun k s =>
      let n := fld k.blk 0 16
      let p := s.spool n
      let g := resizeTo s p k.blk
      let st := resizeImage s k
      (done (applyGeometry st.1 n g.1 (g.2.1.getD 0) g.2.2) [st.2])) :)
  ∧ (Serves .spoolResizeDrain { op := 0x0A02 }
    (fun k s => (resizeChecks k s 1))
    (fun k s =>
      let n := fld k.blk 0 16
      let p := s.spool n
      let g := resizeTo s p k.blk
      (waiting (s.modSpool n (fun q => { q with
        resize := some { log2n := g.2.2, target := g.1, base := g.2.1.getD 0, func := k.func, tag := k.tag
                         deadline := s.now + oneSecond / 32 } })))) :)
  ∧ (Serves .spoolResizeDiscard { op := 0x0A02 }
    (fun k s => (resizeChecks k s 2))
    (fun k s =>
      let n := fld k.blk 0 16
      let p := s.spool n
      let g := resizeTo s p k.blk
      let count := occupancy p + p.held.length + windowed p
      let st := resizeImage s k
      { status := .ok, items := [st.2], out := leBytes 4 count
        next := dropEntry (discardEntries (applyGeometry st.1 n g.1 (g.2.1.getD 0) g.2.2) n) n }) :)
  ∧ (Completes .spoolDelete { op := 0x0A03 }
    (fun k s =>
      let n := fld k.blk 0 16
      let s := readDesc s n
      let p := s.spool n
      fld k.blk 16 48 == 0 && decide (256 ≤ n) && p.valid && mayChange k.who { part := p.owner, secure := p.secure }
        && !(s.blocksName n || dmaNames s n || p.resize.isSome))
    (fun k s =>
      let n := fld k.blk 0 16
      let st := storeImage (readDesc s n) 0x0A01 oSpool n 40 n n
      done { st.1 with spools := tset {} st.1.spools n { flags := ((readDesc s n).spool n).flags } } [st.2]) :)
  ∧ (Serves .spoolStatus { op := 0x0A04 }
    (fun k s =>
      let n := fld k.blk 0 16
      [(statusReqBad k 16 256 spoolMap, .badParam), (k.func != 0 && (s.spool n).owner != k.who.part, .partDenied)])
    (fun k s =>
      let n := fld k.blk 0 16
      (report (if k.clear then s.modSpool n (fun p => { p with flags := clearFlags s.now spoolMap k.blk p.flags }) else s)
        (leBytes 32 (spoolImage s n)))) :)

/-- R290, R293, R297, R307: a producer whose Spool has a free slot writes its entry at PI and moves PI on by one,
with the notification; a full Spool drops the entry with OVERFLOW unless the producer waits; a waiting producer
writes once a slot is free, and a DMA engine that waited then ends its descriptor; a drain ends when its ring is empty, with the held entries in the new ring, or fails
after 1 s with BUSY. Model choices: log 67. -/
def Obligations.SpoolMovement : Prop :=
  (∀ (s : State) (n : Fin 65536) (p : Nat) (w : Bool) (e : List Byte), (s.spool n).valid = true →
    (s.spool n).cls ≠ 0 → (s.spool n).cls ≠ 3 → (s.spool n).order = false →
    exec (.spoolAppend n p w e) s = .next (appendEntry s n p w e))
  ∧ (∀ (s : State) (n : Fin 65536) (p : Nat) (w : Bool) (e : List Byte),
    ((s.spool n).valid = false ∨ (s.spool n).cls = 0 ∨ (s.spool n).cls = 3) → exec (.spoolAppend n p w e) s = .next s)
  ∧ (∀ (s : State) (n p : Nat) (w : Bool) (e : List Byte), readDesc s n = s → spoolLive (s.spool n) = true →
    (s.spool n).resize = none → (s.spool n).waiting = [] →
    (canPut s (s.spool n) = true → appendEntry s n p w e = putRecorded s n e)
    ∧ (canPut s (s.spool n) = false → w = false → appendEntry s n p w e = dropEntry s n)
    ∧ (canPut s (s.spool n) = false → w = true → (s.spool n).full = true → ringReady s (s.spool n) = true →
      appendEntry s n p w e = s.modSpool n (fun q => { q with waiting := [(p, e)] })))
  ∧ (∀ (s : State) (n : Nat) (e : List Byte), (s.spool n).target = 2 → (s.spool n).notify = 0 →
    let p := s.spool n
    let a := slotAddr p p.pi - ringBase
    ∃ t, putEntryE s n e = (t, []) ∧ (t.spool n).pi = (p.pi + 1) % 2 ^ 25 ∧ (t.spool n).ci = p.ci
      ∧ readBytes t.ringMem a (entryBytes p) = fitEntry p e
      ∧ (∀ x, x < a ∨ a + entryBytes p ≤ x → tget 0 t.ringMem x = tget 0 s.ringMem x)
      ∧ (∀ m, m ≠ n → t.spool m = s.spool m))
  ∧ (∀ (s : State) (n : Nat), occupancy (s.spool n) = 0 ∨ spoolLive (s.spool n) = false → consume s n = s)
  ∧ (∀ (s : State) (n : Nat), (s.spool n).notify = 0 → occupancy (s.spool n) ≠ 0 → spoolLive (s.spool n) = true →
    let t := consume s n
    (t.spool n).ci = ((s.spool n).ci + 1) % 2 ^ 25 ∧ (t.spool n).pi = (s.spool n).pi
      ∧ t.ringMem = s.ringMem ∧ ∀ m, m ≠ n → t.spool m = s.spool m)
  ∧ (∀ (s : State) (n : Fin 65536), (s.spool n).resv = [] → exec (.tagOrderRelease n) s = .next s)
  ∧ (∀ (s : State) (n : Fin 65536) (r : Resv) (e : List Byte), (s.spool n).resize = none → spoolLive (s.spool n) = true →
    (s.spool n).resv = [r] → r.cancelled = false → r.entry = some e → readDesc s n = s →
    let u := s.modSpool n (fun q => { q with resv := [] })
    (canPut u (u.spool n) = true → (s.spool n).target ≠ 1 → exec (.tagOrderRelease n) s = .next (putRecorded u n e))
    ∧ (canPut u (u.spool n) = false → exec (.tagOrderRelease n) s = .next (dropEntry u n)))
  ∧ (∀ (s : State) (n : Fin 65536) (p : Nat) (e : List Byte) (l : List (Nat × List Byte)),
    (s.spool n).waiting = (p, e) :: l → readDesc s n = s →
    let u := s.modSpool n (fun q => { q with waiting := l })
    (canPut s (s.spool n) = true → (s.spool n).resize = none →
      ((s.dmaEngine p).run = none → exec (.waitProducerResume n) s = .next (putRecorded u n e))
      ∧ (∀ r, ((putRecorded u n e).dmaEngine p).run = some r → engineWaits (putRecorded u n e) n p = true →
        exec (.waitProducerResume n) s = .next (dmaFinish (putRecorded u n e) p r)))
    ∧ ((s.spool n).fault = true → (s.dmaEngine p).run = none → exec (.waitProducerResume n) s = .next (dropEntry u n))
    ∧ ((s.spool n).fault = false → canPut s (s.spool n) = false → exec (.waitProducerResume n) s = .next s))
  ∧ (∀ (s : State) (n : Fin 65536), (s.spool n).waiting = [] →
    exec (.waitProducerResume n) s = .next (readDesc s n))
  ∧ (∀ (s : State) (n : Fin 65536) (r : Resize), (s.spool n).resize = some r →
    let st := storeImage s 0x0A02 oSpool n 32 n n
    (occupancy (s.spool n) = 0 → exec (.spoolDrainDone n) s = .next
      (answer (appendHeld (applyGeometry st.1 n r.target r.base r.log2n) n) r.func r.tag .ok 0 [] [st.2]))
    ∧ (occupancy (s.spool n) ≠ 0 → exec (.spoolDrainDone n) s = .next s)
    ∧ (occupancy (s.spool n) ≠ 0 → r.deadline ≤ s.now → exec (.spoolDrainTimeout n) s = .next
      (answer (appendHeld (s.modSpool n (fun q => { q with resize := none })) n) r.func r.tag .busy 0 [] []))
    ∧ (s.now < r.deadline → exec (.spoolDrainTimeout n) s = .next s))

/-- R299 to R303: an idle engine takes the descriptor of the next ready Spool, ascending after the last, with the
checks of R301 in order; an engine that runs starts nothing. At its end the data have moved, the record is
handed on unless the descriptor names no Spool that takes it, the line asserts, and CI moves on; a descriptor
that a check refuses moves nothing; a read without an answer holds the engine. A COPY between internal ranges writes at the destination what it read at the
source. Model choices: log 68. -/
def Obligations.DmaTransfers : Prop :=
  (∀ (s : State) (e : Fin 32) (f : Option (BitVec 256)), (s.dmaEngine e).run.isSome = true →
    exec (.dmaStart e f) s = .next s)
  ∧ (∀ (s : State) (e : Fin 32) (f : Option (BitVec 256)) (n : Nat), (s.dmaEngine e).run = none →
    s.spools.map (fun x => x.1) = [n] → dmaReady s e n = true → readDesc s n = s →
    let p := s.spool n
    let r := ringRead s p p.ci
    let start (u : State) (d : Option Nat) (lost : Status) : State :=
      let v := d.getD 0
      let st := match d with | some v => (dmaFail u (spoolWho p) v).getD .ok | none => lost
      let record := mCplEn v && cplOk u (mCpl v) && mayChange (spoolWho p) (spoolWho (u.spool (mCpl v)))
      let q := if record then reserve u (mCpl v) none rowDma e else (u, .arrival)
      q.1.modDma e (fun x => { x with
        last := n, credits := if p.kick then x.credits.drop 1 else x.credits
        run := some { spool := n, desc := v, status := st, resv := q.2, noRecord := !record
                      hop := if p.kick then x.credits.headD 0 else 0 } })
    (p.target ≠ 0 → exec (.dmaStart e f) s = .next (start (memEvents s p.owner .dma r.2.2)
      (if r.2.1 then none else some (leNat r.1)) .poisoned))
    ∧ (p.target = 0 → exec (.dmaStart e f) s = .next (start
      (hostFetch s ((fnOfPart s p.owner).getD 0) (slotAddr p p.ci) 32) (f.map (fun v => v.toNat)) .hostErr)))
  ∧ (∀ (s : State) (e : Fin 32) (f : Option (BitVec 256)), (s.dmaEngine e).run = none →
    (∀ n, dmaReady s e n = false) → exec (.dmaStart e f) s = .next s)
  ∧ (∀ (s : State) (e : Fin 32) (h : HostReply), (s.dmaEngine e).run = none → exec (.dmaComplete e h) s = .next s)
  ∧ (∀ (s : State) (e : Fin 32) (h : HostReply) (r : DmaRun), (s.dmaEngine e).run = some r →
    let m : Moved := if r.status = .ok then transfer s (spoolWho (s.spool r.spool)) r.desc .dma h else ⟨s, r.status, 0⟩
    let u := handOn m.next (mCpl r.desc) e true r.resv (cplRecord e s.st r m)
    let waits := decide ((m.next.spool (mCpl r.desc)).waiting.length < (u.spool (mCpl r.desc)).waiting.length)
    (r.waits = true ∨ stalls s r h = true → exec (.dmaComplete e h) s = .next s)
    ∧ (r.waits = false → stalls s r h = false → r.noRecord = true →
      exec (.dmaComplete e h) s = .next (dmaFinish m.next e r))
    ∧ (r.waits = false → stalls s r h = false → r.noRecord = false → waits = false →
      exec (.dmaComplete e h) s = .next (dmaFinish u e r))
    ∧ (r.waits = false → stalls s r h = false → r.noRecord = false → waits = true →
      exec (.dmaComplete e h) s = .next (u.modDma e (fun x => { x with run := some { r with waits := true } }))))
  ∧ (∀ (s : State) (e : Fin 32) (r : DmaRun),
    let u := s.modDma e (fun x => { x with run := none })
    let v := if mHook r.desc then assertAt u (.dmaDone e) u.now (r.hop + 1) else u
    dmaFinish s e r = if r.gone then v else consume v r.spool)
  ∧ (∀ (s : State) (who : Owner) (d : Nat) (src : Stop) (h : HostReply), mOp d = 1 → mSrcHost d = false →
    mDstHost d = false → asleep s (mEnds d) = false → s.mem.hdrs = [] →
    let r := internalRead s (mSrc d) (mBytes d)
    let u := memEvents r.1 who.part src r.2.2.2
    let w := internalWrite u (mDst d) r.2.1 r.2.2.1
    transfer s who d src h = ⟨memEvents w.1 who.part src w.2, if r.2.2.1.isEmpty then .ok else .poisoned, mLen d⟩)

/-- R407 to R410, R426 to R428: LINK_CFG, the actions of LINK_CTL and LINK_STATUS with their checks, in order.
Enabling a link starts its bring-up, disabling stops both directions; SLEEP asks for the countdown, WAKE trains
for 1,500 ticks out of light and 75,000 out of deep sleep; SPARE and UNSPARE ask the peer for a switch. R418,
R419, R424, R429, R430: WEAVE_ADMIT ROOT makes a device whose time is its own the root at once; MEMBER, where no
row of R419 fails, begins the exchanges and answers after them, else fails with the first row; LEAVE returns to
FREE with every ALIGNED direction UP; WEAVE_STATUS reports and clears. Model choices: logs 48, 50, 52, 78. -/
def Obligations.LinkAndWeaveCommands : Prop :=
  Serves .linkCfg { op := 0x0D01, pf0 := true }
    (fun c s =>
      let b := c.blk
      let k := fld b 0 2
      let en := bit b 2
      [(!rsvOk b linkCfgRsv || fld b 32 16 == 0, .badParam), (!en && isUplink s k, .busy),
       (bit b 3 && (s.link (k ^^^ 1)).spareEn, .busy)])
    (fun c s =>
      let b := c.blk
      let k := fld b 0 2
      let en := bit b 2
      let st := storeImage s 0x0D01 0x24 k 32 (linkCfgDefault k) (b % 2 ^ 80)
      let t := st.1.modLink k (fun x => { x with
        scr := if bit b 3 && !x.spareEn then tset 0 x.scr 4 (scramblerInit (plane k 4)) else x.scr
        en := en, spareEn := bit b 3, autoSpare := bit b 4, adapt := bit b 5, eyeMin := fld b 16 8
        laneErr := fld b 32 16, asym := sgn 16 (fld b 64 16) })
      (done (if !en then stopLink t k else if !(s.link k).en && s.time.refclk then startLink t k else t) [st.2]))
  ∧ Serves .linkRetrain { op := 0x0D02, pf0 := true }
    (fun c s =>
      let k := fld c.blk 0 2
      [(fld c.blk 2 3 != 0 || fld c.blk 7 121 != 0, .badParam), (!(s.link k).en || !s.time.refclk, .linkDown)])
    (fun c s =>
      let k := fld c.blk 0 2
      done (startLink s k) [])
  ∧ Serves .linkSleepLight { op := 0x0D02, pf0 := true }
    (fun c s =>
      let k := fld c.blk 0 2
      [(fld c.blk 2 3 != 1 || fld c.blk 7 121 != 0, .badParam), ((s.link k).tx != .up, .linkDown), (peerDepends s k || (s.link k).sleepReq.isSome, .busy)])
    (fun c s =>
      let k := fld c.blk 0 2
      done (s.modLink k (fun x => { x with sleepReq := some { deep := false, until_ := s.now + 256, count := none } })) [])
  ∧ Serves .linkSleepDeep { op := 0x0D02, pf0 := true }
    (fun c s =>
      let k := fld c.blk 0 2
      [(fld c.blk 2 3 != 2 || fld c.blk 7 121 != 0, .badParam), ((s.link k).tx != .up, .linkDown), (peerDepends s k || (s.link k).sleepReq.isSome, .busy)])
    (fun c s =>
      let k := fld c.blk 0 2
      done (s.modLink k (fun x => { x with sleepReq := some { deep := true, until_ := s.now + 256, count := none } })) [])
  ∧ Serves .linkWake { op := 0x0D02, pf0 := true }
    (fun c s =>
      let k := fld c.blk 0 2
      [(fld c.blk 2 3 != 3 || fld c.blk 7 121 != 0, .badParam), ((s.link k).tx != .sleepLight && (s.link k).tx != .sleepDeep, .busy)])
    (fun c s =>
      let k := fld c.blk 0 2
      done (setTx (s.modLink k (fun x => { x with wakeAt := s.now + (if (s.link k).tx = .sleepDeep then 75000 else 1500) })) k .wake) [])
  ∧ Serves .linkAdaptResume { op := 0x0D02, pf0 := true }
    (fun c _ =>
      [(fld c.blk 2 3 != 4 || fld c.blk 7 121 != 0, .badParam)])
    (fun c s =>
      let k := fld c.blk 0 2
      done ((List.range 5).foldl (fun s l => s.modLane k l (fun y => { y with frozen := false })) s) [])
  ∧ Serves .linkSpare { op := 0x0D02, pf0 := true }
    (fun c s =>
      let k := fld c.blk 0 2
      [(fld c.blk 2 3 != 5 || fld c.blk 7 121 != 0, .badParam), (!(s.link k).spareEn || (s.link k).sparePos.isSome, .busy), ((s.link k).tx != .up, .linkDown)])
    (fun c s =>
      let k := fld c.blk 0 2
      done (s.modLink k (fun x => { x with spareReq := some (fld c.blk 5 2, false) })) [])
  ∧ Serves .linkUnspare { op := 0x0D02, pf0 := true }
    (fun c s =>
      let k := fld c.blk 0 2
      [(fld c.blk 2 3 != 6 || fld c.blk 7 121 != 0, .badParam), ((s.link k).tx != .up, .linkDown)])
    (fun c s =>
      let k := fld c.blk 0 2
      done (match (s.link k).sparePos with
        | some p => s.modLink k (fun x => { x with spareReq := some (p, true) })
        | none => s) [])
  ∧ Serves .linkStatus { op := 0x0D03 }
    (fun c _ =>
      let corr := fld c.blk 64 32
      [(statusReqBad c 2 512 linkMap || (c.clear && corr != 0 && corr != 0xFFFFFFFF), .badParam),
       (c.clear && c.func != 0, .partDenied)])
    (fun c s =>
      let k := fld c.blk 0 2
      let corr := fld c.blk 64 32
      (report (if c.clear then s.modLink k (fun x => { x with
          flags := clearFlags s.now linkMap c.blk x.flags, corrBits := if corr = 0 then 0 else x.corrBits }) else s)
        (leBytes 64 (linkImage s k))))
  ∧ Serves .weaveAdmitRoot { op := 0x0D04, pf0 := true }
    (fun c s =>
      let b := c.blk
      [(fld b 0 2 != 0 || admitForm b || admitOmits b || fld b 2 6 != fld b 23 6, .badParam),
       (s.time.mode != .set || !s.time.root, .noEpoch), (s.weave.admission.isSome, .busy)])
    (fun c s =>
      let b := c.blk
      let st := storeImage s 0x0D04 0x2A 0 16 0 b
      (done (joinWeave st.1 b .root) [st.2]))
  ∧ Serves .weaveAdmitLeave { op := 0x0D04, pf0 := true }
    (fun c s => [(fld c.blk 0 2 != 2 || fld c.blk 29 35 != 0, .badParam),
 (s.weave.admission.isSome || s.time.epochAt.isSome || releaseBusy s, .busy)])
    (fun _ s =>
      let st := storeImage s 0x0D04 0x2A 0 16 0 0
      let t := { st.1 with
        time := { st.1.time with mode := .free, root := false }
        weave := { st.1.weave with
          device := 0, role := .none, config := 0, members := 0, hops := 0, refSrc := false, thetas := [], lost := false } }
      (done ((List.range 4).foldl (fun s k => if (s.link k).rx == .aligned then setRx s k .up else s) t) [st.2]))
  ∧ Serves .weaveStatus { op := 0x0D05 }
    (fun c _ => [(statusReqBad c 0 512 weaveMap, .badParam), (c.clear && c.func != 0, .partDenied)])
    (fun c s => (report (if c.clear then { s with weave := { s.weave with flags := clearFlags s.now weaveMap c.blk s.weave.flags } } else s)
  (leBytes 64 (weaveImage s))))
  ∧ Completes .weaveAdmitMember { op := 0x0D04, pf0 := true }
    (fun c s => fld c.blk 0 2 == 1 && !admitForm c.blk && s.weave.admission.isNone && s.time.refclk
      && memberFail s c.blk == none)
    (fun c s => waiting { s with weave := { s.weave with
      thetas := [], refSrc := bit c.blk 21
      admission := some { func := c.func, tag := c.tag, blk := c.blk, oldSrc := s.weave.refSrc, oldTrim := s.weave.refTrim,
                          oldPhase := s.time.slowPhase } } })
  ∧ (∀ (c : Frame) (s : State) (rb : List Byte), admits { op := 0x0D04, pf0 := true } c s rb = true →
    let t := acceptState c s
    let k := callOf { op := 0x0D04, pf0 := true } c t rb
    fld k.blk 0 2 = 1 → admitForm k.blk = false → t.weave.admission = none → t.time.refclk = true → ledgerBlocked t = false →
    ∀ r st, memberFail t k.blk = some (r, st) →
    exec (.weaveAdmitMember c) s = .next (refuse { t with weave := { t.weave with reason := r } } c.func
      ((fnPart t c.func).getD {}) (outstOf c t) st (0, 0)))

/-- R396 to R401, R406, R413: a frame enters a receive direction past ALIGN: a training frame gives the peer and the
scrambler states; a data frame is descrambled and decoded, corrected bits are counted, and an uncorrectable one
counts as lost in UP and ALIGNED. In every tick a direction sends a training frame in TRAIN and until its wake
ends, a data frame in UP, and nothing in OFF or asleep. 256 ticks without progress resend.
Model choices: logs 38, 49, 51. -/
def Obligations.LinkFrames : Prop :=
  (∀ (s : State) (k : Fin 4) (line : BitVec 600) (stamp : Int),
    let r := (s.link k).rx
    let v := line.toNat
    let d := descramble (s.link k) v
    let u := s.modLink k (fun x => { x with descr := d.2, okRun := 0 })
    let takes : Prop := (r = .deskew ∧ (s.link k).rxok = true) ∨ r = .up ∨ r = .aligned ∨ r = .sleep
    ((r = .off ∨ r = .acquire ∨ r = .align ∨ r = .down) → exec (.frameReceive k line stamp) s = .next s)
    ∧ ((r = .deskew ∨ r = .up ∨ r = .aligned ∨ r = .sleep) → isTraining v = true →
      exec (.frameReceive k line stamp) s = .next (takeTraining s k v))
    ∧ (r = .deskew → (s.link k).rxok = false → isTraining v = false → exec (.frameReceive k line stamp) s = .next s)
    ∧ (takes → isTraining v = false → bchClass d.1 = .clean →
      exec (.frameReceive k line stamp) s = .next (takeFrame u k d.1 stamp))
    ∧ (∀ m, takes → isTraining v = false → bchClass d.1 = .corrected m →
      exec (.frameReceive k line stamp) s = .next (takeFrame (countCorrected u k m) k (d.1 ^^^ m) stamp))
    ∧ (takes → isTraining v = false → bchClass d.1 = .ue →
      exec (.frameReceive k line stamp) s = .next (if r = .up ∨ r = .aligned then frameUe u k else u)))
  ∧ (∀ (s : State) (k : Fin 4),
    ((s.link k).tx = .train → exec (.frameTransmit k) s = .next (sendLine s k none))
    ∧ ((s.link k).tx = .wake → s.now < (s.link k).wakeAt → exec (.frameTransmit k) s = .next (sendLine s k none))
    ∧ ((s.link k).tx = .wake → (s.link k).wakeAt ≤ s.now → exec (.frameTransmit k) s = .next (sendFrame (setTx s k .up) k))
    ∧ ((s.link k).tx = .up → exec (.frameTransmit k) s = .next (sendFrame s k))
    ∧ (((s.link k).tx = .off ∨ (s.link k).tx = .sleepLight ∨ (s.link k).tx = .sleepDeep) →
      exec (.frameTransmit k) s = .next s))
  ∧ (∀ (s : State) (k : Fin 4), (s.link k).unacked ≠ [] → (s.link k).rx ≠ .sleep → (s.link k).tx = .up →
    ((s.link k).progress + 256 ≤ s.now → exec (.shuttleResendTimeout k) s = .next
      (retryLimit (s.modLink k (fun x => { x with cursor := 0, resends := x.resends + 1, progress := s.now })) k))
    ∧ (s.now < (s.link k).progress + 256 → exec (.shuttleResendTimeout k) s = .next s))

/-- R407, R410, R414, R417: the control messages of a peer. SLEEP and SPARE_AT act after the frame with COUNT 0;
SPARE_REQ starts the countdown where the spare can serve; a TSTAMP completes the exchange that the one before it
began, one that echoes nothing only begins one (log 136); MEMBERS renews the view of the peer; a view older than 4 ms no longer counts, and its direction leaves ALIGNED (log
138). R401 to R405, R410,
R423: the events of the lanes. Step 1 ends in ALIGN; a lane finds its marker or slips one bit, and fails after
150 positions; a bring-up longer than 100 ms starts again; a lane that loses lock moves onto a free spare or
takes the direction down; a window above LANE_ERR, or an eye below EYE_MIN, is reported; a tracking member moves
REF_TRIM by at most one step. -/
def Obligations.LinkMessagesAndLanes : Prop :=
  (∀ (s : State) (k : Fin 4) (deep : Bool) (n : Fin 16),
    (n.val = 0 → (s.link k).rx = .up ∨ (s.link k).rx = .aligned → exec (.sleep k deep n) s = .next (setRx
      (s.modLink k (fun x => { x with wasAligned := x.rx == .aligned, ueRun := 0 })) k .sleep))
    ∧ (n.val ≠ 0 → exec (.sleep k deep n) s = .next s))
  ∧ (∀ (s : State) (k p : Fin 4) (un : Bool) (n : Fin 8), (s.link k).spareEn = true →
    (n.val = 0 → exec (.spareAt k p un n) s = .next (spareSwitch s k p un true))
    ∧ (n.val ≠ 0 → exec (.spareAt k p un n) s = .next s))
  ∧ (∀ (s : State) (k p : Fin 4), (s.link k).spareEn = true → (s.link k).spareAt = none →
    ((s.link k).txSpare = none → exec (.spareReq k p false) s = .next
      (s.modLink k (fun x => { x with spareAt := some { pos := p, unspare := false } })))
    ∧ ((s.link k).txSpare = some p.val → exec (.spareReq k p true) s = .next
      (s.modLink k (fun x => { x with spareAt := some { pos := p, unspare := true } })))
    ∧ (∀ q, (s.link k).txSpare = some q → exec (.spareReq k p false) s = .next s))
  ∧ (∀ (s : State) (k : Fin 4) (a b c : BitVec 64) (f : BitVec 6) (stamp : Int), (s.link k).stamped = none →
    exec (.tstamp k a b c f stamp) s = .next (s.modLink k (fun x => { x with stamped := some (a.toNat, stamp) })))
  ∧ (∀ (s : State) (k : Fin 4) (a b c : BitVec 64) (f : BitVec 6) (stamp t2 : Int) (t1 : Nat),
    (s.link k).stamped = some (t1, t2) → s.weave.admission = none → s.weave.role = .none →
    b.toNat ≠ 0 ∨ c.toNat ≠ 0 ∨ f.toNat ≠ 0 →
    let e := exchange (s.link k).asym (ballTime k t1) t2 (ballTime k b.toNat) ((c.toNat : Int) * 64 + f.toNat)
    exec (.tstamp k a b c f stamp) s = .next (tryAlign ((s.modLink k (fun x => { x with
      delay := some (e.2.1.toNat % 2 ^ 32) })).modLink k (fun x => { x with stamped := some (a.toNat, stamp) })) k))
  ∧ (∀ (s : State) (k : Fin 4) (a : BitVec 64) (stamp : Int),
    exec (.tstamp k a 0 0 0 stamp) s = .next (s.modLink k (fun x => { x with stamped := some (a.toNat, stamp) })))
  ∧ (∀ asym t1 t2 t3 t4 : Int, (exchange asym t1 t2 t3 t4).1 = t4 - t1 - (t3 - t2)
      ∧ (exchange asym t1 t2 t3 t4).2.1 = ((t4 - t1) - (t3 - t2) + asym) / 2
      ∧ (exchange asym t1 t2 t3 t4).2.2 = t2 - t1 - (exchange asym t1 t2 t3 t4).2.1)
  ∧ (∀ (s : State) (k : Fin 4) (v : BitVec 64) (r : Bool) (h : BitVec 6),
    exec (.members k v r h) s = .next (tryAlign (refreshHops (s.modLink k (fun x => { x with
      peerAdm := true, view := some { tick := s.now, mask := v.toNat, refdep := r, hops := h.toNat } }))) k))
  ∧ (∀ (s : State), (∀ e ∈ s.links, s.link e.1 = e.2) → ∃ t, exec .memberViewAgeout s = .next t
    ∧ (∀ k v, (s.link k).view = some v → (t.link k).view = if s.now ≤ v.tick + fourMs then some v else none)
    ∧ (∀ k, (s.link k).view = none → (t.link k).view = none)
    ∧ (∀ k, viewAged s (s.link k) = true → (t.link k).peerAdm = false ∧ (t.link k).rx ≠ .aligned)
    ∧ (s.weave.role ≠ .member → (∀ k, viewAged s (s.link k) = true → (s.link k).rx ≠ .aligned) →
      { t with links := s.links } = s))
  ∧ (∀ (s : State) (k : Fin 4),
    ((s.link k).rx = .acquire → exec (.linkAcquireDone k) s = .next (setRx s k .align))
    ∧ ((s.link k).rx ≠ .acquire → exec (.linkAcquireDone k) s = .next s))
  ∧ (∀ (s : State) (k : Fin 4) (l : Fin 5), (s.link k).rx = .align → (searched (s.link k)).contains l.val = true →
    (s.lane k l).found = false →
    ((s.lane k l).slips < 149 → exec (.laneAlignCheck k l false) s = .next
      (s.modLane k l (fun y => { y with slips := y.slips + 1 })))
    ∧ (149 ≤ (s.lane k l).slips → exec (.laneAlignCheck k l false) s = .next (failStart s k 3))
    ∧ (let u := s.modLane k l (fun y => { y with found := true })
       ((searched (s.link k)).all (fun l => (u.lane k l).found) = false → exec (.laneAlignCheck k l true) s = .next u)
       ∧ ((searched (s.link k)).all (fun l => (u.lane k l).found) = true →
         let w := Config.laneSkew s.freeCtr
         let v := { u with freeCtr := s.freeCtr + 1 }
         exec (.laneAlignCheck k l true) s = .next
           (if 449 < w then failStart v k 4 else setRx (v.modLink k (fun x => { x with skew := w })) k .deskew))))
  ∧ (∀ (s : State) (k : Fin 4), (s.link k).en = true →
    (comingUp (s.link k) = true → (s.link k).startAt + 75000000 ≤ s.now → exec (.linkBringupTimeout k) s = .next (failStart s k 5))
    ∧ (comingUp (s.link k) = false ∨ s.now < (s.link k).startAt + 75000000 → exec (.linkBringupTimeout k) s = .next s))
  ∧ (∀ (s : State) (k : Fin 4) (p : Fin 5), ((s.link k).rx = .up ∨ (s.link k).rx = .aligned) →
    (p.val ≠ 4 → spareFree (s.link k) = true → exec (.laneCdrLoss k p) s = .next (badLane s k p))
    ∧ (p.val ≠ 4 → spareFree (s.link k) = false → exec (.laneCdrLoss k p) s = .next (linkDown (linkHit s k kLaneFail) k 1))
    ∧ (p.val = 4 → (s.link k).sparePos.isSome = true →
      exec (.laneCdrLoss k p) s = .next (linkDown (linkHit s k kLaneFail) k 1))
    ∧ (p.val = 4 → (s.link k).sparePos = none → exec (.laneCdrLoss k p) s = .next s))
  ∧ (∀ (s : State) (k : Fin 4) (p : Fin 4), (s.link k).sparePos = none →
    ((s.link k).rx = .up ∨ (s.link k).rx = .aligned) →
    let u := s.modLane k p (fun y => { y with window := 0 })
    ((s.link k).laneErr < (s.lane k p).window → exec (.laneErrorWindow k (p.castSucc)) s = .next (badLane u k p))
    ∧ ((s.lane k p).window ≤ (s.link k).laneErr → exec (.laneErrorWindow k (p.castSucc)) s = .next u))
  ∧ (∀ (s : State) (k p : Fin 4) (m : BitVec 8) (c : BitVec 64), ((s.link k).rx = .up ∨ (s.link k).rx = .aligned) →
    let l := rxLane (s.link k) p
    ((s.link k).eyeMin ≤ m.toNat → (s.link k).adapt = true → (s.lane k l).frozen = false →
      exec (.eyeMeasure k p m c) s = .next (s.modLane k l (fun y => { y with margin := m.toNat, coeffs := c, good := c })))
    ∧ (m.toNat < (s.link k).eyeMin → exec (.eyeMeasure k p m c) s = .next (linkEvt (linkRecord (linkHit
        (s.modLane k l (fun y => { y with margin := m.toNat, coeffs := y.good, frozen := true })) k kAdaptGuard)
        0x43 k 1 (plane k l) p 0 0) k)))
  ∧ (∀ (s : State), s.weave.role = .member → wTrack s.weave.config = true →
    (0 < s.weave.offset → 0 < s.weave.refTrim → s.weave.refTrim ≤ 6143 → exec (.trimStep ()) s = .next
      { s with weave := { s.weave with refTrim := s.weave.refTrim - 1 } })
    ∧ (0 < s.weave.offset → s.weave.refTrim = 0 → exec (.trimStep ()) s = .next (weaveHit s kTrimLimit))
    ∧ (s.weave.offset < 0 → s.weave.refTrim < 6143 → exec (.trimStep ()) s = .next
      { s with weave := { s.weave with refTrim := s.weave.refTrim + 1 } })
    ∧ (s.weave.offset < 0 → s.weave.refTrim = 6143 → exec (.trimStep ()) s = .next (weaveHit s kTrimLimit)))
  ∧ (∀ (s : State), s.weave.role = .member → s.weave.offset = 0 → s.weave.refTrim ≤ 6143 → exec (.trimStep ()) s = .next s)
  ∧ (∀ (s : State), (s.weave.role ≠ .member ∨ wTrack s.weave.config = false) →
    exec (.trimStep ()) s = .next s)

/-- 11 R306, R412, R416: the link controllers consume the entry at CI of a Shuttle Spool: for a device out of the
view it goes nowhere but into a record, for this device it arrives, for another it goes out on the link of its
route, is lost with a record where that link is not up or its peer no member (R416), or waits there for the sleep or the
one before it to end. Model choices: log 35. -/
def Obligations.Shuttles : Prop :=
  (∀ (s : State) (n : Fin 65536) (f : Option (BitVec 512)), readDesc s n = s → (s.spool n).cls = 3 →
    ringReady s (s.spool n) = true → spoolLive (s.spool n) = true → occupancy (s.spool n) ≠ 0 →
    let p := s.spool n
    let r := ringRead s p p.ci
    let host := p.target = 0
    let took := consume (if host then hostFetch s ((fnOfPart s p.owner).getD 0) (slotAddr p p.ci) 64
      else memEvents s p.owner .link r.2.2) n
    (host → f = none → exec (.shuttleSend n f) s = .next took)
    ∧ (¬host → r.2.1 = true → exec (.shuttleSend n f) s = .next took)
    ∧ (∀ e, (host ∧ f.map (fun v => v.toNat) = some e) ∨ (¬host ∧ r.2.1 = false ∧ leNat r.1 = e) →
      (bit (view s) (fld e 0 6) = false → exec (.shuttleSend n f) s = .next
        (errRecord took p.owner (spoolRecord 4 n 1 s.st ((e % 2 ^ 32 + p.owner * 2 ^ 32) % 2 ^ 36))))
      ∧ (bit (view s) (fld e 0 6) = true → route s (fld e 0 6) = none →
        exec (.shuttleSend n f) s = .next (arrive took (localShuttle s p.owner e)))
      ∧ (∀ o, bit (view s) (fld e 0 6) = true → route s (fld e 0 6) = some o →
        let x := s.link o
        let holds := x.tx = .sleepLight ∨ x.tx = .sleepDeep ∨ x.tx = .wake ∨ x.sleepReq.isSome = true ∨ x.local_.isSome = true
        (holds → exec (.shuttleSend n f) s = .next s)
        ∧ (¬holds → x.tx = .up → x.peerAdm = true → exec (.shuttleSend n f) s =
          .next (took.modLink o (fun x => { x with local_ := some (localShuttle s p.owner e) })))
        ∧ (¬holds → x.tx ≠ .up ∨ x.peerAdm = false → exec (.shuttleSend n f) s =
          .next (lose took o 0 (localShuttle s p.owner e) 1)))))
  ∧ (∀ (s : State) (n : Fin 65536) (f : Option (BitVec 512)), ((s.spool n).cls ≠ 3 ∨ (readDesc s n = s
      ∧ (ringReady s (s.spool n) = false ∨ spoolLive (s.spool n) = false ∨ occupancy (s.spool n) = 0))) →
    exec (.shuttleSend n f) s = .next s)
  ∧ (∀ (s : State) (d : Nat), route s d = none ↔ d = s.weave.device)
  ∧ (∀ (s : State) (d o : Nat), route s d = some o → o < 4)

/-- R364, R385, R388 to R390: MEM_INFO reports a channel; SCRUB_START begins a pass over a range of one channel or
one store and answers at its end; ABORT ends one; SCRUB_STATUS reports, with LINES the lines done (log 40);
HOTWORD_READ reports the tracker and sets its threshold. R367 to R371, R387, R389: at the end of a pass its
lines have been looked at, UL18 asserts and the response carries the summary; an engine without a pass does
nothing. A word without a stored error stays as it is; one with a corrected error is rewritten, except in mode
0; an uncorrectable one is poisoned. -/
def Obligations.ScrubCommandsAndPasses : Prop :=
  Serves .memInfo { op := 0x0C01 }
    (fun k _ => [(decide (k.blk ≥ 4), .badParam)])
    (fun k s => (report s (leBytes 48 (memInfoImage s (k.blk % 4)))))
  ∧ Serves .scrubStart { op := 0x0C02 }
    (fun k s =>
      let b := k.blk
      let a := fld b 64 48
      let n := fld b 128 32
      let e := engineOf a
      [(bit b 2 || scrubRsv b || fld b 0 2 == 3 || n == 0 || decide (n > 2 ^ 31) || a % 128 != 0, .badParam),
       (fld b 0 2 == 2 && decide (2 ^ 40 ≤ a), .badParam), (!scrubRange s a (128 * n), .lenExceeds),
       (if a < 2 ^ 40 then !ddrMayChange s k.who a (128 * n) else k.who.part != 0 || scrubRefused s a, .partDenied),
       ((s.scrub e).run.isSome, .busy), (decide (a < 2 ^ 40) && !chanActive s (chanOf a), .notActive)])
    (fun k s =>
      let b := k.blk
      let a := fld b 64 48
      let n := fld b 128 32
      let e := engineOf a
      let rate := if fld b 8 8 = 0 then 8 else fld b 8 8
      (waiting (s.modScrub e (fun x => { x with
        owner := k.who.part
        run := some { func := k.func, tag := k.tag, part := k.who.part, mode := fld b 0 2, rate := rate, start := a
                      lines := n, accept := k.accept, begun := s.now } }))))
  ∧ Serves .scrubAbort { op := 0x0C02 }
    (fun k s =>
      let e := engineOf (fld k.blk 64 48)
      let x := s.scrub e
      [(!bit k.blk 2 || x.run.isNone, .badParam),
       (match x.run with | some r => k.who.part != r.part && k.who.part != 0 | none => false, .partDenied)])
    (fun k s =>
      let e := engineOf (fld k.blk 64 48)
      (done (abortScrub s e) []))
  ∧ Serves .scrubStatus { op := 0x0C03 }
    (fun k s =>
      let e := fld k.blk 0 3
      let x := s.scrub e
      [(decide (e ≥ 5) || (!k.clear && fld k.blk 3 637 != 0), .badParam), (k.func != 0 && x.owner != k.who.part, .partDenied)])
    (fun k s =>
      let e := fld k.blk 0 3
      let x := s.scrub e
      let lines := match x.run with | some r => r.done | none => 0
      (report s
        (leBytes 80 (pack [(e, 3), (b2n x.run.isSome, 1), (x.owner, 4), (0, 56), (lines, 32), (0, 32)] + x.last * 2 ^ 128))))
  ∧ Serves .hotwordRead { op := 0x0C04 }
    (fun k _ =>
      let b := k.blk
      let first := fld b 0 8
      let n := fld b 8 9
      let set := bit b 17
      [(fld b 28 4 != 0 || fld b 64 64 != 0 || (set && fld b 18 8 == 0)
          || (if k.clear then !maskOk hotMap b else fld b 26 2 != 0 || fld b 32 32 != 0), .badParam),
       (set && k.who.part != 0, .partDenied), (decide (first + n > 256), .lenExceeds)])
    (fun k s =>
      let b := k.blk
      let first := fld b 0 8
      let n := fld b 8 9
      let set := bit b 17
      let head := pack [(first, 8), (n, 9), (0, 1), (if set then fld b 18 8 else s.mem.thresh, 8)] + flagImage hotMap s.mem.flags
      let out := leBytes 16 head ++ (List.range n).flatMap (fun i => leBytes 16 (hotImage s k.func k.who.part (first + i)))
      (report { s with mem := { s.mem with
        thresh := if set then fld b 18 8 else s.mem.thresh
        flags := if k.clear then clearFlags s.now hotMap b s.mem.flags else s.mem.flags } } out))
  ∧ (∀ (s : State) (e : Fin 5), (s.scrub e).run = none → exec (.scrubPassEnd e) s = .next s)
  ∧ (∀ (s : State) (e : Fin 5) (r : ScrubRun), (s.scrub e).run = some r → r.aborted = false →
    let z := scrubLines r.part r.mode (r.lines - r.done) (s, r.tally) (r.start + 128 * r.done)
    let img := scrubSummary s e r z.2
    let u := uncore (z.1.modScrub e (fun x => { x with run := none, last := img })) 18
    exec (.scrubPassEnd e) s = .next (answer u r.func r.tag .ok u.st (leBytes 64 img) []))
  ∧ (∀ (s : State) (e : Fin 5) (r : ScrubRun), (s.scrub e).run = some r → r.aborted = true →
    let img := scrubSummary s e r r.tally
    let u := uncore (s.modScrub e (fun x => { x with run := none, last := img })) 18
    exec (.scrubPassEnd e) s = .next (answer u r.func r.tag .ok u.st (leBytes 64 img) []))
  ∧ (∀ (s : State) (p m a : Nat) (t : Tally),
    ((storedClass s a).1 = .clean → scrubWord p m (s, t) a = (s, { t with words := t.words + 1 }))
    ∧ (∀ k, (storedClass s a).1 = .corrected k → ∃ u n, scrubWord p m (s, t) a =
        (if m = 0 then u else rewrite u a, { t with words := t.words + 1, ce := t.ce + 1, hot := t.hot + n })
        ∧ u = memEvent s p .scrub (.corrected a (storedClass s a).2))
    ∧ ((storedClass s a).1 = .poisoned → m ≠ 2 →
      scrubWord p m (s, t) a = (s, { t with words := t.words + 1, found := t.found + 1 })))
  ∧ (∀ (s : State) (a : Nat), maskOf (rewrite s a).mem a = 0
    ∧ ∀ b, b ≠ a → maskOf (rewrite s a).mem b = maskOf s.mem b)

/-- R444 to R447: WALL_CFG for a port and for a domain, WALL_SWITCH and WALL_STATUS with their checks, in order. A
domain is configured into LISTEN or UNUSED; a switch takes effect at the next slow-tick boundary. R437, R441,
R442: nothing of the active set changes but at a slow-tick boundary at which an update, a step or a switch
waits: then BASE is the ST of the boundary; an update without a step goes on from the reading there, a step
takes the domain's estimate and sets WSTEP. VALID follows the active domain, and HOLD_MAX ends it.
Model choices: logs 19, 36. -/
def Obligations.WallCommandsAndActiveSet : Prop :=
  Serves .wallCfgPort { op := 0x0E01, pf0 := true }
    (fun c s =>
      let b := c.blk
      let p := fld b 1 1
      [(bit b 0 || !rsvOk b wallPortRsv || decide (fld b 3 2 > 1) || fld b 5 2 == 3 || (fld b 5 2 == 2 && fld b 3 2 != 1),
        .badParam), (!bit b 2 && portUsed s p, .busy)])
    (fun c s =>
      let b := c.blk
      let p := fld b 1 1
      let st := storeImage s 0x0E01 0x23 p 64 (2 * p) (b % 2 ^ 256 - b % 2)
      let x : TimePort :=
        { en := bit b 2, speed := fld b 3 2, fec := fld b 5 2, vlan := bit b 7, vid := fld b 8 12, pcp := fld b 20 3
          mac := BitVec.ofNat 48 (fld b 32 48), ipv4 := BitVec.ofNat 32 (fld b 96 32)
          ipv6 := BitVec.ofNat 128 (fld b 128 128) }
      (done { st.1 with wallTime := { st.1.wallTime with ports := tset {} st.1.wallTime.ports p x } }
        [{ st.2 with objId := 0 }]))
  ∧ Serves .wallCfgDomain { op := 0x0E01, pf0 := true }
    (fun c s =>
      let b := c.blk
      let d := fld b 1 1
      let en := bit b 2
      let p := s.tport (fld b 3 1)
      let tr := fld b 4 2
      let dreq := sgn 8 (fld b 128 8)
      [(!bit b 0 || !rsvOk b wallDomRsv || tr == 3 || fld b 32 20 == 0 || decide (fld b 32 20 > 1000000)
          || fld b 96 32 == 0 || decide (fld b 96 32 > 1000000000) || decide (dreq < -7) || decide (dreq > 5), .badParam),
       (en && (!p.en || (tr == 1 && p.ipv4 == 0) || (tr == 2 && p.ipv6 == 0)), .busy),
       (!en && (s.dom d).en && activeDom s == d && (s.dom (1 - d)).en, .busy)])
    (fun c s =>
      let b := c.blk
      let d := fld b 1 1
      let en := bit b 2
      let tr := fld b 4 2
      let dreq := sgn 8 (fld b 128 8)
      let st := storeImage s 0x0E01 0x23 (2 + d) 64 (wallDomDefault d) (b % 2 ^ 192 - b % 2)
      let x : Domain :=
        { en := en, port := fld b 3 1, transport := tr, peer := bit b 6, auto := bit b 7, number := fld b 8 8
          slew := fld b 32 20, holdMax := fld b 64 16, stepLimit := fld b 96 32, logDreq := dreq
          asym := sgn 32 (fld b 160 32), state := if en then .listen else .unused }
      let t := st.1.modDom d (fun _ => x)
      let t := if activeDom s = d then { t with wallTime := { t.wallTime with hold := none, update := false, step := false } } else t
      let t := if sameDomain (s.dom d) x then st.1 else refreshValid t
      (done t [{ st.2 with objId := 0 }]))
  ∧ Serves .wallSwitch { op := 0x0E02, pf0 := true }
    (fun c s =>
      let d := fld c.blk 0 1
      let force := bit c.blk 1
      ([(fld c.blk 2 126 != 0, .badParam)] ++
        (if activeDom s = d then [] else [((s.dom d).state != .locked || (tooFarOff s d && !force), .busy)])))
    (fun c s =>
      let d := fld c.blk 0 1
      let force := bit c.blk 1
      (if activeDom s = d then done s []
       else scheduled { s with wallTime := { s.wallTime with switch := some (d, false), step := force } } (nextSlow s)
         [item 0x23 0]))
  ∧ Serves .wallStatus { op := 0x0E03 }
    (fun c _ => [(statusReqBad c 0 576 wallMap, .badParam), (c.clear && c.func != 0, .partDenied)])
    (fun c s => (report (if c.clear then { s with wallTime := { s.wallTime with
    flags := clearFlags s.now wallMap c.blk s.wallTime.flags } } else s) (leBytes 72 (wallImage s))))
  ∧ (∀ (s : State), (slowNow s = false ∨ (s.wallTime.update = false ∧ s.wallTime.step = false ∧ s.wallTime.switch = none)) →
    exec .wallSetUpdate s = .next s)
  ∧ (∀ (s : State), slowNow s = true → s.wallTime.switch = none → (s.wallTime.update = true ∨ s.wallTime.step = true) →
    ∃ t, exec .wallSetUpdate s = .next t ∧ t.wall.base = s.st ∧ t.wall.dom = s.wall.dom
      ∧ t.wall.offset = (if s.wallTime.step then wallAt (s.dom s.wall.dom).est s.st else wallAt s.wall s.st)
      ∧ (validNow s = true → -rateLimit ≤ t.wall.rate ∧ t.wall.rate ≤ rateLimit)
      ∧ (validNow s = false → t.wall.rate = s.wall.rate)
      ∧ t.wallTime.update = false ∧ t.wallTime.step = false)
  ∧ (∀ (s : State), exec .wallHoldMaxExpiry s = .next (refreshValid s)
    ∧ (refreshValid s).wall.valid = validNow s
    ∧ (validNow s = s.wall.valid → refreshValid s = s))

/-- R433, R434, R441, R445: a domain that is enabled on an enabled port takes announcements, syncs and delay
exchanges, and discards management messages; a locked domain without usable syncs is in HOLDOVER; a delay
request goes out while there is a master; an event message is stamped with the sample of its start of frame, less
the receive delay or plus the transmit delay of the port's SPEED and FEC (R435); ARP requests and neighbour solicitations for an address of the port
are answered, others are not. Model choices: log 37. -/
def Obligations.WallMessages : Prop :=
  (∀ (s : State) (d : Fin 2), (s.dom d).en = true → (s.tport (s.dom d).port).en = true → s.power.core = true →
    nirdinRuns s = true →
    (∀ a : Announce, a.steps.toNat < 255 → exec (.ptpMessage d (.announce a)) s = .next (selectMaster
      (s.modDom d (fun x => { x with masters := x.masters.filter (fun b => b.identity != a.identity) ++ [a] })) d))
    ∧ (∀ a : Announce, a.steps.toNat = 255 → exec (.ptpMessage d (.announce a)) s = .next s)
    ∧ (exec (.ptpMessage d .announceTimeout) s = .next (selectMaster (s.modDom d (fun x => { x with
        masters := x.masters.filter (fun b => some b.identity != x.master.map (fun a => a.identity)) })) d))
    ∧ (∀ i, (s.dom d).master.isSome = true → exec (.ptpMessage d (.sync true i)) s =
        .next (takeSync s d (ingress (s.tport (s.dom d).port) (stampAt s i))))
    ∧ (∀ i, exec (.ptpMessage d (.sync false i)) s = .next s)
    ∧ (∀ i, (s.dom d).master.isSome = true → (s.dom d).reqAt.isSome = true →
      exec (.ptpMessage d (.delayExchange i)) s = .next (checkLock (s.modDom d (fun x => { x with
        delays := x.delays + 1
        respAt := if x.peer then some (ingress (s.tport (s.dom d).port) (stampAt s i)) else none })) d))
    ∧ (∀ i, (s.dom d).master = none ∨ (s.dom d).reqAt = none → exec (.ptpMessage d (.delayExchange i)) s = .next s)
    ∧ (∀ i, ((s.dom d).peer = true → exec (.ptpMessage d (.pdelayReq i)) s =
        .next (answerPdelay s (s.dom d).port (stampAt s i)))
      ∧ ((s.dom d).peer = false → exec (.ptpMessage d (.pdelayReq i)) s = .next s))
    ∧ exec (.ptpMessage d .management) s = .next s)
  ∧ (∀ (s : State) (d : Fin 2) (m : PtpMessage),
    ((s.dom d).en = false ∨ (s.tport (s.dom d).port).en = false ∨ s.power.core = false ∨ nirdinRuns s = false) →
    exec (.ptpMessage d m) s = .next s ∧ ∀ i, exec (.delayRequestSend ⟨d, i⟩) s = .next s)
  ∧ (∀ (s : State) (d : Nat), (s.dom d).state = .acquire →
    (16 ≤ (s.dom d).syncs → 16 ≤ (s.dom d).delays → checkLock s d = setDom s d .locked)
    ∧ (((s.dom d).syncs < 16 ∨ (s.dom d).delays < 16) → checkLock s d = s))
  ∧ (∀ (s : State) (d : Fin 2),
    ((s.dom d).state = .locked → nirdinRuns s = true → exec (.wallHoldover d) s = .next (setDom s d .holdover))
    ∧ ((s.dom d).state ≠ .locked → exec (.wallHoldover d) s = .next s))
  ∧ (∀ (s : State) (d : Fin 2) (i : Fin 32), (s.dom d).en = true → (s.dom d).master.isSome = true →
    (s.tport (s.dom d).port).en = true → s.power.core = true → nirdinRuns s = true →
    let u := s.modDom d (fun x => { x with reqAt := some (egress (s.tport (s.dom d).port) (stampAt s i)) })
    exec (.delayRequestSend ⟨d, i⟩) s = .next { u with sent := .delayReq d (stampAt s i) :: u.sent })
  ∧ (∀ (s : State) (d : Nat) (t : Int), ((takeSync s d t).dom d).syncAt = some t)
  ∧ (∀ (p : TimePort) (t : Nat), ingress p t = t - (portDelays p).2 ∧ egress p t = t + (portDelays p).1)
  ∧ (∀ (s : State) (p : Fin 2) (t : BitVec 32) (m : BitVec 48), (s.tport p).en = true → s.power.core = true →
    ((s.tport p).ipv4 = t → t ≠ 0 → exec (.arpRequest p t m) s = .next { s with sent := .arpReply p (s.tport p).mac m :: s.sent })
    ∧ ((s.tport p).ipv4 ≠ t ∨ t = 0 → exec (.arpRequest p t m) s = .next s))
  ∧ (∀ (s : State) (p : Fin 2) (t : BitVec 128) (m : BitVec 48), (s.tport p).en = true → s.power.core = true →
    ((s.tport p).ipv6 = t → t ≠ 0 →
      exec (.neighborSolicitation p t m) s = .next { s with sent := .neighborAdvert p (s.tport p).mac m :: s.sent })
    ∧ ((s.tport p).ipv6 ≠ t ∨ t = 0 → exec (.neighborSolicitation p t m) s = .next s))

/-- R494, R499 to R503: HK_CFG takes effect at the next slot boundary; HK_CAL waits for its 192 slots, RESTORE takes
the stored values at once; OPEN_WIRE waits for its three conversions; HK_STATUS reports and clears. Each makes
its checks in order. R486 to R495: at a slot boundary each unit ends the conversion that ran and starts the
next; between boundaries nothing happens. An injected sequence starts when its time has come; REFOK returns 1 ms
after a change of the reference; a calibration ends after 192 slots with new values within the limits, or
CALFAIL and the old ones. CODE is the rounded (16 RAW - OFFSET) GAIN / 2^26, clipped to 18 bits.
Model choices: logs 96, 97. -/
def Obligations.Housekeeping : Prop :=
  Serves .hkCfg { op := 0x1101 }
    (fun k s =>
      let b := k.blk
      let u := fld b 0 1
      let x := s.hku u
      let o := ownerOf s oHk u
      let at_ := fld b 288 64
      let per := fld b 352 32
      ([(hkRsv b || cSeqLen b == 0 || decide (cSeqLen b > 16) || decide (cInjLen b > 8) || (u == 0 && cLehrRec b)
          || cRefSel b == 3 || (u == 1 && cRefSel b != 0) || cDiv b == 0 || (per != 0 && decide (per < cInjLen b))
          || (cRSpool b != 0 && (!hkSpoolOk s (cRSpool b) || (s.spool (cRSpool b)).owner != o.part)), .badParam),
        (!mayChange k.who o || (hkChans b).any (fun c => decide (c < 384) && (bcOwner s c).part != o.part), .partDenied),
        (at_ != 0 && at_ % slotSamples != 0, .badTime)] ++ timeFail at_ k.accept
        ++ [(cRefSel b != cRefSel x.cfg && x.cal.isSome, .busy)]))
    (fun k s =>
      let b := k.blk
      let u := fld b 0 1
      let at_ := fld b 288 64
      let from_ := s.st / slotSamples * slotSamples + slotSamples
      (let st := storeImage s 0x1101 oHk u 48 (hkDefault u) (b % 2 ^ 288)
       scheduled (stage st.1 { kind := .hkCfg, obj := u, blk := b, at_ := from_, func := k.func }) from_ [st.2]))
  ∧ Serves .hkCal { op := 0x1102 }
    (fun k s =>
      let u := fld k.blk 0 1
      let x := s.hku u
      [(bit k.blk 2 || fld k.blk 3 61 != 0 || (bit k.blk 1 && cRefSel x.cfg != 0), .badParam),
       (!mayChange k.who (ownerOf s oHk u), .partDenied), (!x.refok || x.cal.isSome, .busy)])
    (fun k s =>
      let u := fld k.blk 0 1
      (waiting (s.modHku u (fun y => { y with
        cal := some (k.func, k.tag, bit k.blk 1), calRun := none, sum0 := 0, sumP := 0, sumM := 0 }))))
  ∧ Serves .hkCalRestore { op := 0x1102 }
    (fun k s =>
      let u := fld k.blk 0 1
      let x := s.hku u
      [(!bit k.blk 2 || fld k.blk 3 61 != 0 || cRefSel x.cfg != 0, .badParam),
       (!mayChange k.who (ownerOf s oHk u), .partDenied), (!x.refok || x.cal.isSome, .busy)])
    (fun k s =>
      let u := fld k.blk 0 1
      let x := s.hku u
      let y := { x with offset := x.nvOffset, gain := x.nvGain, uncal := false }
      { status := .ok, next := s.modHku u (fun _ => y), out := calOut y, items := [item oHk u] })
  ∧ Serves .hkStatus { op := 0x1103 }
    (fun k s =>
      let u := fld k.blk 0 1
      let cnt := fld k.blk 144 32
      [(statusReqBad k 1 256 hkMap || (k.clear && cnt != 0 && cnt != 0xFFFFFFFF), .badParam),
       (k.func != 0 && (ownerOf s oHk u).part != k.who.part, .partDenied)])
    (fun k s =>
      let u := fld k.blk 0 1
      let cnt := fld k.blk 144 32
      (report (if k.clear then s.modHku u (fun x => { x with
          flags := clearFlags s.now hkMap k.blk x.flags, convCnt := if cnt = 0 then 0 else x.convCnt }) else s)
        (leBytes 32 (hkImage s u))))
  ∧ Serves .openWire { op := 0x1104 }
    (fun k s =>
      let t := fld k.blk 0 16
      let n := bcOfTid t
      [(!tidOk t || tidKind t != 3, .badTid), (fld k.blk 24 8 != 0 || fld k.blk 64 64 != 0, .badParam),
       (!mayChange k.who (bcOwner s n), .partDenied),
       (s.hk.wire.isSome || !(s.hku 0).refok || (s.bc n).state != .test, .busy)])
    (fun k s =>
      let t := fld k.blk 0 16
      let settle := 10 * (if fld k.blk 16 8 = 0 then 10 else fld k.blk 16 8)
      let limit := if fld k.blk 32 32 = 0 then 100000 else fld k.blk 32 32
      let w : OpenWire := { func := k.func, tag := k.tag, tid := t, settle := settle, rlimit := limit,
                            held := (s.hku 0).cal.isSome }
      (waiting { s with hk := { s.hk with wire := some w } }))
  ∧ (∀ (s : State) (a b : BitVec 18),
    (slotNow s = true → exec (.hkConversion a b) s = .next (hkSlot (hkSlot (wireWait (hkDrain (hkDrain s 0) 1)) 0 a) 1 b))
    ∧ (slotNow s = false → exec (.hkConversion a b) s = .next s))
  ∧ (∀ (s : State) (u : Nat) (raw : BitVec 18),
    (∀ v, (s.hku u).running = some v → v.tick + 750 ≤ s.now →
      hkSlot s u raw = startConv (fallDue (endConv s u v raw.toInt) u) u)
    ∧ (∀ v, (s.hku u).running = some v → s.now < v.tick + 750 → hkSlot s u raw = s)
    ∧ ((s.hku u).running = none → (s.hku u).calRun ≠ some 192 → hkSlot s u raw = startConv (fallDue s u) u))
  ∧ (∀ (x : HkUnit) (raw : Int),
    (hkCode x raw).1 = clip (-131072) 131071 (convRound ((raw * 16 - x.offset) * x.gain) 26)
    ∧ -131072 ≤ (hkCode x raw).1 ∧ (hkCode x raw).1 ≤ 131071)
  ∧ (∀ (s : State),
    (slotNow s = true → exec .hkInjectTrigger s = .next (injectUnit (injectUnit s 0) 1))
    ∧ (slotNow s = false → exec .hkInjectTrigger s = .next s))
  ∧ (∀ (s : State) (u t : Nat), (s.hku u).injNext = some t →
    (s.st < t → injectUnit s u = s)
    ∧ (t ≤ s.st → (s.hku u).inj = none → cInjLen (s.hku u).cfg ≠ 0 → fld (s.hku u).cfg 352 32 = 0 →
      ∃ v, injectUnit s u = v ∧ (v.hku u).inj = some 0 ∧ (v.hku u).injNext = none
        ∧ (v.hku u).injHeld = (s.hku u).cal.isSome ∧ (v.hku u).flags = (s.hku u).flags))
  ∧ (∀ (s : State) (u : Fin 2), (s.hku u).refok = false →
    (slotNow s = true → (s.hku u).refAt + 750000 ≤ s.now →
      exec (.hkRefok u) s = .next (s.modHku u (fun x => { x with refok := true })))
    ∧ (s.now < (s.hku u).refAt + 750000 → exec (.hkRefok u) s = .next s))
  ∧ (∀ (s : State) (u : Fin 2) (f tag : Nat), (s.hku u).cal = some (f, tag, false) → (s.hku u).calRun = some 192 →
    slotNow s = false →
    let v := calValues (s.hku u)
    let w := hkEvent (s.modHku u (fun y => { y with cal := none, calRun := none })) u 1
    (calGood v = true →
      let z := w.modHku u (fun y => { y with offset := v.1, gain := v.2.toNat, uncal := false })
      exec (.hkCalDone u) s = .next (releaseHeld (answer z f tag .ok 0 (calOut (z.hku u)) [item oHk u]) u))
    ∧ (calGood v = false →
      let z := hkHit w u hkCalFail
      exec (.hkCalDone u) s = .next (releaseHeld (answer z f tag .internal 0 (calOut (z.hku u)) [item oHk u]) u)))
  ∧ (∀ (s : State) (u : Fin 2), ((s.hku u).cal = none ∨ (s.hku u).calRun ≠ some 192) → exec (.hkCalDone u) s = .next s)
end

