-- ==== Sys2Proof/Laws/Tables.lean ====
section
/-! SUPPORT. What a sparse table answers after a write, and that writes keep its canonical form. -/

namespace Sys2Proof.Machine

variable {α : Type}

@[simp] theorem tget_nil (d : α) (i : Nat) : tget d [] i = d := rfl

theorem tget_tput (d : α) (t : Tbl α) (k i : Nat) (v : α) :
    tget d (tput t k v) i = if k = i then v else tget d t i := by
  induction t with
  | nil => simp [tput, tget]
  | cons e r ih =>
    obtain ⟨k', v'⟩ := e
    unfold tput
    split
    · simp [tget]
    · split
      · subst_vars; by_cases h : k' = i <;> simp [tget, h]
      · by_cases h : k' = i
        · subst h; simp [tget]; intro h2; simp_all
        · simp [tget, h, ih]

theorem tget_tdel (d : α) (t : Tbl α) (k i : Nat) :
    tget d (tdel t k) i = if k = i then d else tget d t i := by
  unfold tdel
  induction t with
  | nil => simp
  | cons e r ih =>
    obtain ⟨k', v'⟩ := e
    by_cases h : k' = k
    · subst h
      simp only [List.filter_cons, beq_self_eq_true, Bool.not_true]
      by_cases h2 : k' = i <;> simp_all [tget]
    · by_cases h2 : k' = i
      · subst h2
        simp [h, tget, Ne.symm h]
      · simp [h, tget, h2, ih]

variable [DecidableEq α]

/-- What a table answers after a write. -/
theorem tget_tset (d : α) (t : Tbl α) (k i : Nat) (v : α) :
    tget d (tset d t k v) i = if k = i then v else tget d t i := by
  unfold tset
  split
  · next h => rw [tget_tdel, h]
  · exact tget_tput d t k i v

@[simp] theorem tget_tset_same (d : α) (t : Tbl α) (k : Nat) (v : α) :
    tget d (tset d t k v) k = v := by simp [tget_tset]

theorem tget_tset_other (d : α) (t : Tbl α) {k i : Nat} (v : α) (h : k ≠ i) :
    tget d (tset d t k v) i = tget d t i := by simp [tget_tset, h]

/-- A key's entries lie above a bound: the shape of a canonical tail. -/
theorem twf_cons (d : α) (k : Nat) (v : α) (r : Tbl α) :
    twf d ((k, v) :: r) = true ↔ v ≠ d ∧ (∀ e ∈ r.head?, k < e.1) ∧ twf d r = true := by
  cases r with
  | nil => simp [twf]
  | cons e r => obtain ⟨k', v'⟩ := e; simp [twf, and_assoc]

omit [DecidableEq α] in
theorem tput_head (k : Nat) (v : α) (t : Tbl α) (m : Nat) (hm : m < k)
    (h : ∀ e ∈ t.head?, m < e.1) : ∀ e ∈ (tput t k v).head?, m < e.1 := by
  cases t with
  | nil => simp [tput]; exact hm
  | cons e r =>
    obtain ⟨k', v'⟩ := e
    unfold tput
    split
    · simpa using hm
    · split
      · simpa using hm
      · simpa using h

theorem tput_wf (d : α) (t : Tbl α) (k : Nat) (v : α) (hv : v ≠ d) (h : twf d t = true) :
    twf d (tput t k v) = true := by
  induction t with
  | nil => simp [tput, twf, hv]
  | cons e r ih =>
    obtain ⟨k', v'⟩ := e
    have h' := (twf_cons d k' v' r).1 h
    unfold tput
    split
    · rw [twf_cons]; exact ⟨hv, by simpa using ‹k < k'›, h⟩
    · split
      · subst_vars; rw [twf_cons]; exact ⟨hv, h'.2.1, h'.2.2⟩
      · rw [twf_cons]
        exact ⟨h'.1, tput_head k v r k' (by omega) h'.2.1, ih h'.2.2⟩

/-- Rising keys, said of all pairs. -/
theorem twf_iff (d : α) (t : Tbl α) :
    twf d t = true ↔ (∀ e ∈ t, e.2 ≠ d) ∧ t.Pairwise (fun a b => a.1 < b.1) := by
  induction t with
  | nil => simp [twf]
  | cons e r ih =>
    obtain ⟨k, v⟩ := e
    rw [twf_cons, ih]
    constructor
    · rintro ⟨h1, h2, h3, h4⟩
      refine ⟨by simpa using ⟨h1, fun a b hab => h3 (a, b) hab⟩, ?_⟩
      rw [List.pairwise_cons]
      refine ⟨?_, h4⟩
      intro a ha
      cases r with
      | nil => cases ha
      | cons x y =>
        have hx := h2 x (by simp)
        rcases List.mem_cons.1 ha with rfl | hm
        · exact hx
        · exact lt_trans hx ((List.pairwise_cons.1 h4).1 a hm)
    · rintro ⟨h1, h2⟩
      rw [List.pairwise_cons] at h2
      refine ⟨h1 (k, v) (by simp), ?_, fun e he => h1 e (by simp [he]), h2.2⟩
      intro e he
      exact h2.1 e (List.mem_of_mem_head? he)

theorem tfilter_wf (d : α) (t : Tbl α) (p : Nat × α → Bool) (h : twf d t = true) :
    twf d (t.filter p) = true := by
  rw [twf_iff] at h ⊢
  exact ⟨fun e he => h.1 e (List.mem_of_mem_filter he), h.2.filter p⟩

/-- A write keeps the canonical form. -/
theorem tset_wf (d : α) (t : Tbl α) (k : Nat) (v : α) (h : twf d t = true) :
    twf d (tset d t k v) = true := by
  unfold tset
  split
  · exact tfilter_wf d t _ h
  · exact tput_wf d t k v ‹_› h

theorem writeBytes_wf (t : Tbl Byte) (a : Nat) (l : List Byte) (h : twf 0 t = true) :
    twf 0 (writeBytes t a l) = true := by
  induction l generalizing t a with
  | nil => exact h
  | cons b r ih => exact ih _ _ (tset_wf 0 t a b h)

/-- A byte outside the written range reads as before. -/
theorem tget_writeBytes_other (t : Tbl Byte) (a i : Nat) (l : List Byte)
    (h : i < a ∨ a + l.length ≤ i) : tget 0 (writeBytes t a l) i = tget 0 t i := by
  induction l generalizing t a with
  | nil => rfl
  | cons b r ih =>
    have h1 : a ≠ i := by simp only [List.length_cons] at h; omega
    rw [writeBytes, ih _ _ (by simp only [List.length_cons] at h; omega), tget_tset_other _ _ _ h1]

@[simp] theorem leBytes_length (n v : Nat) : (leBytes n v).length = n := by
  induction n generalizing v with
  | zero => rfl
  | succ n ih => simp [leBytes, ih]

end Sys2Proof.Machine
end

