-- ==== Sys2Proof/Laws/Memory.lean ====
section
/-! SUPPORT. Every operation on a memory keeps its one form (`Memory.wf`), and every operation of Machine/MemOps.lean
on DDR keeps the invariant `Kept` of Safety.lean, whose memory part says the same of a whole state. -/

set_option linter.unusedVariables false

namespace Sys2Proof.Machine

theorem reset_memory_wf : Memory.wf State.reset.mem.ddr = true ∧ Memory.wf State.reset.ringMem = true :=
  ⟨rfl, rfl⟩

theorem memory_wf_nil : Memory.wf [] = true := rfl

theorem memory_tset_wf (m : List Host.Cell) (k : Nat) (v : Byte) (h : Memory.wf m = true) :
    Memory.wf (tset 0 m k v) = true := tset_wf 0 m k v h

theorem memory_tclear_wf (p : Nat → Bool) (m : List Host.Cell) (h : Memory.wf m = true) :
    Memory.wf (tclear p m) = true := tfilter_wf 0 m _ h

theorem memory_writeBytes_wf (m : List Host.Cell) (a : Nat) (l : List Byte) (h : Memory.wf m = true) :
    Memory.wf (writeBytes m a l) = true := writeBytes_wf m a l h

theorem memory_poison_wf (b : Nat) (l : List Nat) (m : List Host.Cell) (h : Memory.wf m = true) :
    Memory.wf (l.foldl (fun t w => writeBytes t (w - b) (List.replicate 8 0)) m) = true := by
  induction l generalizing m with
  | nil => exact h
  | cons a r ih => exact ih _ (memory_writeBytes_wf _ _ _ h)

theorem mergeWord_wf (m : Mem) (a c) (h : Memory.wf m.ddr = true) :
    Memory.wf (mergeWord m a c).1.ddr = true := by
  grind [mergeWord, memory_tset_wf, memory_writeBytes_wf]

theorem mergeWords_wf (f : Nat → Nat) (g : Nat → Nat) (l : List Nat) (p : Mem × List MemEvt)
    (h : Memory.wf p.1.ddr = true) :
    Memory.wf (l.foldl (fun (p : Mem × List MemEvt) j => ((mergeWord p.1 (f j) (g j)).1,
      p.2 ++ (mergeWord p.1 (f j) (g j)).2)) p).1.ddr = true := by
  induction l generalizing p with
  | nil => exact h
  | cons a r ih => exact ih _ (mergeWord_wf _ _ _ h)

/-! ### Loops -/

theorem foldl_kept {α : Type} (f : State → α → State) (l : List α) (s : State) (h : Kept s)
    (hf : ∀ s a, Kept s → Kept (f s a)) : Kept (l.foldl f s) := by
  induction l generalizing s with
  | nil => exact h
  | cons a r ih => exact ih _ (hf s a h)

theorem foldl_fst_kept {α β : Type} (f : State × β → α → State × β) (l : List α) (p : State × β) (h : Kept p.1)
    (hf : ∀ p a, Kept p.1 → Kept (f p a).1) : Kept (l.foldl f p).1 := by
  induction l generalizing p with
  | nil => exact h
  | cons a r ih => exact ih _ (hf p a h)

/-! ### Machine/Ops.lean -/

theorem State_setFn_kept (s x1 x2) (h : Kept s) : Kept (State.setFn s x1 x2) := by grind [State.setFn,
    foldl_kept, foldl_fst_kept]

theorem State_modFn_kept (s x1 x2) (h : Kept s) : Kept (State.modFn s x1 x2) := by grind [State.modFn,
    State_setFn_kept, foldl_kept, foldl_fst_kept]

theorem State_modPort_kept (s x1 x2) (h : Kept s) : Kept (State.modPort s x1 x2) := by grind [State.modPort,
    foldl_kept, foldl_fst_kept]

theorem State_modThread_kept (s x1 x2) (h : Kept s) : Kept (State.modThread s x1 x2) :=
    by grind [State.modThread, foldl_kept, foldl_fst_kept]

theorem State_modBobbin_kept (s x1 x2) (h : Kept s) : Kept (State.modBobbin s x1 x2) :=
    by grind [State.modBobbin, foldl_kept, foldl_fst_kept]

theorem State_modSpool_kept (s x1 x2) (h : Kept s) : Kept (State.modSpool s x1 x2) :=
    by grind [State.modSpool, foldl_kept, foldl_fst_kept]

theorem State_modChan_kept (s x1 x2) (h : Kept s) : Kept (State.modChan s x1 x2) := by grind [State.modChan,
    foldl_kept, foldl_fst_kept]

theorem State_modQuad_kept (s x1 x2) (h : Kept s) : Kept (State.modQuad s x1 x2) := by grind [State.modQuad,
    foldl_kept, foldl_fst_kept]

theorem State_modTile_kept (s x1 x2) (h : Kept s) : Kept (State.modTile s x1 x2) := by grind [State.modTile,
    foldl_kept, foldl_fst_kept]

theorem freePayload_kept (s) (h : Kept s) : Kept (freePayload s).1 := by grind [freePayload, foldl_kept,
    foldl_fst_kept]

theorem State_send_kept (s x1) (h : Kept s) : Kept (State.send s x1) := by grind [State.send, foldl_kept,
    foldl_fst_kept]

theorem sendVector_kept (s x1 x2) (h : Kept s) : Kept (sendVector s x1 x2) := State_send_kept _ _ h

theorem msix_kept (s x1 x2) (h : Kept s) : Kept (msix s x1 x2) := by grind [msix, sendVector_kept,
    State_modFn_kept, foldl_kept, foldl_fst_kept]

theorem hostWrites_kept (x0 x1 x2 s x4 x5 x6 x7 x8) (h : Kept s) : Kept (hostWrites x0 x1 x2 s x4 x5 x6 x7 x8) := by
  induction x2 generalizing s x5 x6 x8 with
  | zero => exact h
  | succ n ih => grind [hostWrites, State_send_kept]

theorem hostReads_kept (x0 x1 s x3 x4 x5) (h : Kept s) : Kept (hostReads x0 x1 s x3 x4 x5) := by
  induction x1 generalizing s x4 x5 with
  | zero => exact h
  | succ n ih => grind [hostReads, State_send_kept]

theorem hostFetch_kept (s x1 x2 x3) (h : Kept s) : Kept (hostFetch s x1 x2 x3) := hostReads_kept _ _ _ _ _ _ h

theorem hostStore_kept (s x1 x2 x3) (h : Kept s) : Kept (hostStore s x1 x2 x3) := hostWrites_kept _ _ _ _ _ _ _ _ _ h

theorem storeSel_kept (s x1) (h : Kept s) : Kept (storeSel s x1) := h

theorem assertAt_kept (s x1 x2 x3) (h : Kept s) : Kept (assertAt s x1 x2 x3) := by grind [assertAt,
    foldl_kept, foldl_fst_kept]

theorem assertLine_kept (s x1) (h : Kept s) : Kept (assertLine s x1) := by grind [assertLine, assertAt_kept,
    foldl_kept, foldl_fst_kept]

theorem uncore_kept (s x1) (h : Kept s) : Kept (uncore s x1) := by grind [uncore, assertLine_kept,
    foldl_kept, foldl_fst_kept]

theorem notice_kept (s x1 x2 x3 x4) (h : Kept s) : Kept (notice s x1 x2 x3 x4) := by grind [notice,
    State_setFn_kept, msix_kept, foldl_kept, foldl_fst_kept]

theorem event_kept (s x1 x2 x3) (h : Kept s) : Kept (event s x1 x2 x3) := by grind [event, notice_kept,
    foldl_kept, foldl_fst_kept]

theorem stage_kept (s x1) (h : Kept s) : Kept (stage s x1) := by grind [stage, foldl_kept, foldl_fst_kept]

theorem nvInhibited_kept (s) (h : Kept s) : Kept (nvInhibited s) := by grind [nvInhibited, foldl_kept,
    foldl_fst_kept]

/-! ### Machine/MemOps.lean -/

theorem clearErrs_kept (s x1 x2) (h : Kept s) : Kept (clearErrs s x1 x2) := by grind [clearErrs, KeptParts]

theorem bitmapFix_kept (s x1) (h : Kept s) : Kept (bitmapFix s x1).1 := by grind [bitmapFix, memory_tset_wf,
    memory_tclear_wf, memory_writeBytes_wf, memory_wf_nil, KeptParts]

theorem bitmapFixAll_kept (s x1 x2) (h : Kept s) : Kept (bitmapFixAll s x1 x2).1 := by grind [bitmapFixAll,
    bitmapFix_kept, foldl_kept, foldl_fst_kept]

theorem openRegion_kept (s x1) (h : Kept s) : Kept (openRegion s x1) := by grind [openRegion, clearErrs_kept,
    memory_tset_wf, memory_tclear_wf, memory_writeBytes_wf, memory_wf_nil, KeptParts]

theorem setLine_kept (s x1 x2) (h : Kept s) : Kept (setLine s x1 x2) := by grind [setLine, memory_tset_wf,
    memory_tclear_wf, memory_writeBytes_wf, memory_wf_nil, KeptParts]

theorem writeLine_kept (s x1 x2) (h : Kept s) : Kept (writeLine s x1 x2).1 := by
  have h2 := openRegion_kept (bitmapFix s x1).1 x1 (bitmapFix_kept s x1 h)
  unfold writeLine
  dsimp only
  repeat' split
  · grind [memory_tset_wf, memory_tclear_wf, memory_writeBytes_wf, memory_wf_nil, KeptParts]
  · have := mergeWords_wf (fun j => x1 / 128 * 128 + 8 * j) (fun j => cover x1 x2.length (x1 / 128 * 128 + 8 * j)) (List.range 16) ((openRegion (bitmapFix s x1).1 x1).mem, []) h2.2.1
    grind [memory_tset_wf, memory_tclear_wf, memory_writeBytes_wf, memory_wf_nil, KeptParts]
  · exact setLine_kept _ _ _ (by grind [memory_tset_wf, memory_tclear_wf, memory_writeBytes_wf,
      memory_wf_nil, KeptParts])

theorem ddrWriteAux_kept (x0 s x2 x3) (h : Kept s) : Kept (ddrWriteAux x0 s x2 x3).1 := by
  induction x0 generalizing s x2 x3 with
  | zero => exact h
  | succ n ih => grind [ddrWriteAux, writeLine_kept]

theorem ddrWrite_kept (s x1 x2) (h : Kept s) : Kept (ddrWrite s x1 x2).1 := by grind [ddrWrite,
    ddrWriteAux_kept, foldl_kept, foldl_fst_kept]

theorem poisonWords_kept (s x1) (h : Kept s) : Kept (poisonWords s x1) := by
  unfold poisonWords
  exact foldl_kept _ _ _ h (by grind [memory_tset_wf, memory_tclear_wf, memory_writeBytes_wf, memory_wf_nil,
      KeptParts])

theorem zeroLine_kept (s x1) (h : Kept s) : Kept (zeroLine s x1).1 := by grind [zeroLine, bitmapFix_kept, setLine_kept]

theorem ddrZeroAux_kept (x0 s x2 x3) (h : Kept s) : Kept (ddrZeroAux x0 s x2 x3).1 := by
  induction x0 generalizing s x2 x3 with
  | zero => exact h
  | succ n ih => grind [ddrZeroAux, writeLine_kept, zeroLine_kept]

theorem ddrZero_kept (s x1 x2) (h : Kept s) : Kept (ddrZero s x1 x2).1 := by grind [ddrZero, ddrZeroAux_kept,
    foldl_kept, foldl_fst_kept]

end Sys2Proof.Machine
end

