-- ==== Sys2Proof/Laws/Kept.lean ====
section
/-! SUPPORT. Every function of the machine that returns a state keeps the invariant `Kept` of Safety.lean: one lemma
per function, by its own definition and the lemmas of the functions it calls; one per command's meaning, in the
order of the files of Machine/. -/

set_option linter.unusedVariables false

namespace Sys2Proof.Machine

set_option Elab.async false

/-! ### Machine/Codes.lean -/

theorem delivered_kept (s x1 x2) (h : Kept s) : Kept (delivered_ s x1 x2) := by grind [delivered_,
    foldl_kept, foldl_fst_kept]

/-! ### Machine/SpoolOps.lean -/

theorem ringWrite_kept (s x1 x2 x3) (h : Kept s) : Kept (ringWrite s x1 x2 x3).1 := by grind [ringWrite,
    clearErrs_kept, ddrWrite_kept, hostStore_kept, memory_tset_wf, memory_tclear_wf, memory_writeBytes_wf,
    memory_wf_nil, KeptParts]

theorem spoolVector_kept (s x1) (h : Kept s) : Kept (spoolVector s x1) := by grind [spoolVector, msix_kept,
    foldl_kept, foldl_fst_kept]

theorem notify_kept (s x1 x2) (h : Kept s) : Kept (notify s x1 x2) := by grind [notify, assertLine_kept,
    spoolVector_kept, State_modSpool_kept, foldl_kept, foldl_fst_kept]

theorem putEntryE_kept (s x1 x2) (h : Kept s) : Kept (putEntryE s x1 x2).1 := by grind [putEntryE,
    ringWrite_kept, notify_kept, State_modSpool_kept, foldl_kept, foldl_fst_kept]

theorem putEntry_kept (s x1 x2) (h : Kept s) : Kept (putEntry s x1 x2) := by grind [putEntry, putEntryE_kept,
    foldl_kept, foldl_fst_kept]

theorem faultSpool_kept (s x1) (h : Kept s) : Kept (faultSpool s x1) := by grind [faultSpool, State_modSpool_kept,
    foldl_kept, foldl_fst_kept]

theorem overflow_kept (s x1 x2) (h : Kept s) : Kept (overflow s x1 x2) := by grind [overflow, State_modSpool_kept,
    foldl_kept, foldl_kept, foldl_fst_kept]

theorem errRecord_kept (s x1 x2) (h : Kept s) : Kept (errRecord s x1 x2) := by grind [errRecord,
    State_modSpool_kept, faultSpool_kept, overflow_kept, putEntry_kept, uncore_kept, foldl_kept, foldl_fst_kept]

theorem readDesc_kept (s x1) (h : Kept s) : Kept (readDesc s x1) := by grind [readDesc, errRecord_kept,
    faultSpool_kept, foldl_kept, foldl_fst_kept]

theorem dropEntry_kept (s x1) (h : Kept s) : Kept (dropEntry s x1) := by grind [dropEntry, errRecord_kept,
    overflow_kept, foldl_kept, foldl_fst_kept]

theorem spillEntry_kept (s x1) (h : Kept s) : ∀ t, spillEntry s x1 = some t → Kept t := by
  intro t ht; grind [spillEntry, putEntry_kept, readDesc_kept, foldl_kept, foldl_fst_kept]

/-! ### Machine/LedgerOps.lean -/

theorem spillAux_kept (x0 s) (h : Kept s) : Kept (spillAux x0 s) := by
  induction x0 generalizing s with
  | zero => exact h
  | succ n ih => grind [spillAux, spillEntry_kept]

theorem spill_kept (s) (h : Kept s) : Kept (spill s) := by grind [spill, spillAux_kept, foldl_kept,
    foldl_fst_kept]

theorem appendOne_kept (s x1 x2 x3) (h : Kept s) : Kept (appendOne s x1 x2 x3) := by grind [appendOne,
    nvInhibited_kept, foldl_kept, foldl_fst_kept]

theorem auditNotices_kept (s x1 x2) (h : Kept s) : Kept (auditNotices s x1 x2) := by grind [auditNotices,
    foldl_kept, notice_kept, foldl_kept, foldl_fst_kept]

theorem ledgerAppend_kept (s x1 x2 x3) (h : Kept s) : Kept (ledgerAppend s x1 x2 x3) :=
    by grind [ledgerAppend, uncore_kept, appendOne_kept, spill_kept, auditNotices_kept, foldl_kept,
    foldl_fst_kept]

theorem ledgerNote_kept (s x1 x2 x3 x4 x5) (h : Kept s) : Kept (ledgerNote s x1 x2 x3 x4 x5) :=
    by grind [ledgerNote, ledgerAppend_kept, foldl_kept, foldl_fst_kept]

/-! ### Machine/MemErr.lean -/

theorem storeMap_kept (s) (h : Kept s) : Kept (storeMap s) := by grind [storeMap, foldl_kept, foldl_fst_kept]

theorem repairNote_kept (s x1 x2 x3 x4 x5) (h : Kept s) : Kept (repairNote s x1 x2 x3 x4 x5) := by
  have := ledgerNote_kept (storeMap s) fromNirdin 0x27 x4 (match x1 with | 1 => 0x8003 | 2 => 0x8004 | _ => 0x8005) 0
    (storeMap_kept s h)
  exact event_kept _ _ _ _ this

theorem addMark_kept (s x1) (h : Kept s) : Kept (addMark s x1) := by grind [addMark, foldl_kept, foldl_fst_kept]

theorem markUnit_kept (s x1 x2) (h : Kept s) : Kept (markUnit s x1 x2) := by grind [markUnit, addMark_kept,
    repairNote_kept, memory_tset_wf, memory_tclear_wf, memory_writeBytes_wf, memory_wf_nil, KeptParts]

theorem markArray_kept (s x1 x2 x3) (h : Kept s) : Kept (markArray s x1 x2 x3) := by grind [markArray, addMark_kept,
    markUnit_kept, repairNote_kept, memory_tset_wf, memory_tclear_wf, memory_writeBytes_wf, memory_wf_nil,
    KeptParts]

theorem markUe_kept (s x1) (h : Kept s) : Kept (markUe s x1) := by grind [markUe, markArray_kept, foldl_kept,
    foldl_fst_kept]

theorem markColumn_kept (s x1 x2) (h : Kept s) : Kept (markColumn s x1 x2) := by grind [markColumn,
    markArray_kept, foldl_kept, foldl_fst_kept]

theorem setHot_kept (s x1 x2) (h : Kept s) : Kept (setHot s x1 x2) := by grind [setHot, foldl_kept,
    foldl_fst_kept]

theorem hotCount_kept (s x1 x2 x3) (h : Kept s) : Kept (hotCount s x1 x2 x3) := by grind [hotCount, errRecord_kept,
    markArray_kept, setHot_kept, uncore_kept, memory_tset_wf, memory_tclear_wf, memory_writeBytes_wf, memory_wf_nil,
    KeptParts]

theorem hotFree_kept (s x1) (h : Kept s) : Kept (hotFree s x1) := by grind [hotFree, setHot_kept, foldl_kept,
    foldl_fst_kept]

theorem bumpChan_kept (s x1 x2) (h : Kept s) : Kept (bumpChan s x1 x2) := by grind [bumpChan, foldl_kept,
    foldl_fst_kept]

theorem memEvent_kept (s x1 x2 x3) (h : Kept s) : Kept (memEvent s x1 x2 x3) := by
  unfold memEvent; cases x3 <;> grind [bumpChan_kept, markUe_kept, errRecord_kept, uncore_kept, markColumn_kept,
    hotCount_kept, hotFree_kept]

theorem memEvents_kept (s x1 x2 x3) (h : Kept s) : Kept (memEvents s x1 x2 x3) := by grind [memEvents,
    memEvent_kept, foldl_kept, foldl_fst_kept]

theorem takeHeader_kept (s x1 x2 x3) (h : Kept s) : Kept (takeHeader s x1 x2 x3).1 := by grind [takeHeader,
    errRecord_kept, foldl_kept, foldl_fst_kept]

theorem takeHeaders_kept (s x1 x2 x3) (h : Kept s) : Kept (takeHeaders s x1 x2 x3).1 := by grind [takeHeaders,
    foldl_kept, takeHeader_kept, foldl_kept, foldl_fst_kept]

/-! ### Machine/Append.lean -/

theorem putRecorded_kept (s x1 x2) (h : Kept s) : Kept (putRecorded s x1 x2) := by grind [putRecorded,
    putEntryE_kept, memEvents_kept, foldl_kept, foldl_fst_kept]

theorem appendEntry_kept (s x1 x2 x3 x4) (h : Kept s) : Kept (appendEntry s x1 x2 x3 x4) := by grind [appendEntry,
    State_modSpool_kept, dropEntry_kept, putRecorded_kept, readDesc_kept, foldl_kept, foldl_fst_kept]

theorem reserve_kept (s x1 x2 x3 x4) (h : Kept s) : Kept (reserve s x1 x2 x3 x4).1 := by grind [reserve,
    State_modSpool_kept, foldl_kept, foldl_fst_kept]

theorem releaseAux_kept (x0 s x2) (h : Kept s) : Kept (releaseAux x0 s x2) := by
  induction x0 generalizing s with
  | zero => exact h
  | succ n ih => grind [releaseAux, State_modSpool_kept, readDesc_kept, putRecorded_kept, dropEntry_kept]

theorem release_kept (s x1) (h : Kept s) : Kept (release s x1) := by grind [release, releaseAux_kept, foldl_kept,
    foldl_fst_kept]

theorem cancelResv_kept (s x1 x2) (h : Kept s) : Kept (cancelResv s x1 x2) :=
    by unfold cancelResv; cases x2 <;> grind [State_modSpool_kept]

theorem handOn_kept (s x1 x2 x3 x4 x5) (h : Kept s) : Kept (handOn s x1 x2 x3 x4 x5) := by
  unfold handOn; cases x4 <;> grind [appendEntry_kept, readDesc_kept, dropEntry_kept, cancelResv_kept,
    State_modSpool_kept]

theorem produce_kept (s x1 x2 x3 x4 x5) (h : Kept s) : Kept (produce s x1 x2 x3 x4 x5) := by grind [produce,
    handOn_kept, reserve_kept, foldl_kept, foldl_fst_kept]

theorem releaseAll_kept (s) (h : Kept s) : Kept (releaseAll s) := by grind [releaseAll, foldl_kept, release_kept,
    foldl_kept, foldl_fst_kept]

theorem cancelTiles_kept (x0 s) (h : Kept s) : Kept (cancelTiles x0 s) := by grind [cancelTiles, foldl_kept,
    foldl_fst_kept]

theorem consume_kept (s x1) (h : Kept s) : Kept (consume s x1) := by
  have hk := State_modSpool_kept s x1 (fun q => { q with ci := (q.ci + 1) % idxMod }) h
  rw [consume]
  by_cases hc : (decide (occupancy (s.spool x1) = 0) || !spoolLive (s.spool x1)) = true
  · rw [if_pos hc]; exact h
  · rw [if_neg hc]; exact notify_kept _ _ _ hk

/-! ### Machine/Mailbox.lean -/

theorem deny_kept (s x1 x2) (h : Kept s) : Kept (deny s x1 x2).next := by grind [deny, foldl_kept,
    foldl_fst_kept]

theorem checked_kept (s obj cs eff) (h : Kept s) (he : Kept eff.next) : Kept (checked s obj cs eff).next := by
  grind [checked, deny]

theorem offer_kept (s x1) (h : Kept s) : Kept (offer s x1).1 := by grind [offer, State_setFn_kept, foldl_kept,
    foldl_fst_kept]

theorem postRsp_kept (s x1 x2 x3 x4 x5 x6) (h : Kept s) : Kept (postRsp s x1 x2 x3 x4 x5 x6) :=
    by grind [postRsp, msix_kept, State_setFn_kept, foldl_kept, foldl_fst_kept]

theorem refMove_kept (s) (h : Kept s) : Kept (refMove s) := by grind [refMove, State_modSpool_kept, foldl_kept,
    foldl_fst_kept]

theorem refFetch_kept (s x1 x2 x3) (h : Kept s) : Kept (refFetch s x1 x2 x3).1 := by grind [refFetch,
    bitmapFixAll_kept, hostFetch_kept, memEvents_kept, refMove_kept, takeHeader_kept, foldl_kept, foldl_fst_kept]

theorem refStore_kept (s x1 x2 x3 x4) (h : Kept s) : Kept (refStore s x1 x2 x3 x4).1 := by grind [refStore,
    ddrWrite_kept, hostStore_kept, memEvents_kept, refMove_kept, takeHeader_kept, foldl_kept, foldl_fst_kept]

theorem logItems_kept (s x1 x2 x3 x4) (h : Kept s) : Kept (logItems s x1 x2 x3 x4) := by grind [logItems,
    ledgerAppend_kept, foldl_kept, foldl_fst_kept]

theorem storeImage_kept (s x1 x2 x3 x4 x5 x6) (h : Kept s) : Kept (storeImage s x1 x2 x3 x4 x5 x6).1 :=
    by grind [storeImage, foldl_kept, foldl_fst_kept]

theorem complete_kept (f who o outRef) (r : Result) (h : Kept r.next) : Kept (complete f who o outRef r) := by
  grind [complete, State_modFn_kept, logItems_kept, postRsp_kept, refStore_kept]

theorem refuse_kept (s x1 x2 x3 x4 x5) (h : Kept s) : Kept (refuse s x1 x2 x3 x4 x5) := by grind [refuse,
    ledgerAppend_kept, nvInhibited_kept, postRsp_kept, foldl_kept, foldl_fst_kept]

theorem finish_kept (s f who o outRef) (r : Result) (h : Kept s) (hr : Kept r.next) :
    Kept (finish s f who o outRef r) := by
  unfold finish
  dsimp only
  split
  · split
    · exact refuse_kept _ _ _ _ _ _ (by cases outRef <;> [exact h; exact refStore_kept _ _ _ _ _ h])
    · exact complete_kept _ _ _ _ _ hr
  · exact refuse_kept _ _ _ _ _ _ (by split <;> assumption)

theorem refuseEarly_kept (x0 s x2) (h : Kept s) : Kept (refuseEarly x0 s x2) := by grind [refuseEarly,
    ledgerAppend_kept, postRsp_kept, foldl_kept, foldl_fst_kept]

theorem fetchRef_kept (x0 s) (h : Kept s) : Kept (fetchRef x0 s).1 := by grind [fetchRef, refFetch_kept,
    foldl_kept, foldl_fst_kept]

theorem acceptFrame_kept (x0 x1 s) (h : Kept s) : Kept (acceptFrame x0 x1 s).1 := by
  grind [acceptFrame, offer_kept, refuseEarly_kept, finish_kept, deny, fetchRef_kept]

theorem serve_kept (i c s body) (h : Kept s) (hb : ∀ k t, Kept t → Kept (body k t).next) :
    Kept (serve i c s body) := by
  have ha := acceptFrame_kept i c s h
  unfold serve
  split
  · rename_i hq; rw [hq] at ha; exact ha
  · rename_i hq; rw [hq] at ha; exact finish_kept _ _ _ _ _ _ ha (hb _ _ ha)

theorem answer_kept (s x1 x2 x3 x4 x5 x6) (h : Kept s) : Kept (answer s x1 x2 x3 x4 x5 x6) := by grind [answer,
    State_modFn_kept, ledgerAppend_kept, ledgerNote_kept, logItems_kept, postRsp_kept, refStore_kept, foldl_kept,
    foldl_fst_kept]

/-! ### Machine/Host.lean -/

theorem mberr_kept (s x1) (h : Kept s) : Kept (mberr s x1) := by grind [mberr, State_modFn_kept, foldl_kept,
    foldl_fst_kept]

theorem cmdPiWrite_kept (s x1 x2) (h : Kept s) : Kept (cmdPiWrite s x1 x2) := by grind [cmdPiWrite,
    State_setFn_kept, mberr_kept, foldl_kept, foldl_fst_kept]

theorem ciWrite_kept (s x1 x2 x3) (h : Kept s) : Kept (ciWrite s x1 x2 x3) :=
    by unfold ciWrite; cases x2 <;> grind [State_setFn_kept, mberr_kept]

theorem aer_kept (s x1 x2) (h : Kept s) : Kept (aer s x1 x2) := by grind [aer, State_send_kept, foldl_kept,
    foldl_fst_kept]

theorem unsupported_kept (s x1) (h : Kept s) : Kept (unsupported s x1) := by grind [unsupported, aer_kept,
    foldl_kept, foldl_fst_kept]

theorem frameWrite_kept (s x1 x2 x3 x4) (h : Kept s) : Kept (frameWrite s x1 x2 x3 x4) := by
  unfold frameWrite; cases x2 <;> grind [unsupported_kept, mberr_kept, State_modFn_kept]

theorem stLatch_kept (s x1) (h : Kept s) : Kept (stLatch s x1) := by grind [stLatch, State_modFn_kept, foldl_kept,
    foldl_fst_kept]

theorem denyHit_kept (s) (h : Kept s) : Kept (denyHit s) := by grind [denyHit, State_modFn_kept, deny_kept,
    foldl_kept, foldl_fst_kept]

theorem bar2Read_kept (s x1 x2) (h : Kept s) : Kept (bar2Read s x1 x2) := by grind [bar2Read, State_send_kept,
    bitmapFixAll_kept, denyHit_kept, memEvents_kept, takeHeader_kept, foldl_kept, foldl_fst_kept]

theorem bar2Write_kept (s x1 x2 x3) (h : Kept s) : Kept (bar2Write s x1 x2 x3) := by grind [bar2Write, aer_kept,
    ddrWrite_kept, denyHit_kept, memEvents_kept, poisonWords_kept, takeHeader_kept, unsupported_kept, foldl_kept,
    foldl_fst_kept]

theorem rearm_kept (s x1) (h : Kept s) : Kept (rearm s x1) := by grind [rearm, spoolVector_kept,
    State_modSpool_kept, foldl_kept, foldl_fst_kept]

theorem doorbell_kept (s x1 x2 x3 x4) (h : Kept s) : Kept (doorbell s x1 x2 x3 x4) := by grind [doorbell,
    State_modSpool_kept, errRecord_kept, notify_kept, readDesc_kept, rearm_kept, foldl_kept, foldl_fst_kept]

theorem regWrite32_kept (s x1 x2 x3) (h : Kept s) : ∀ t, regWrite32 s x1 x2 x3 = some t → Kept t := by
  have keep : ∀ (c : Prop) [Decidable c] (a b : Option State), (∀ t, a = some t → Kept t) →
      (∀ t, b = some t → Kept t) →
      ∀ t, (if c then a else b) = some t → Kept t := by
    intro c _ a b ha hb t ht; split at ht
    · exact ha t ht
    · exact hb t ht
  have leaf : ∀ q, Kept q → ∀ t, some q = some t → Kept t := by intro q hq t ht; cases ht; exact hq
  unfold regWrite32
  repeat' apply keep
  all_goals first
    | refine leaf _ ?_
    | exact fun t ht => by cases ht
  all_goals grind [State_modFn_kept, cmdPiWrite_kept, ciWrite_kept]

theorem setBar2_kept (s x1) (h : Kept s) : Kept (setBar2 s x1) := by
  refine ⟨?_, h.2⟩
  simp only [setBar2, fld]
  omega

theorem registerWrite_kept (s x1 x2 x3 x4 x5) (h : Kept s) : Kept (registerWrite s x1 x2 x3 x4 x5) := by
  have a := unsupported_kept s x1 h
  have b : ∀ q o v, Kept q → Kept ((regWrite32 q x1 o v).getD (unsupported s x1)) := by
    intro q o v hq; cases hr : regWrite32 q x1 o v <;> grind [regWrite32_kept]
  unfold registerWrite
  repeat' split
  all_goals grind [aer_kept, doorbell_kept, frameWrite_kept, setBar2_kept, regWrite32_kept]

theorem bar0Read_kept (s x1 x2 x3) (h : Kept s) : Kept (bar0Read s x1 x2 x3) := by grind [bar0Read, State_send_kept,
    stLatch_kept, foldl_kept, foldl_fst_kept]

theorem flushVectors_kept (s x1) (h : Kept s) : Kept (flushVectors s x1) := by grind [flushVectors,
    State_modFn_kept, foldl_kept, sendVector_kept, foldl_kept, foldl_fst_kept]

theorem removeVfs_kept (s) (h : Kept s) : Kept (removeVfs s) := by grind [removeVfs, State_modFn_kept, foldl_kept,
    foldl_kept, foldl_fst_kept]

theorem configField_kept (s x1 x2) (h : Kept s) : Kept (configField s x1 x2) := by
  unfold configField
  cases x2 <;> grind [flushVectors_kept, removeVfs_kept, State_modFn_kept, State_send_kept]

theorem execMbCmdPiWrite_kept (x0 x1 s) (h : Kept s) : ∀ t, execMbCmdPiWrite x0 x1 s = .next t → Kept t := by
  intro t ht; grind [execMbCmdPiWrite, cmdPiWrite_kept, foldl_kept, foldl_fst_kept]

theorem execMbCiWrite_kept (x0 x1 x2 s) (h : Kept s) : ∀ t, execMbCiWrite x0 x1 x2 s = .next t → Kept t := by
  intro t ht; grind [execMbCiWrite, ciWrite_kept, foldl_kept, foldl_fst_kept]

theorem execMbFrameWrite_kept (x0 x1 x2 x3 s) (h : Kept s) : ∀ t, execMbFrameWrite x0 x1 x2 x3 s = .next t →
    Kept t := by
  intro t ht; grind [execMbFrameWrite, frameWrite_kept, foldl_kept, foldl_fst_kept]

theorem execStNowLoRead_kept (x0 s) (h : Kept s) : ∀ t, execStNowLoRead x0 s = .next t → Kept t := by
  intro t ht; grind [execStNowLoRead, bar0Read_kept, foldl_kept, foldl_fst_kept]

theorem execBar2BaseWrite_kept (x0 s) (h : Kept s) : ∀ t, execBar2BaseWrite x0 s = .next t → Kept t := by
  intro t ht; grind [execBar2BaseWrite, setBar2_kept, foldl_kept, foldl_fst_kept]

theorem execBar2Read_kept (x0 x1 s) (h : Kept s) : ∀ t, execBar2Read x0 x1 s = .next t → Kept t := by
  intro t ht; grind [execBar2Read, bar2Read_kept, foldl_kept, foldl_fst_kept]

theorem execBar2Write_kept (x0 x1 x2 s) (h : Kept s) : ∀ t, execBar2Write x0 x1 x2 s = .next t → Kept t := by
  intro t ht; grind [execBar2Write, bar2Write_kept, foldl_kept, foldl_fst_kept]

theorem execDoorbell_kept (x0 x1 x2 x3 s) (h : Kept s) : ∀ t, execDoorbell x0 x1 x2 x3 s = .next t →
    Kept t := by
  intro t ht; grind [execDoorbell, doorbell_kept, foldl_kept, foldl_fst_kept]

theorem execMsixUnmask_kept (x0 x1 s) (h : Kept s) : ∀ t, execMsixUnmask x0 x1 s = .next t → Kept t := by
  intro t ht; grind [execMsixUnmask, State_modFn_kept, flushVectors_kept, foldl_kept, foldl_fst_kept]

theorem execFlr_kept (x0 s) (h : Kept s) : ∀ t, execFlr x0 s = .next t → Kept t := by
  intro t ht; grind [execFlr, State_modFn_kept, removeVfs_kept, foldl_kept, foldl_fst_kept]

theorem execHotReset_kept (s) (h : Kept s) : ∀ t, execHotReset s = .next t → Kept t := by
  intro t ht; grind [execHotReset, State_modFn_kept, foldl_kept, foldl_fst_kept]

theorem execConfigWrite_kept (x0 x1 s) (h : Kept s) : ∀ t, execConfigWrite x0 x1 s = .next t → Kept t := by
  intro t ht; grind [execConfigWrite, State_send_kept, configField_kept, foldl_kept, foldl_fst_kept]

theorem execJtagWrite_kept (x0 x1 s) (h : Kept s) : ∀ t, execJtagWrite x0 x1 s = .next t → Kept t := by
  intro t ht; grind [execJtagWrite, ledgerNote_kept, foldl_kept, foldl_fst_kept]

/-! ### Machine/Gaffer.lean -/

theorem report_kept (s x1) (h : Kept s) : Kept (report s x1).next := by grind [report, foldl_kept,
    foldl_fst_kept]

theorem done_kept (s x1) (h : Kept s) : Kept (done s x1).next := by grind [done, foldl_kept, foldl_fst_kept]

theorem scheduled_kept (s x1 x2) (h : Kept s) : Kept (scheduled s x1 x2).next := by grind [scheduled,
    foldl_kept, foldl_fst_kept]

theorem waiting_kept (s) (h : Kept s) : Kept (waiting s).next := by grind [waiting, foldl_kept,
    foldl_fst_kept]

theorem execIdentify_kept (x0 s) (h : Kept s) : ∀ t, execIdentify x0 s = .next t → Kept t := by
  intro t ht; cases ht; exact serve_kept _ _ _ _ h (fun k t hk => by grind [report_kept, checked_kept, deny])

theorem execVersion_kept (x0 s) (h : Kept s) : ∀ t, execVersion x0 s = .next t → Kept t := by
  intro t ht; cases ht; exact serve_kept _ _ _ _ h (fun k t hk => by grind [report_kept, checked_kept, deny])

theorem fwStageBody_kept (x0 s) (h : Kept s) : Kept (fwStageBody x0 s).next := by grind [fwStageBody,
    waiting_kept, deny_kept, checked_kept, finish_kept, foldl_kept, foldl_fst_kept]

theorem execFwStage_kept (x0 s) (h : Kept s) : ∀ t, execFwStage x0 s = .next t → Kept t := by
  intro t ht; cases ht; exact serve_kept _ _ _ _ h (fun k t hk => fwStageBody_kept k t hk)

theorem execFwStageDone_kept (x0 s) (h : Kept s) : ∀ t, execFwStageDone x0 s = .next t → Kept t := by
  intro t ht; grind [execFwStageDone, answer_kept, ledgerAppend_kept, foldl_kept, foldl_fst_kept]

theorem fwActivateBody_kept (x0 s) (h : Kept s) : Kept (fwActivateBody x0 s).next :=
    by grind [fwActivateBody, done_kept, checked_kept, finish_kept, foldl_kept, foldl_fst_kept]

theorem execFwActivate_kept (x0 s) (h : Kept s) : ∀ t, execFwActivate x0 s = .next t → Kept t := by
  intro t ht; cases ht; exact serve_kept _ _ _ _ h (fun k t hk => fwActivateBody_kept k t hk)

theorem fwRunRamBody_kept (x0 s) (h : Kept s) : Kept (fwRunRamBody x0 s).next := by grind [fwRunRamBody,
    checked_kept, deny_kept, done_kept, foldl_kept, foldl_fst_kept, checked, deny, checked_kept]

theorem execFwRunRam_kept (x0 s) (h : Kept s) : ∀ t, execFwRunRam x0 s = .next t → Kept t := by
  intro t ht; cases ht; exact serve_kept _ _ _ _ h (fun k t hk => fwRunRamBody_kept k t hk)

theorem fwCommitFloorBody_kept (x0 s) (h : Kept s) : Kept (fwCommitFloorBody x0 s).next :=
    by grind [fwCommitFloorBody, done_kept, checked_kept, finish_kept, foldl_kept, foldl_fst_kept]

theorem execFwCommitFloor_kept (x0 s) (h : Kept s) : ∀ t, execFwCommitFloor x0 s = .next t → Kept t := by
  intro t ht; cases ht; exact serve_kept _ _ _ _ h (fun k t hk => fwCommitFloorBody_kept k t hk)

theorem halt_kept (s x1) (h : Kept s) : Kept (halt s x1) := by grind [halt, msix_kept, foldl_kept,
    foldl_fst_kept]

theorem execGafferHalt_kept (x0 s) (h : Kept s) : ∀ t, execGafferHalt x0 s = .next t → Kept t := by
  intro t ht; grind [execGafferHalt, halt_kept, foldl_kept, foldl_fst_kept]

theorem execWatchdogExpiry_kept (s) (h : Kept s) : ∀ t, execWatchdogExpiry s = .next t → Kept t := by
  intro t ht; grind [execWatchdogExpiry, halt_kept, foldl_kept, foldl_fst_kept]

theorem vfBindBody_kept (x0 s) (h : Kept s) : Kept (vfBindBody x0 s).next := by grind [vfBindBody,
    storeImage_kept, done_kept, State_modFn_kept, checked_kept, finish_kept, foldl_kept, foldl_fst_kept]

theorem execVfBind_kept (x0 s) (h : Kept s) : ∀ t, execVfBind x0 s = .next t → Kept t := by
  intro t ht; cases ht; exact serve_kept _ _ _ _ h (fun k t hk => vfBindBody_kept k t hk)

theorem vfUnbindBody_kept (x0 s) (h : Kept s) : Kept (vfUnbindBody x0 s).next := by grind [vfUnbindBody,
    storeImage_kept, done_kept, State_modFn_kept, checked_kept, finish_kept, foldl_kept, foldl_fst_kept]

theorem execVfUnbind_kept (x0 s) (h : Kept s) : ∀ t, execVfUnbind x0 s = .next t → Kept t := by
  intro t ht; cases ht; exact serve_kept _ _ _ _ h (fun k t hk => vfUnbindBody_kept k t hk)

theorem icCfgBody_kept (x0 s) (h : Kept s) : Kept (icCfgBody x0 s).next := by grind [icCfgBody, checked_kept,
    done_kept, storeImage_kept, foldl_kept, foldl_fst_kept, checked, deny, checked_kept]

theorem execIcCfg_kept (x0 s) (h : Kept s) : ∀ t, execIcCfg x0 s = .next t → Kept t := by
  intro t ht; cases ht; exact serve_kept _ _ _ _ h (fun k t hk => icCfgBody_kept k t hk)

/-! ### Machine/Bobbin.lean -/

theorem bobbinAllocBody_kept (x0 s) (h : Kept s) : Kept (bobbinAllocBody x0 s).next :=
    by grind [bobbinAllocBody, storeImage_kept, State_modBobbin_kept, checked_kept, finish_kept, foldl_kept,
    foldl_fst_kept]

theorem execBobbinAlloc_kept (x0 s) (h : Kept s) : ∀ t, execBobbinAlloc x0 s = .next t → Kept t := by
  intro t ht; cases ht; exact serve_kept _ _ _ _ h (fun k t hk => bobbinAllocBody_kept k t hk)

theorem bobbinFreeBody_kept (x0 s) (h : Kept s) : Kept (bobbinFreeBody x0 s).next :=
    by grind [bobbinFreeBody, storeImage_kept, done_kept, State_modBobbin_kept, checked_kept, finish_kept,
    foldl_kept, foldl_fst_kept]

theorem execBobbinFree_kept (x0 s) (h : Kept s) : ∀ t, execBobbinFree x0 s = .next t → Kept t := by
  intro t ht; cases ht; exact serve_kept _ _ _ _ h (fun k t hk => bobbinFreeBody_kept k t hk)

theorem bobbinWriteBody_kept (x0 s) (h : Kept s) : Kept (bobbinWriteBody x0 s).next :=
    by grind [bobbinWriteBody, storeImage_kept, done_kept, State_modBobbin_kept, clearErrs_kept,
    checked_kept, finish_kept, foldl_kept, foldl_fst_kept]

theorem execBobbinWrite_kept (x0 s) (h : Kept s) : ∀ t, execBobbinWrite x0 s = .next t → Kept t := by
  intro t ht; cases ht; exact serve_kept _ _ _ _ h (fun k t hk => bobbinWriteBody_kept k t hk)

theorem segmentDescBody_kept (x0 s) (h : Kept s) : Kept (segmentDescBody x0 s).next := by grind [segmentDescBody,
    State_modBobbin_kept, checked_kept, clearErrs_kept, done_kept, storeImage_kept, foldl_kept, foldl_fst_kept,
    checked, deny, checked_kept]

theorem execSegmentDesc_kept (x0 s) (h : Kept s) : ∀ t, execSegmentDesc x0 s = .next t → Kept t := by
  intro t ht; cases ht; exact serve_kept _ _ _ _ h (fun k t hk => segmentDescBody_kept k t hk)

theorem segmentDeleteBody_kept (x0 s) (h : Kept s) : Kept (segmentDeleteBody x0 s).next := by grind
    [segmentDeleteBody, State_modBobbin_kept, checked_kept, clearErrs_kept, done_kept, storeImage_kept, foldl_kept,
    foldl_fst_kept, checked, deny, checked_kept]

theorem execSegmentDelete_kept (x0 s) (h : Kept s) : ∀ t, execSegmentDelete x0 s = .next t → Kept t := by
  intro t ht; cases ht; exact serve_kept _ _ _ _ h (fun k t hk => segmentDeleteBody_kept k t hk)

theorem jumpCfgBody_kept (x0 s) (h : Kept s) : Kept (jumpCfgBody x0 s).next := by grind [jumpCfgBody,
    storeImage_kept, scheduled_kept, stage_kept, checked_kept, finish_kept, foldl_kept, foldl_fst_kept]

theorem execJumpCfg_kept (x0 s) (h : Kept s) : ∀ t, execJumpCfg x0 s = .next t → Kept t := by
  intro t ht; cases ht; exact serve_kept _ _ _ _ h (fun k t hk => jumpCfgBody_kept k t hk)

theorem applyJumpCfg_kept (s x1 x2) (h : Kept s) : Kept (applyJumpCfg s x1 x2) := by grind [applyJumpCfg,
    State_modThread_kept, storeSel_kept, foldl_kept, foldl_fst_kept]

theorem bobbinStatusBody_kept (x0 s) (h : Kept s) : Kept (bobbinStatusBody x0 s).next := by grind [bobbinStatusBody,
    State_modBobbin_kept, checked_kept, report_kept, foldl_kept, foldl_fst_kept, checked, deny, checked_kept]

theorem execBobbinStatus_kept (x0 s) (h : Kept s) : ∀ t, execBobbinStatus x0 s = .next t → Kept t := by
  intro t ht; cases ht; exact serve_kept _ _ _ _ h (fun k t hk => bobbinStatusBody_kept k t hk)

/-! ### Machine/Readout.lean -/

theorem State_modRt_kept (s x1 x2) (h : Kept s) : Kept (State.modRt s x1 x2) := by grind [State.modRt,
    foldl_kept, foldl_fst_kept]

theorem State_modPair_kept (s x1 x2) (h : Kept s) : Kept (State.modPair s x1 x2) := by grind [State.modPair,
    foldl_kept, foldl_fst_kept]

theorem State_modCap_kept (s x1 x2) (h : Kept s) : Kept (State.modCap s x1 x2) := by grind [State.modCap,
    foldl_kept, foldl_fst_kept]

theorem windowProfileBody_kept (x0 s) (h : Kept s) : Kept (windowProfileBody x0 s).next :=
    by grind [windowProfileBody, storeImage_kept, done_kept, State_modRt_kept, checked_kept, finish_kept,
    foldl_kept, foldl_fst_kept]

theorem execWindowProfile_kept (x0 s) (h : Kept s) : ∀ t, execWindowProfile x0 s = .next t → Kept t := by
  intro t ht; cases ht; exact serve_kept _ _ _ _ h (fun k t hk => windowProfileBody_kept k t hk)

theorem weightWriteBody_kept (x0 s) (h : Kept s) : Kept (weightWriteBody x0 s).next :=
    by grind [weightWriteBody, storeImage_kept, clearErrs_kept, done_kept, State_modRt_kept, checked_kept,
    finish_kept, foldl_kept, foldl_fst_kept]

theorem execWeightWrite_kept (x0 s) (h : Kept s) : ∀ t, execWeightWrite x0 s = .next t → Kept t := by
  intro t ht; cases ht; exact serve_kept _ _ _ _ h (fun k t hk => weightWriteBody_kept k t hk)

theorem weightSwapBody_kept (x0 s) (h : Kept s) : Kept (weightSwapBody x0 s).next :=
    by grind [weightSwapBody, waiting_kept, State_modRt_kept, checked_kept, finish_kept, foldl_kept,
    foldl_fst_kept]

theorem execWeightSwap_kept (x0 s) (h : Kept s) : ∀ t, execWeightSwap x0 s = .next t → Kept t := by
  intro t ht; cases ht; exact serve_kept _ _ _ _ h (fun k t hk => weightSwapBody_kept k t hk)

theorem execWeightSwapEffect_kept (x0 s) (h : Kept s) : ∀ t, execWeightSwapEffect x0 s = .next t → Kept t :=
    by
  intro t ht; grind [execWeightSwapEffect, storeImage_kept, answer_kept, State_modRt_kept, foldl_kept,
      foldl_fst_kept]

theorem readpairCfgBody_kept (x0 s) (h : Kept s) : Kept (readpairCfgBody x0 s).next :=
    by grind [readpairCfgBody, storeImage_kept, scheduled_kept, stage_kept, checked_kept, finish_kept,
    foldl_kept, foldl_fst_kept]

theorem execReadpairCfg_kept (x0 s) (h : Kept s) : ∀ t, execReadpairCfg x0 s = .next t → Kept t := by
  intro t ht; cases ht; exact serve_kept _ _ _ _ h (fun k t hk => readpairCfgBody_kept k t hk)

theorem applyReadpairCfg_kept (s x1 x2) (h : Kept s) : Kept (applyReadpairCfg s x1 x2) :=
    by grind [applyReadpairCfg, State_modPair_kept, State_modRt_kept, foldl_kept, foldl_fst_kept]

theorem rdFirCoefBody_kept (x0 s) (h : Kept s) : Kept (rdFirCoefBody x0 s).next := by grind [rdFirCoefBody,
    storeImage_kept, done_kept, State_modPair_kept, checked_kept, finish_kept, foldl_kept, foldl_fst_kept]

theorem execRdFirCoef_kept (x0 s) (h : Kept s) : ∀ t, execRdFirCoef x0 s = .next t → Kept t := by
  intro t ht; cases ht; exact serve_kept _ _ _ _ h (fun k t hk => rdFirCoefBody_kept k t hk)

theorem noteCodes_kept (s x1 x2) (h : Kept s) : Kept (noteCodes s x1 x2) := by grind [noteCodes, State_modPair_kept,
    foldl_kept, foldl_kept, foldl_fst_kept]

theorem readStatusBody_kept (x0 s) (h : Kept s) : Kept (readStatusBody x0 s).next := by grind [readStatusBody,
    State_modPair_kept, checked_kept, report_kept, foldl_kept, foldl_fst_kept, checked, deny, checked_kept]

theorem execReadStatus_kept (x0 s) (h : Kept s) : ∀ t, execReadStatus x0 s = .next t → Kept t := by
  intro t ht; cases ht; exact serve_kept _ _ _ _ h (fun k t hk => readStatusBody_kept k t hk)

/-! ### Machine/Harness.lean -/

theorem cycleReport_kept (x0 s x2 x3 x4) (h : Kept s) : Kept (cycleReport x0 s x2 x3 x4).1 :=
    by grind [cycleReport, event_kept, foldl_kept, foldl_fst_kept]

theorem harnessCfgBody_kept (x0 s) (h : Kept s) : Kept (harnessCfgBody x0 s).next :=
    by grind [harnessCfgBody, storeImage_kept, cycleReport_kept, stage_kept, checked_kept, finish_kept,
    foldl_kept, foldl_fst_kept]

theorem execHarnessCfg_kept (x0 s) (h : Kept s) : ∀ t, execHarnessCfg x0 s = .next t → Kept t := by
  intro t ht; cases ht; exact serve_kept _ _ _ _ h (fun k t hk => harnessCfgBody_kept k t hk)

theorem applyHarnessCfg_kept (s x1 x2) (h : Kept s) : Kept (applyHarnessCfg s x1 x2) :=
    by grind [applyHarnessCfg, State_modChan_kept, foldl_kept, foldl_fst_kept]

theorem harnessSinkBody_kept (x0 s) (h : Kept s) : Kept (harnessSinkBody x0 s).next :=
    by grind [harnessSinkBody, storeImage_kept, cycleReport_kept, stage_kept, checked_kept, finish_kept,
    foldl_kept, foldl_fst_kept]

theorem execHarnessSink_kept (x0 s) (h : Kept s) : ∀ t, execHarnessSink x0 s = .next t → Kept t := by
  intro t ht; cases ht; exact serve_kept _ _ _ _ h (fun k t hk => harnessSinkBody_kept k t hk)

theorem applyHarnessSink_kept (s x1 x2) (h : Kept s) : Kept (applyHarnessSink s x1 x2) := by grind
    [applyHarnessSink, storeSel_kept, foldl_kept, foldl_fst_kept]

theorem harnessFireBody_kept (x0 s) (h : Kept s) : Kept (harnessFireBody x0 s).next :=
    by grind [harnessFireBody, scheduled_kept, stage_kept, checked_kept, finish_kept, foldl_kept,
    foldl_fst_kept]

theorem execHarnessFire_kept (x0 s) (h : Kept s) : ∀ t, execHarnessFire x0 s = .next t → Kept t := by
  intro t ht; cases ht; exact serve_kept _ _ _ _ h (fun k t hk => harnessFireBody_kept k t hk)

theorem harnessStatusBody_kept (x0 s) (h : Kept s) : Kept (harnessStatusBody x0 s).next := by grind
    [harnessStatusBody, State_modChan_kept, checked_kept, report_kept, foldl_kept, foldl_fst_kept, checked, deny,
    checked_kept]

theorem execHarnessStatus_kept (x0 s) (h : Kept s) : ∀ t, execHarnessStatus x0 s = .next t → Kept t := by
  intro t ht; cases ht; exact serve_kept _ _ _ _ h (fun k t hk => harnessStatusBody_kept k t hk)

theorem execMarkerInputEdge_kept (x0 x1 s) (h : Kept s) : ∀ t, execMarkerInputEdge x0 x1 s = .next t →
    Kept t := by
  intro t ht; grind [execMarkerInputEdge, foldl_kept, foldl_fst_kept]

theorem sampleMarkers_kept (s) (h : Kept s) : Kept (sampleMarkers s) := by grind [sampleMarkers,
    assertAt_kept, foldl_kept, foldl_fst_kept]

theorem rawCaptureBody_kept (x0 s) (h : Kept s) : Kept (rawCaptureBody x0 s).next := by grind [rawCaptureBody,
    State_modCap_kept, checked_kept, cycleReport_kept, storeSel_kept, memory_tset_wf, memory_tclear_wf,
    memory_writeBytes_wf, memory_wf_nil, KeptParts, checked, deny, checked_kept]

theorem execRawCapture_kept (x0 s) (h : Kept s) : ∀ t, execRawCapture x0 s = .next t → Kept t := by
  intro t ht; cases ht; exact serve_kept _ _ _ _ h (fun k t hk => rawCaptureBody_kept k t hk)

theorem captureEnd_kept (s x1) (h : Kept s) : Kept (captureEnd s x1) := by grind [captureEnd,
    State_modCap_kept, assertAt_kept, freePayload_kept, event_kept, foldl_kept, foldl_fst_kept]

theorem rawCaptureAbortBody_kept (x0 s) (h : Kept s) : Kept (rawCaptureAbortBody x0 s).next :=
    by grind [rawCaptureAbortBody, State_modCap_kept, checked_kept, finish_kept, foldl_kept, foldl_fst_kept]

theorem execRawCaptureAbort_kept (x0 s) (h : Kept s) : ∀ t, execRawCaptureAbort x0 s = .next t → Kept t := by
  intro t ht; cases ht; exact serve_kept _ _ _ _ h (fun k t hk => rawCaptureAbortBody_kept k t hk)

theorem captureEvent_kept (s x1 x2) (h : Kept s) : Kept (captureEvent s x1 x2) := by grind [captureEvent,
    State_modCap_kept, foldl_kept, foldl_fst_kept]

theorem execCaptureStart_kept (x0 s) (h : Kept s) : ∀ t, execCaptureStart x0 s = .next t → Kept t := by
  intro t ht; grind [execCaptureStart, State_modCap_kept, foldl_kept, foldl_fst_kept]

theorem writeCapture_kept (s x1 x2 x3) (h : Kept s) : Kept (writeCapture s x1 x2 x3) := by grind [writeCapture,
    State_modCap_kept, ddrWrite_kept, memEvents_kept, noteCodes_kept, foldl_kept, foldl_fst_kept]

theorem noteTicks_kept (s x1) (h : Kept s) : Kept (noteTicks s x1) := by grind [noteTicks, State_modCap_kept,
    foldl_kept, foldl_fst_kept]

theorem cutCapture_kept (s x1) (h : Kept s) : Kept (cutCapture s x1) := by grind [cutCapture, noteTicks_kept,
    writeCapture_kept, foldl_kept, foldl_fst_kept]

theorem execCaptureDone_kept (x0 x1 x2 s) (h : Kept s) : ∀ t, execCaptureDone x0 x1 x2 s = .next t → Kept t := by
  intro t ht; grind [execCaptureDone, State_modCap_kept, captureEnd_kept, writeCapture_kept, foldl_kept,
      foldl_fst_kept]

theorem captureStatusBody_kept (x0 s) (h : Kept s) : Kept (captureStatusBody x0 s).next := by grind
    [captureStatusBody, State_modCap_kept, checked_kept, noteTicks_kept, report_kept, foldl_kept, foldl_fst_kept,
    checked, deny, checked_kept]

theorem execCaptureStatus_kept (x0 s) (h : Kept s) : ∀ t, execCaptureStatus x0 s = .next t → Kept t := by
  intro t ht; cases ht; exact serve_kept _ _ _ _ h (fun k t hk => captureStatusBody_kept k t hk)

/-! ### Machine/Spools.lean -/

theorem rewriteDesc_kept (s x1) (h : Kept s) : Kept (rewriteDesc s x1) := by grind [rewriteDesc, clearErrs_kept,
    foldl_kept, foldl_fst_kept]

theorem spoolCreateBody_kept (x0 s) (h : Kept s) : Kept (spoolCreateBody x0 s).next := by grind [spoolCreateBody,
    checked_kept, notify_kept, rewriteDesc_kept, storeImage_kept, foldl_kept, foldl_fst_kept, checked, deny,
    checked_kept]

theorem execSpoolCreate_kept (x0 s) (h : Kept s) : ∀ t, execSpoolCreate x0 s = .next t → Kept t := by
  intro t ht; cases ht; exact serve_kept _ _ _ _ h (fun k t hk => spoolCreateBody_kept k t hk)

theorem applyGeometry_kept (s x1 x2 x3 x4) (h : Kept s) : Kept (applyGeometry s x1 x2 x3 x4) := by grind
    [applyGeometry, State_modSpool_kept, rewriteDesc_kept, foldl_kept, foldl_fst_kept]

theorem appendHeld_kept (s x1) (h : Kept s) : Kept (appendHeld s x1) := by grind [appendHeld, State_modSpool_kept,
    appendEntry_kept, errRecord_kept, foldl_kept, release_kept, foldl_kept, foldl_fst_kept]

theorem resizeImage_kept (s x1) (h : Kept s) : Kept (resizeImage s x1).1 := by grind [resizeImage,
    storeImage_kept, foldl_kept, foldl_fst_kept]

theorem spoolResizeEmptyBody_kept (x0 s) (h : Kept s) : Kept (spoolResizeEmptyBody x0 s).next := by
  unfold spoolResizeEmptyBody
  exact checked_kept _ _ _ _ h (done_kept _ _ (applyGeometry_kept _ _ _ _ _ (resizeImage_kept _ _ h)))

theorem execSpoolResizeEmpty_kept (x0 s) (h : Kept s) : ∀ t, execSpoolResizeEmpty x0 s = .next t → Kept t :=
    by
  intro t ht; cases ht; exact serve_kept _ _ _ _ h (fun k t hk => spoolResizeEmptyBody_kept k t hk)

theorem spoolResizeDrainBody_kept (x0 s) (h : Kept s) : Kept (spoolResizeDrainBody x0 s).next :=
    by grind [spoolResizeDrainBody, waiting_kept, State_modSpool_kept, checked_kept, finish_kept, foldl_kept,
    foldl_fst_kept]

theorem execSpoolResizeDrain_kept (x0 s) (h : Kept s) : ∀ t, execSpoolResizeDrain x0 s = .next t → Kept t :=
    by
  intro t ht; cases ht; exact serve_kept _ _ _ _ h (fun k t hk => spoolResizeDrainBody_kept k t hk)

theorem execSpoolDrainDone_kept (x0 s) (h : Kept s) : ∀ t, execSpoolDrainDone x0 s = .next t → Kept t := by
  intro t ht; cases ht
  dsimp only
  split
  · exact h
  · split
    · exact h
    · exact answer_kept _ _ _ _ _ _ _ (appendHeld_kept _ _ (applyGeometry_kept _ _ _ _ _ (storeImage_kept _ _ _ _ _
        _ _ h)))

theorem execSpoolDrainTimeout_kept (x0 s) (h : Kept s) : ∀ t, execSpoolDrainTimeout x0 s = .next t →
    Kept t := by
  intro t ht; cases ht
  split
  · exact h
  · split
    · exact h
    · exact answer_kept _ _ _ _ _ _ _ (appendHeld_kept _ _ (State_modSpool_kept _ _ _ h))

theorem discardEntries_kept (s x1) (h : Kept s) : Kept (discardEntries s x1) := by grind [discardEntries,
    State_modSpool_kept, notify_kept, foldl_kept, foldl_fst_kept]

theorem spoolResizeDiscardBody_kept (x0 s) (h : Kept s) : Kept (spoolResizeDiscardBody x0 s).next := by grind
    [spoolResizeDiscardBody, applyGeometry_kept, checked_kept, discardEntries_kept, dropEntry_kept,
    resizeImage_kept, foldl_kept, foldl_fst_kept, checked, deny, checked_kept]

theorem execSpoolResizeDiscard_kept (x0 s) (h : Kept s) : ∀ t, execSpoolResizeDiscard x0 s = .next t →
    Kept t := by
  intro t ht; cases ht; exact serve_kept _ _ _ _ h (fun k t hk => spoolResizeDiscardBody_kept k t hk)

theorem spoolDeleteBody_kept (x0 s) (h : Kept s) : Kept (spoolDeleteBody x0 s).next := by grind [spoolDeleteBody,
    checked_kept, done_kept, readDesc_kept, storeImage_kept, foldl_kept, foldl_fst_kept, checked, deny,
    checked_kept]

theorem execSpoolDelete_kept (x0 s) (h : Kept s) : ∀ t, execSpoolDelete x0 s = .next t → Kept t := by
  intro t ht; cases ht; exact serve_kept _ _ _ _ h (fun k t hk => spoolDeleteBody_kept k t hk)

theorem spoolStatusBody_kept (x0 s) (h : Kept s) : Kept (spoolStatusBody x0 s).next := by grind [spoolStatusBody,
    State_modSpool_kept, checked_kept, report_kept, foldl_kept, foldl_fst_kept, checked, deny, checked_kept]

theorem execSpoolStatus_kept (x0 s) (h : Kept s) : ∀ t, execSpoolStatus x0 s = .next t → Kept t := by
  intro t ht; cases ht; exact serve_kept _ _ _ _ h (fun k t hk => spoolStatusBody_kept k t hk)

theorem execSpoolAppend_kept (x0 x1 x2 x3 s) (h : Kept s) : ∀ t, execSpoolAppend x0 x1 x2 x3 s = .next t →
    Kept t := by
  intro t ht; grind [execSpoolAppend, produce_kept, foldl_kept, foldl_fst_kept]

theorem execTagOrderRelease_kept (x0 s) (h : Kept s) : ∀ t, execTagOrderRelease x0 s = .next t → Kept t := by
  intro t ht; grind [execTagOrderRelease, release_kept, foldl_kept, foldl_fst_kept]

theorem createBootSpools_kept (s) (h : Kept s) : Kept (createBootSpools s) := by grind [createBootSpools,
    foldl_kept, foldl_kept, foldl_fst_kept]

/-! ### Machine/Dma.lean -/

theorem State_modDma_kept (s x1 x2) (h : Kept s) : Kept (State.modDma s x1 x2) := by grind [State.modDma,
    foldl_kept, foldl_fst_kept]

theorem execDmaStart_kept (x0 x1 s) (h : Kept s) : ∀ t, execDmaStart x0 x1 s = .next t → Kept t := by
  intro t ht; grind [execDmaStart, State_modDma_kept, foldl_kept, hostFetch_kept, memEvents_kept, readDesc_kept,
      reserve_kept, foldl_kept, foldl_fst_kept]

theorem internalRead_kept (s x1 x2) (h : Kept s) : Kept (internalRead s x1 x2).1 := by grind [internalRead,
    bitmapFixAll_kept, foldl_kept, foldl_fst_kept]

theorem internalWrite_kept (s x1 x2 x3) (h : Kept s) : Kept (internalWrite s x1 x2 x3).1 := by
  unfold internalWrite
  dsimp only
  split
  · exact poisonWords_kept _ _ (ddrWrite_kept _ _ _ h)
  · exact ⟨h.1, h.2.1, memory_poison_wf _ _ _ (memory_writeBytes_wf _ _ _ h.2.2)⟩

theorem hostSend_kept (s x1 x2 x3 x4) (h : Kept s) : Kept (hostSend s x1 x2 x3 x4) := by grind [hostSend,
    hostWrites_kept, foldl_kept, foldl_fst_kept]

theorem readAer_kept (s x1 x2 x3) (h : Kept s) : Kept (readAer s x1 x2 x3) := by
  unfold readAer; dsimp only; split <;> split <;> first | exact h | grind [State_send_kept]

theorem transfer_kept (s x1 x2 x3 x4) (h : Kept s) : Kept (transfer s x1 x2 x3 x4).next := by
  grind [transfer, takeHeaders_kept, hostSend_kept, hostFetch_kept, readAer_kept, ddrZero_kept, memEvents_kept,
    internalWrite_kept, internalRead_kept]

theorem dmaFinish_kept (s x1 x2) (h : Kept s) : Kept (dmaFinish s x1 x2) := by grind [dmaFinish, State_modDma_kept,
    assertAt_kept, consume_kept, foldl_kept, foldl_fst_kept]

theorem execDmaComplete_kept (x0 x1 s) (h : Kept s) : ∀ t, execDmaComplete x0 x1 s = .next t → Kept t := by
  intro t ht; grind [execDmaComplete, State_modDma_kept, dmaFinish_kept, handOn_kept, transfer_kept, waiting_kept,
      foldl_kept, foldl_fst_kept]

theorem resumeWait_kept (s x1) (h : Kept s) : Kept (resumeWait s x1) := by grind [resumeWait, State_modSpool_kept,
    dmaFinish_kept, dropEntry_kept, putRecorded_kept, readDesc_kept, waiting_kept, foldl_kept, foldl_fst_kept]

theorem execWaitProducerResume_kept (x0 s) (h : Kept s) : ∀ t, execWaitProducerResume x0 s = .next t →
    Kept t := by
  intro t ht; grind [execWaitProducerResume, resumeWait_kept, foldl_kept, foldl_fst_kept]

theorem dmaKick_kept (s x1 x2 x3) (h : Kept s) : Kept (dmaKick s x1 x2 x3) := by grind [dmaKick, State_modDma_kept,
    State_modSpool_kept, foldl_kept, foldl_kept, foldl_fst_kept]

/-! ### Machine/Shots.lean -/

theorem State_modLoom_kept (s x1 x2) (h : Kept s) : Kept (State.modLoom s x1 x2) := by grind [State.modLoom,
    foldl_kept, foldl_fst_kept]

theorem markShot_kept (s x1 x2 x3 x4 x5) (h : Kept s) : Kept (markShot s x1 x2 x3 x4 x5) :=
    by grind [markShot, State_modLoom_kept, foldl_kept, foldl_fst_kept]

theorem markRunning_kept (s x1 x2) (h : Kept s) : Kept (markRunning s x1 x2) := by grind [markRunning,
    markShot_kept, foldl_kept, foldl_fst_kept]

theorem markLooms_kept (s x1 x2) (h : Kept s) : Kept (markLooms s x1 x2) := by grind [markLooms,
    markRunning_kept, foldl_kept, foldl_fst_kept]

theorem shotEnded_kept (s x1) (h : Kept s) : Kept (shotEnded s x1) := by grind [shotEnded,
    State_modLoom_kept, foldl_kept, foldl_fst_kept]

theorem sendShotMarks_kept (s) (h : Kept s) : Kept (sendShotMarks s) := by grind [sendShotMarks,
    State_modLoom_kept, errRecord_kept, foldl_kept, foldl_fst_kept]

/-! ### Machine/Ports.lean -/

theorem frameChanged_kept (s x1) (h : Kept s) : Kept (frameChanged s x1) := by grind [frameChanged,
    State_modRt_kept, foldl_kept, foldl_fst_kept]

theorem setFrame_kept (s x1 x2 x3) (h : Kept s) : Kept (setFrame s x1 x2 x3) := by grind [setFrame,
    frameChanged_kept, State_modThread_kept, foldl_kept, foldl_fst_kept]

theorem portCfgBody_kept (x0 s) (h : Kept s) : Kept (portCfgBody x0 s).next := by grind [portCfgBody,
    storeImage_kept, scheduled_kept, stage_kept, checked_kept, finish_kept, foldl_kept, foldl_fst_kept]

theorem execPortCfg_kept (x0 s) (h : Kept s) : ∀ t, execPortCfg x0 s = .next t → Kept t := by
  intro t ht; cases ht; exact serve_kept _ _ _ _ h (fun k t hk => portCfgBody_kept k t hk)

theorem applyPortCfg_kept (s x1 x2) (h : Kept s) : Kept (applyPortCfg s x1 x2) := by grind [applyPortCfg,
    State_modPort_kept, foldl_kept, frameChanged_kept, foldl_kept, foldl_fst_kept]

theorem fluxCfgBody_kept (x0 s) (h : Kept s) : Kept (fluxCfgBody x0 s).next := by grind [fluxCfgBody,
    storeImage_kept, scheduled_kept, stage_kept, checked_kept, finish_kept, foldl_kept, foldl_fst_kept]

theorem execFluxCfg_kept (x0 s) (h : Kept s) : ∀ t, execFluxCfg x0 s = .next t → Kept t := by
  intro t ht; cases ht; exact serve_kept _ _ _ _ h (fun k t hk => fluxCfgBody_kept k t hk)

theorem applyFluxCfg_kept (s x1 x2) (h : Kept s) : Kept (applyFluxCfg s x1 x2) := by grind [applyFluxCfg,
    State_modPort_kept, foldl_kept, foldl_fst_kept]

theorem threadCfgBody_kept (x0 s) (h : Kept s) : Kept (threadCfgBody x0 s).next := by grind [threadCfgBody,
    storeImage_kept, scheduled_kept, stage_kept, checked_kept, finish_kept, foldl_kept, foldl_fst_kept]

theorem execThreadCfg_kept (x0 s) (h : Kept s) : ∀ t, execThreadCfg x0 s = .next t → Kept t := by
  intro t ht; cases ht; exact serve_kept _ _ _ _ h (fun k t hk => threadCfgBody_kept k t hk)

theorem releaseRing_kept (s x1) (h : Kept s) : Kept (releaseRing s x1) := by grind [releaseRing,
    State_modBobbin_kept, foldl_kept, foldl_fst_kept]

theorem stopPlayer_kept (s x1) (h : Kept s) : Kept (stopPlayer s x1) := by grind [stopPlayer,
    State_modThread_kept, releaseRing_kept, foldl_kept, foldl_fst_kept]

theorem noteEntryRead_kept (s x1 x2 x3 x4) (h : Kept s) : Kept (noteEntryRead s x1 x2 x3 x4) := by grind
    [noteEntryRead, memEvents_kept, foldl_kept, foldl_fst_kept]

theorem selectFreq_kept (s x1 x2 x3) (h : Kept s) : Kept (selectFreq s x1 x2 x3) := by grind [selectFreq,
    State_modThread_kept, noteEntryRead_kept, setFrame_kept, foldl_kept, foldl_fst_kept]

theorem selectAmp_kept (s x1 x2) (h : Kept s) : Kept (selectAmp s x1 x2) := by grind [selectAmp,
    State_modThread_kept, noteEntryRead_kept, foldl_kept, foldl_fst_kept]

theorem selectLvl_kept (s x1 x2) (h : Kept s) : Kept (selectLvl s x1 x2) := by grind [selectLvl,
    State_modThread_kept, noteEntryRead_kept, foldl_kept, foldl_fst_kept]

theorem applyThreadCfg_kept (s x1 x2) (h : Kept s) : Kept (applyThreadCfg s x1 x2) := by grind [applyThreadCfg,
    State_modRt_kept, State_modThread_kept, selectAmp_kept, selectFreq_kept, selectLvl_kept, stopPlayer_kept,
    foldl_kept, foldl_fst_kept]

theorem tsetCfgBody_kept (x0 s) (h : Kept s) : Kept (tsetCfgBody x0 s).next := by grind [tsetCfgBody,
    storeImage_kept, done_kept, State_modPort_kept, checked_kept, finish_kept, foldl_kept, foldl_fst_kept]

theorem execTsetCfg_kept (x0 s) (h : Kept s) : ∀ t, execTsetCfg x0 s = .next t → Kept t := by
  intro t ht; cases ht; exact serve_kept _ _ _ _ h (fun k t hk => tsetCfgBody_kept k t hk)

theorem writeList_kept (s x1 x2 x3 x4 x5 x6 x7) (h : Kept s) : Kept (writeList s x1 x2 x3 x4 x5 x6 x7) := by grind
    [writeList, State_modThread_kept, clearErrs_kept, foldl_kept, foldl_kept, foldl_fst_kept]

theorem listWriteBody_kept (x0 s) (h : Kept s) : Kept (listWriteBody x0 s).next := by grind [listWriteBody,
    storeImage_kept, done_kept, writeList_kept, checked_kept, finish_kept, foldl_kept, foldl_fst_kept]

theorem execListWrite_kept (x0 s) (h : Kept s) : ∀ t, execListWrite x0 s = .next t → Kept t := by
  intro t ht; cases ht; exact serve_kept _ _ _ _ h (fun k t hk => listWriteBody_kept k t hk)

theorem writeBank_kept (s x1 x2) (h : Kept s) : Kept (writeBank s x1 x2) := by grind [writeBank,
    State_modPort_kept, foldl_kept, foldl_fst_kept]

theorem pdCoefBody_kept (x0 s) (h : Kept s) : Kept (pdCoefBody x0 s).next := by grind [pdCoefBody,
    storeImage_kept, done_kept, writeBank_kept, checked_kept, finish_kept, foldl_kept, foldl_fst_kept]

theorem execPdCoef_kept (x0 s) (h : Kept s) : ∀ t, execPdCoef x0 s = .next t → Kept t := by
  intro t ht; cases ht; exact serve_kept _ _ _ _ h (fun k t hk => pdCoefBody_kept k t hk)

theorem fluxPdBody_kept (x0 s) (h : Kept s) : Kept (fluxPdBody x0 s).next := by grind [fluxPdBody,
    storeImage_kept, done_kept, writeBank_kept, checked_kept, finish_kept, foldl_kept, foldl_fst_kept]

theorem execFluxPd_kept (x0 s) (h : Kept s) : ∀ t, execFluxPd x0 s = .next t → Kept t := by
  intro t ht; cases ht; exact serve_kept _ _ _ _ h (fun k t hk => fluxPdBody_kept k t hk)

theorem portStatusBody_kept (x0 x1 x2 s) (h : Kept s) : Kept (portStatusBody x0 x1 x2 s).next := by grind
    [portStatusBody, State_modPort_kept, checked_kept, report_kept, foldl_kept, foldl_fst_kept, checked, deny,
    checked_kept]

theorem execPortStatus_kept (x0 s) (h : Kept s) : ∀ t, execPortStatus x0 s = .next t → Kept t := by
  intro t ht; cases ht; exact serve_kept _ _ _ _ h (fun k t hk => by grind [portStatusBody_kept,
      checked_kept, deny])

theorem execFluxStatus_kept (x0 s) (h : Kept s) : ∀ t, execFluxStatus x0 s = .next t → Kept t := by
  intro t ht; cases ht; exact serve_kept _ _ _ _ h (fun k t hk => by grind [portStatusBody_kept,
      checked_kept, deny])

/-! ### Machine/Players.lean -/

theorem dropOps_kept (s x1 x2) (h : Kept s) : Kept (dropOps s x1 x2) := by grind [dropOps, foldl_kept,
    foldl_fst_kept]

theorem portFlag_kept (s x1 x2 x3) (h : Kept s) : Kept (portFlag s x1 x2 x3) := by grind [portFlag,
    State_modPort_kept, foldl_kept, foldl_kept, foldl_fst_kept]

theorem takeTs_kept (s x1) (h : Kept s) : Kept (takeTs s x1) := by grind [takeTs, State_modThread_kept,
    portFlag_kept, foldl_kept, foldl_fst_kept]

theorem onEmission_kept (s t op act) (h : Kept s) (ha : ∀ s w es, Kept s → Kept (act s w es)) :
    Kept (onEmission s t op act) := by
  grind [onEmission, dropOps_kept, takeTs_kept, portFlag_kept]

theorem execEmitTset_kept (x0 s) (h : Kept s) : ∀ t, execEmitTset x0 s = .next t → Kept t := by
  intro t ht; cases ht; exact onEmission_kept _ _ _ _ (h) (fun s w es hs => by grind [onEmission_kept])

theorem ncoConf_kept (s x1) (h : Kept s) : Kept (ncoConf s x1) := by grind [ncoConf, foldl_kept, foldl_fst_kept]

theorem execEmitFreq_kept (x0 s) (h : Kept s) : ∀ t, execEmitFreq x0 s = .next t → Kept t := by
  intro t ht; grind [execEmitFreq, ncoConf_kept, onEmission_kept, selectFreq_kept, foldl_kept, foldl_fst_kept]

theorem addPhase_kept (t) (z : BitVec 32 × State) (i) (h : Kept z.2) : Kept (addPhase t z i).2 :=
  noteEntryRead_kept _ _ _ _ _ h

theorem addPhases_kept (t) (l : List Nat) (z : BitVec 32 × State) (h : Kept z.2) :
    Kept (l.foldl (addPhase t) z).2 := by
  induction l generalizing z with
  | nil => exact h
  | cons i l ih => exact ih _ (addPhase_kept t z i h)

theorem execEmitPhase_kept (x0 s) (h : Kept s) : ∀ t, execEmitPhase x0 s = .next t → Kept t := by
  intro t ht; cases ht
  refine onEmission_kept _ _ _ _ h (fun u _ es hu => ?_)
  refine ncoConf_kept _ _ (setFrame_kept _ _ _ _ (addPhases_kept _ _ _ ?_))
  split <;> [exact addPhase_kept _ _ _ hu; exact hu]

theorem execEmitAmp_kept (x0 s) (h : Kept s) : ∀ t, execEmitAmp x0 s = .next t → Kept t := by
  intro t ht; grind [execEmitAmp, onEmission_kept, portFlag_kept, selectAmp_kept, foldl_kept, foldl_fst_kept]

theorem execEmitFlux_kept (x0 s) (h : Kept s) : ∀ t, execEmitFlux x0 s = .next t → Kept t := by
  intro t ht; grind [execEmitFlux, onEmission_kept, portFlag_kept, selectLvl_kept, foldl_kept, foldl_fst_kept]

theorem bobFlag_kept (s x1 x2) (h : Kept s) : Kept (bobFlag s x1 x2) := by grind [bobFlag, State_modBobbin_kept,
    foldl_kept, foldl_fst_kept]

theorem startSegment_kept (s x1 x2 x3 x4 x5 x6) (h : Kept s) : Kept (startSegment s x1 x2 x3 x4 x5 x6) :=
    by grind [startSegment, bobFlag_kept, State_modBobbin_kept, State_modThread_kept, foldl_kept,
    foldl_fst_kept]

theorem noteSegRead_kept (s x1 x2) (h : Kept s) : Kept (noteSegRead s x1 x2) := by grind [noteSegRead,
    memEvents_kept, foldl_kept, foldl_fst_kept]

theorem takeSegment_kept (s x1 x2 x3 x4) (h : Kept s) : Kept (takeSegment s x1 x2 x3 x4) := by grind [takeSegment,
    bobFlag_kept, noteSegRead_kept, releaseRing_kept, startSegment_kept, foldl_kept, foldl_fst_kept]

theorem goIdle_kept (s x1 x2) (h : Kept s) : Kept (goIdle s x1 x2) := by grind [goIdle, State_modThread_kept,
    releaseRing_kept, foldl_kept, foldl_fst_kept]

theorem chainOrIdle_kept (s x1) (h : Kept s) : Kept (chainOrIdle s x1) := by grind [chainOrIdle, bobFlag_kept,
    goIdle_kept, noteSegRead_kept, startSegment_kept, takeSegment_kept, foldl_kept, foldl_fst_kept]

theorem passBoundary_kept (s x1 x2) (h : Kept s) : Kept (passBoundary s x1 x2) := by grind [passBoundary,
    State_modThread_kept, bobFlag_kept, chainOrIdle_kept, goIdle_kept, noteSegRead_kept, takeSegment_kept,
    foldl_kept, foldl_fst_kept]

theorem boundary_kept (s x1) (h : Kept s) : Kept (boundary s x1) := by grind [boundary, passBoundary_kept,
    takeTs_kept, foldl_kept, foldl_fst_kept]

theorem execSegmentEnd_kept (x0 s) (h : Kept s) : ∀ t, execSegmentEnd x0 s = .next t → Kept t := by
  intro t ht; grind [execSegmentEnd, boundary_kept, foldl_kept, foldl_fst_kept]

theorem requestJump_kept (s x1 x2 x3 x4) (h : Kept s) : Kept (requestJump s x1 x2 x3 x4) :=
    by grind [requestJump, State_modThread_kept, bobFlag_kept, foldl_kept, foldl_fst_kept]

theorem execEmitPlay_kept (x0 s) (h : Kept s) : ∀ t, execEmitPlay x0 s = .next t → Kept t := by
  intro t ht; grind [execEmitPlay, bobFlag_kept, boundary_kept, onEmission_kept, requestJump_kept, stopPlayer_kept,
      takeSegment_kept, foldl_kept, foldl_fst_kept]

theorem jumpEvent_kept (s x1) (h : Kept s) : Kept (jumpEvent s x1) := by grind [jumpEvent, portFlag_kept,
    boundary_kept, takeTs_kept, bobFlag_kept, requestJump_kept, takeSegment_kept, foldl_kept, foldl_fst_kept]

theorem execStreamFetchIssue_kept (x0 s) (h : Kept s) : ∀ t, execStreamFetchIssue x0 s = .next t → Kept t := by
  intro t ht; grind [execStreamFetchIssue, State_modBobbin_kept, appendEntry_kept, foldl_kept, foldl_fst_kept]

theorem ringArrive_kept (s x1 x2 x3 x4 x5) (h : Kept s) : Kept (ringArrive s x1 x2 x3 x4 x5) := by grind
    [ringArrive, State_modBobbin_kept, clearErrs_kept, foldl_kept, foldl_kept, foldl_fst_kept]

theorem execStreamFetchDone_kept (x0 s) (h : Kept s) : ∀ t, execStreamFetchDone x0 s = .next t → Kept t := by
  intro t ht; grind [execStreamFetchDone, consume_kept, errRecord_kept, internalRead_kept, memEvents_kept,
      readDesc_kept, ringArrive_kept, takeHeader_kept, foldl_kept, foldl_fst_kept]

theorem execUnderrunFill_kept (x0 s) (h : Kept s) : ∀ t, execUnderrunFill x0 s = .next t → Kept t := by
  intro t ht; grind [execUnderrunFill, State_modBobbin_kept, State_modThread_kept, assertLine_kept, markLooms_kept,
      memEvents_kept, foldl_kept, foldl_fst_kept]

/-! ### Machine/Partition.lean -/

theorem ledgerReadBody_kept (x0 s) (h : Kept s) : Kept (ledgerReadBody x0 s).next :=
    by grind [ledgerReadBody, checked_kept, finish_kept, foldl_kept, foldl_fst_kept]

theorem execLedgerRead_kept (x0 s) (h : Kept s) : ∀ t, execLedgerRead x0 s = .next t → Kept t := by
  intro t ht; cases ht; exact serve_kept _ _ _ _ h (fun k t hk => ledgerReadBody_kept k t hk)

theorem partCfgBody_kept (x0 s) (h : Kept s) : Kept (partCfgBody x0 s).next := by grind [partCfgBody,
    storeImage_kept, done_kept, checked_kept, finish_kept, foldl_kept, foldl_fst_kept]

theorem execPartCfg_kept (x0 s) (h : Kept s) : ∀ t, execPartCfg x0 s = .next t → Kept t := by
  intro t ht; cases ht; exact serve_kept _ _ _ _ h (fun k t hk => partCfgBody_kept k t hk)

theorem setKey_kept (s x1 x2) (h : Kept s) : Kept (setKey s x1 x2).next := by grind [setKey, storeImage_kept,
    done_kept, foldl_kept, foldl_fst_kept]

theorem keyInstallBody_kept (x0 s) (h : Kept s) : Kept (keyInstallBody x0 s).next :=
    by grind [keyInstallBody, setKey_kept, checked_kept, finish_kept, foldl_kept, foldl_fst_kept]

theorem execKeyInstall_kept (x0 s) (h : Kept s) : ∀ t, execKeyInstall x0 s = .next t → Kept t := by
  intro t ht; cases ht; exact serve_kept _ _ _ _ h (fun k t hk => keyInstallBody_kept k t hk)

theorem keyRevokeBody_kept (x0 s) (h : Kept s) : Kept (keyRevokeBody x0 s).next := by grind [keyRevokeBody,
    setKey_kept, checked_kept, finish_kept, foldl_kept, foldl_fst_kept]

theorem execKeyRevoke_kept (x0 s) (h : Kept s) : ∀ t, execKeyRevoke x0 s = .next t → Kept t := by
  intro t ht; cases ht; exact serve_kept _ _ _ _ h (fun k t hk => keyRevokeBody_kept k t hk)

theorem execKeyStatus_kept (x0 s) (h : Kept s) : ∀ t, execKeyStatus x0 s = .next t → Kept t := by
  intro t ht; cases ht; exact serve_kept _ _ _ _ h (fun k t hk => by grind [report_kept, checked_kept, deny])

/-! ### Machine/Bias.lean -/

theorem State_modBc_kept (s x1 x2) (h : Kept s) : Kept (State.modBc s x1 x2) := by grind [State.modBc,
    foldl_kept, foldl_fst_kept]

theorem execBiasSlewStep_kept (x0 s) (h : Kept s) : ∀ t, execBiasSlewStep x0 s = .next t → Kept t := by
  intro t ht; grind [execBiasSlewStep, State_modBc_kept, foldl_kept, foldl_fst_kept]

theorem execDeglitchHoldEnd_kept (x0 s) (h : Kept s) : ∀ t, execDeglitchHoldEnd x0 s = .next t → Kept t := by
  intro t ht; grind [execDeglitchHoldEnd, State_modBc_kept, foldl_kept, foldl_fst_kept]

theorem execBiasClampEngage_kept (x0 s) (h : Kept s) : ∀ t, execBiasClampEngage x0 s = .next t → Kept t := by
  intro t ht; grind [execBiasClampEngage, State_modBc_kept, foldl_kept, foldl_fst_kept]

theorem execRangeClampRelease_kept (x0 s) (h : Kept s) : ∀ t, execRangeClampRelease x0 s = .next t →
    Kept t := by
  intro t ht; grind [execRangeClampRelease, State_modBc_kept, foldl_kept, foldl_fst_kept]

theorem bcHit_kept (s x1 x2) (h : Kept s) : Kept (bcHit s x1 x2) := by grind [bcHit, State_modBc_kept, foldl_kept,
    foldl_fst_kept]

theorem takeQueue_kept (s x1) (h : Kept s) : Kept (takeQueue s x1) := by grind [takeQueue, State_modBc_kept,
    consume_kept, memEvents_kept, readDesc_kept, foldl_kept, foldl_fst_kept]

theorem execBiasUpdate_kept (x0 s) (h : Kept s) : ∀ t, execBiasUpdate x0 s = .next t → Kept t := by
  intro t ht; grind [execBiasUpdate, State_modBc_kept, takeQueue_kept, foldl_kept, foldl_fst_kept]

theorem execEmitBias_kept (x0 s) (h : Kept s) : ∀ t, execEmitBias x0 s = .next t → Kept t := by
  intro t ht; grind [execEmitBias, produce_kept, bcHit_kept, dropEntry_kept, dropOps_kept, foldl_kept,
      foldl_fst_kept]

theorem stepEvent_kept (s x1 x2) (h : Kept s) : Kept (stepEvent s x1 x2) := by grind [stepEvent,
    State_modBc_kept, foldl_kept, foldl_fst_kept]

theorem execBiasCompliance_kept (x0 s) (h : Kept s) : ∀ t, execBiasCompliance x0 s = .next t → Kept t := by
  intro t ht; grind [execBiasCompliance, bcHit_kept, foldl_kept, foldl_fst_kept]

theorem allBias_kept (s x1) (h : Kept s) : Kept (allBias s x1) := by grind [allBias, State_modBc_kept,
    foldl_kept, foldl_fst_kept]

theorem biasSafe_kept (s) (h : Kept s) : Kept (biasSafe s) := by grind [biasSafe, allBias_kept, foldl_kept,
    foldl_fst_kept]

theorem biasHold_kept (s) (h : Kept s) : Kept (biasHold s) := by grind [biasHold, allBias_kept, foldl_kept,
    foldl_fst_kept]

theorem biasClampAll_kept (s) (h : Kept s) : Kept (biasClampAll s) := by grind [biasClampAll, allBias_kept,
    foldl_kept, foldl_fst_kept]

theorem biasPowerUp_kept (s) (h : Kept s) : Kept (biasPowerUp s) := by grind [biasPowerUp, allBias_kept, foldl_kept,
    foldl_fst_kept]

theorem biasGroupCfgBody_kept (x0 s) (h : Kept s) : Kept (biasGroupCfgBody x0 s).next :=
    by grind [biasGroupCfgBody, storeImage_kept, scheduled_kept, stage_kept, checked_kept, finish_kept,
    foldl_kept, foldl_fst_kept]

theorem execBiasGroupCfg_kept (x0 s) (h : Kept s) : ∀ t, execBiasGroupCfg x0 s = .next t → Kept t := by
  intro t ht; cases ht; exact serve_kept _ _ _ _ h (fun k t hk => biasGroupCfgBody_kept k t hk)

theorem applyBiasGroup_kept (s x1 x2) (h : Kept s) : Kept (applyBiasGroup s x1 x2) :=
    by grind [applyBiasGroup, foldl_kept, foldl_fst_kept]

theorem biasCfgBody_kept (x0 s) (h : Kept s) : Kept (biasCfgBody x0 s).next := by grind [biasCfgBody,
    storeImage_kept, scheduled_kept, stage_kept, checked_kept, finish_kept, foldl_kept, foldl_fst_kept]

theorem execBiasCfg_kept (x0 s) (h : Kept s) : ∀ t, execBiasCfg x0 s = .next t → Kept t := by
  intro t ht; cases ht; exact serve_kept _ _ _ _ h (fun k t hk => biasCfgBody_kept k t hk)

theorem applyBiasCfg_kept (s x1 x2) (h : Kept s) : Kept (applyBiasCfg s x1 x2) := by grind [applyBiasCfg,
    State_modBc_kept, storeSel_kept, foldl_kept, foldl_fst_kept]

theorem biasCtlBody_kept (x0 x1 s) (h : Kept s) : Kept (biasCtlBody x0 x1 s).next := by grind [biasCtlBody,
    scheduled_kept, stage_kept, checked_kept, finish_kept, foldl_kept, foldl_fst_kept]

theorem execBiasRun_kept (x0 s) (h : Kept s) : ∀ t, execBiasRun x0 s = .next t → Kept t := by
  intro t ht; cases ht; exact serve_kept _ _ _ _ h (fun k t hk => by grind [biasCtlBody_kept, checked_kept,
      deny])

theorem execBiasTest_kept (x0 s) (h : Kept s) : ∀ t, execBiasTest x0 s = .next t → Kept t := by
  intro t ht; cases ht; exact serve_kept _ _ _ _ h (fun k t hk => by grind [biasCtlBody_kept, checked_kept,
      deny])

theorem execBiasClamp_kept (x0 s) (h : Kept s) : ∀ t, execBiasClamp x0 s = .next t → Kept t := by
  intro t ht; cases ht; exact serve_kept _ _ _ _ h (fun k t hk => by grind [biasCtlBody_kept, checked_kept,
      deny])

theorem applyBiasCtl_kept (s x1 x2) (h : Kept s) : Kept (applyBiasCtl s x1 x2) := by grind [applyBiasCtl,
    State_modBc_kept, foldl_kept, foldl_fst_kept]

theorem biasNvBody_kept (x0 s) (h : Kept s) : Kept (biasNvBody x0 s).next := by grind [biasNvBody,
    storeImage_kept, done_kept, State_modBc_kept, checked_kept, finish_kept, foldl_kept, foldl_fst_kept]

theorem execBiasNv_kept (x0 s) (h : Kept s) : ∀ t, execBiasNv x0 s = .next t → Kept t := by
  intro t ht; cases ht; exact serve_kept _ _ _ _ h (fun k t hk => biasNvBody_kept k t hk)

theorem biasStatusBody_kept (x0 s) (h : Kept s) : Kept (biasStatusBody x0 s).next := by grind [biasStatusBody,
    State_modBc_kept, checked_kept, report_kept, foldl_kept, foldl_fst_kept, checked, deny, checked_kept]

theorem execBiasStatus_kept (x0 s) (h : Kept s) : ∀ t, execBiasStatus x0 s = .next t → Kept t := by
  intro t ht; cases ht; exact serve_kept _ _ _ _ h (fun k t hk => biasStatusBody_kept k t hk)

/-! ### Machine/Warp.lean -/

theorem State_modBit_kept (s x1 x2) (h : Kept s) : Kept (State.modBit s x1 x2) := by grind [State.modBit,
    foldl_kept, foldl_fst_kept]

theorem warpHit_kept (s x1 x2) (h : Kept s) : Kept (warpHit s x1 x2) := by grind [warpHit, foldl_kept, foldl_fst_kept]

theorem arm_kept (s x1 x2 x3) (h : Kept s) : Kept (arm s x1 x2 x3).1 := by grind [arm, warpHit_kept,
    State_modBit_kept, foldl_kept, foldl_fst_kept]

theorem writeDecision_kept (s x1 x2 x3 x4 x5 x6) (h : Kept s) : Kept (writeDecision s x1 x2 x3 x4 x5 x6) :=
    by grind [writeDecision, State_modBit_kept, foldl_kept, foldl_fst_kept]

theorem killDecisions_kept (s x1) (h : Kept s) : Kept (killDecisions s x1) := by grind [killDecisions, foldl_kept,
    foldl_fst_kept]

theorem taintLoom_kept (s x1) (h : Kept s) : Kept (taintLoom s x1) := by grind [taintLoom, foldl_kept,
    foldl_fst_kept]

theorem resetDecisions_kept (x0 s) (h : Kept s) : Kept (resetDecisions x0 s) := by grind [resetDecisions,
    foldl_kept, foldl_fst_kept]

theorem assertOnce_kept (s x1) (h : Kept s) : Kept (assertOnce s x1) := by grind [assertOnce,
    assertLine_kept, foldl_kept, foldl_fst_kept]

theorem execDueTick_kept (x0 s) (h : Kept s) : ∀ t, execDueTick x0 s = .next t → Kept t := by
  intro t ht; grind [execDueTick, assertOnce_kept, State_modBit_kept, foldl_kept, foldl_fst_kept]

theorem warpBindBody_kept (x0 s) (h : Kept s) : Kept (warpBindBody x0 s).next := by grind [warpBindBody,
    storeImage_kept, scheduled_kept, stage_kept, checked_kept, finish_kept, foldl_kept, foldl_fst_kept]

theorem execWarpBind_kept (x0 s) (h : Kept s) : ∀ t, execWarpBind x0 s = .next t → Kept t := by
  intro t ht; cases ht; exact serve_kept _ _ _ _ h (fun k t hk => warpBindBody_kept k t hk)

theorem applyWarpBind_kept (s x1 x2) (h : Kept s) : Kept (applyWarpBind s x1 x2) := by grind [applyWarpBind,
    foldl_kept, foldl_fst_kept]

theorem warpLoss_kept (s x1) (h : Kept s) : Kept (warpLoss s x1) := by grind [warpLoss, warpHit_kept,
    foldl_kept, foldl_fst_kept]

theorem showLosses_kept (s) (h : Kept s) : Kept (showLosses s) := by grind [showLosses, foldl_kept, warpLoss_kept,
    foldl_kept, foldl_fst_kept]

theorem keepBinds_kept (s) (h : Kept s) : Kept (keepBinds s) := by grind [keepBinds, foldl_kept, foldl_fst_kept]

theorem warpStatusBody_kept (x0 s) (h : Kept s) : Kept (warpStatusBody x0 s).next := by grind [warpStatusBody,
    checked_kept, report_kept, foldl_kept, foldl_fst_kept, checked, deny, checked_kept]

theorem execWarpStatus_kept (x0 s) (h : Kept s) : ∀ t, execWarpStatus x0 s = .next t → Kept t := by
  intro t ht; cases ht; exact serve_kept _ _ _ _ h (fun k t hk => warpStatusBody_kept k t hk)

/-! ### Machine/Loom.lean -/

theorem loomLoadBody_kept (x0 s) (h : Kept s) : Kept (loomLoadBody x0 s).next := by grind [loomLoadBody,
    done_kept, State_modLoom_kept, clearErrs_kept, checked_kept, finish_kept, foldl_kept, foldl_fst_kept]

theorem execLoomLoad_kept (x0 s) (h : Kept s) : ∀ t, execLoomLoad x0 s = .next t → Kept t := by
  intro t ht; cases ht; exact serve_kept _ _ _ _ h (fun k t hk => loomLoadBody_kept k t hk)

theorem loomCfgBody_kept (x0 s) (h : Kept s) : Kept (loomCfgBody x0 s).next := by grind [loomCfgBody,
    State_modLoom_kept, checked_kept, done_kept, foldl_kept, storeImage_kept, storeSel_kept, foldl_kept,
    foldl_fst_kept, checked, deny, checked_kept]

theorem execLoomCfg_kept (x0 s) (h : Kept s) : ∀ t, execLoomCfg x0 s = .next t → Kept t := by
  intro t ht; cases ht; exact serve_kept _ _ _ _ h (fun k t hk => loomCfgBody_kept k t hk)

theorem loomHit_kept (s x1 x2) (h : Kept s) : Kept (loomHit s x1 x2) := by grind [loomHit, State_modLoom_kept,
    foldl_kept, foldl_fst_kept]

theorem loomRunBody_kept (x0 s) (h : Kept s) : Kept (loomRunBody x0 s).next := by grind [loomRunBody,
    scheduled_kept, State_modLoom_kept, checked_kept, finish_kept, foldl_kept, foldl_fst_kept]

theorem execLoomRun_kept (x0 s) (h : Kept s) : ∀ t, execLoomRun x0 s = .next t → Kept t := by
  intro t ht; cases ht; exact serve_kept _ _ _ _ h (fun k t hk => loomRunBody_kept k t hk)

theorem loomStopBody_kept (x0 s) (h : Kept s) : Kept (loomStopBody x0 s).next := by grind [loomStopBody,
    done_kept, State_modLoom_kept, checked_kept, finish_kept, foldl_kept, foldl_fst_kept]

theorem execLoomStop_kept (x0 s) (h : Kept s) : ∀ t, execLoomStop x0 s = .next t → Kept t := by
  intro t ht; cases ht; exact serve_kept _ _ _ _ h (fun k t hk => loomStopBody_kept k t hk)

theorem loomAbortBody_kept (x0 s) (h : Kept s) : Kept (loomAbortBody x0 s).next := by grind [loomAbortBody,
    scheduled_kept, State_modLoom_kept, checked_kept, finish_kept, foldl_kept, foldl_fst_kept]

theorem execLoomAbort_kept (x0 s) (h : Kept s) : ∀ t, execLoomAbort x0 s = .next t → Kept t := by
  intro t ht; cases ht; exact serve_kept _ _ _ _ h (fun k t hk => loomAbortBody_kept k t hk)

theorem cutRun_kept (s x1 x2 x3) (h : Kept s) : Kept (cutRun s x1 x2 x3) := by grind [cutRun, State_modLoom_kept,
    markRunning_kept, shotEnded_kept, taintLoom_kept, foldl_kept, foldl_fst_kept]

theorem applyAborts_kept (s) (h : Kept s) : Kept (applyAborts s) := by grind [applyAborts, cutRun_kept,
    State_modLoom_kept, foldl_kept, foldl_fst_kept]

theorem execShotStart_kept (x0 s) (h : Kept s) : ∀ t, execShotStart x0 s = .next t → Kept t := by
  intro t ht; grind [execShotStart, State_modLoom_kept, foldl_kept, foldl_fst_kept]

theorem testBit_kept (s x1 x2) (h : Kept s) : Kept (testBit s x1 x2).next := by grind [testBit, loomHit_kept,
    warpHit_kept, markShot_kept, foldl_kept, foldl_fst_kept]

theorem testCond_kept (s x1 x2 x3) (h : Kept s) : Kept (testCond s x1 x2 x3).next := by grind [testCond,
    testBit_kept, foldl_kept, foldl_fst_kept]

theorem presentSlots_kept (s x1 x2) (h : Kept s) : Kept (presentSlots s x1 x2) := by grind [presentSlots,
    loomHit_kept, State_modLoom_kept, foldl_kept, foldl_fst_kept]

theorem publish_kept (s x1 x2) (h : Kept s) : Kept (publish s x1 x2) := by grind [publish, State_modLoom_kept,
    foldl_kept, foldl_fst_kept]

theorem armPub_kept (s x1) (h : Kept s) : Kept (armPub s x1) := by grind [armPub, State_modLoom_kept, arm_kept,
    writeDecision_kept, foldl_kept, foldl_fst_kept]

theorem armPubs_kept (s) (h : Kept s) : Kept (armPubs s) := by grind [armPubs, armPub_kept, foldl_kept, foldl_kept,
    foldl_fst_kept]

theorem raises_kept (s x1 x2) (h : Kept s) : Kept (raises s x1 x2) := by grind [raises, assertAt_kept,
    foldl_kept, foldl_fst_kept]

theorem pushRecord_kept (s x1 x2 x3) (h : Kept s) : Kept (pushRecord s x1 x2 x3) := by grind [pushRecord,
    State_modLoom_kept, loomHit_kept, reserve_kept, foldl_kept, foldl_fst_kept]

theorem handPushes_kept (s) (h : Kept s) : Kept (handPushes s) := by grind [handPushes, State_modLoom_kept,
    handOn_kept, foldl_kept, foldl_fst_kept]

theorem draftFault_kept (s x1) (h : Kept s) : Kept (draftFault s x1) := by grind [draftFault, State_modLoom_kept,
    markRunning_kept, shotEnded_kept, taintLoom_kept, foldl_kept, foldl_fst_kept]

theorem endShot_kept (s x1) (h : Kept s) : Kept (endShot s x1) := by grind [endShot, State_modLoom_kept,
    shotEnded_kept, foldl_kept, foldl_fst_kept]

theorem clearLatch_kept (s x1 x2) (h : Kept s) : Kept (clearLatch s x1 x2) := by grind [clearLatch,
    State_modLoom_kept, foldl_kept, foldl_fst_kept]

theorem advance_kept (s x1 x2 x3 x4 x5) (h : Kept s) : Kept (advance s x1 x2 x3 x4 x5) := by grind [advance,
    State_modLoom_kept, endShot_kept, testCond_kept, clearLatch_kept, foldl_kept, foldl_fst_kept]

theorem sampleTaints_kept (s) (h : Kept s) : Kept (sampleTaints s) := by grind [sampleTaints, State_modLoom_kept,
    foldl_kept, foldl_kept, foldl_fst_kept]

theorem execMicroword_kept (x0 s) (h : Kept s) : ∀ t, execMicroword x0 s = .next t → Kept t := by
  intro t ht; grind [execMicroword, State_modLoom_kept, memEvents_kept, draftFault_kept, presentSlots_kept,
      advance_kept, pushRecord_kept, raises_kept, publish_kept, foldl_kept, foldl_fst_kept]

theorem loomStatusBody_kept (x0 s) (h : Kept s) : Kept (loomStatusBody x0 s).next := by grind [loomStatusBody,
    State_modLoom_kept, checked_kept, report_kept, foldl_kept, foldl_fst_kept, checked, deny, checked_kept]

theorem execLoomStatus_kept (x0 s) (h : Kept s) : ∀ t, execLoomStatus x0 s = .next t → Kept t := by
  intro t ht; cases ht; exact serve_kept _ _ _ _ h (fun k t hk => loomStatusBody_kept k t hk)

theorem execEmitMark_kept (x0 s) (h : Kept s) : ∀ t, execEmitMark x0 s = .next t → Kept t := by
  intro t ht; cases ht
  have hp : ∀ (s : State) b, Kept s → Kept { s with markOut := b } := fun s b hs => hs
  split
  · exact foldl_kept _ _ _ h (fun s _ hs => hp s _ hs)
  · exact foldl_kept _ _ _ (hp _ _ (foldl_kept _ _ _ h (fun s _ hs => hp s _ hs))) (fun s e hs => loomHit_kept _ _ _
      hs)

/-! ### Machine/HarnessRun.lean -/

theorem closeHarness_kept (s x1) (h : Kept s) : Kept (closeHarness s x1) := by grind [closeHarness,
    State_modChan_kept, foldl_kept, foldl_kept, foldl_fst_kept]

theorem cutSegment_kept (s x1) (h : Kept s) : Kept (cutSegment s x1) := by grind [cutSegment, foldl_kept,
    foldl_fst_kept]

theorem applyHarnessFire_kept (s x1) (h : Kept s) : Kept (applyHarnessFire s x1) :=
    by grind [applyHarnessFire, assertOnce_kept, foldl_kept, foldl_fst_kept]

theorem coinc_kept (s x1) (h : Kept s) : Kept (coinc s x1) := by grind [coinc, State_modChan_kept, foldl_kept,
    foldl_fst_kept]

theorem loomEvent_kept (s x1 x2) (h : Kept s) : Kept (loomEvent s x1 x2) := by grind [loomEvent,
    State_modLoom_kept, foldl_kept, foldl_fst_kept]

theorem tblErr_kept (s x1 x2) (h : Kept s) : Kept (tblErr s x1 x2) := by grind [tblErr, State_modChan_kept,
    errRecord_kept, foldl_kept, foldl_fst_kept]

theorem checkChan_kept (s x1) (h : Kept s) : Kept (checkChan s x1) := by grind [checkChan, State_modChan_kept,
    foldl_kept, tblErr_kept, foldl_kept, foldl_fst_kept]

theorem setSel_kept (s x1 x2) (h : Kept s) : Kept (setSel s x1 x2) := by grind [setSel, State_modBc_kept,
    State_modCap_kept, State_modLoom_kept, State_modThread_kept, storeSel_kept, foldl_kept, foldl_fst_kept]

theorem checkSel_kept (s x1) (h : Kept s) : Kept (checkSel s x1) := by grind [checkSel, setSel_kept, tblErr_kept,
    foldl_kept, foldl_fst_kept]

theorem execHarnessTableCheck_kept (s) (h : Kept s) : ∀ t, execHarnessTableCheck s = .next t → Kept t := by
  intro t ht; grind [execHarnessTableCheck, checkChan_kept, checkSel_kept, foldl_kept, foldl_kept, foldl_fst_kept]

theorem deliverTile_kept (s x1 x2) (h : Kept s) : Kept (deliverTile s x1 x2) := by grind [deliverTile,
    loomEvent_kept, coinc_kept, jumpEvent_kept, stepEvent_kept, foldl_kept, foldl_fst_kept]

theorem markerEvent_kept (s x1 x2 x3) (h : Kept s) : Kept (markerEvent s x1 x2 x3) := by grind [markerEvent,
    State_modChan_kept, foldl_kept, foldl_fst_kept]

theorem causeEvent_kept (s x1) (h : Kept s) : Kept (causeEvent s x1) := by grind [causeEvent, State_modFn_kept,
    msix_kept, foldl_kept, foldl_fst_kept]

theorem deliverSink_kept (s x1 x2) (h : Kept s) : Kept (deliverSink s x1 x2) := by grind [deliverSink,
    captureEvent_kept, causeEvent_kept, coinc_kept, dmaKick_kept, markerEvent_kept, foldl_kept, foldl_fst_kept]

theorem deliverSegment_kept (s x1 x2) (h : Kept s) : Kept (deliverSegment s x1 x2) :=
    by grind [deliverSegment, deliverTile_kept, deliverSink_kept, foldl_kept, foldl_fst_kept]

theorem delivered__kept (s x1 x2) (h : Kept s) : Kept (delivered_ s x1 x2) := by grind [delivered_, foldl_kept,
    foldl_fst_kept]

theorem execHarnessEventDelivery_kept (x0 s) (h : Kept s) : ∀ t, execHarnessEventDelivery x0 s = .next t →
    Kept t := by
  intro t ht; grind [execHarnessEventDelivery, deliverSegment_kept, delivered_kept, foldl_kept,
      foldl_fst_kept]

theorem actMarkers_kept (s) (h : Kept s) : Kept (actMarkers s) := by grind [actMarkers, foldl_kept,
    foldl_fst_kept]

/-! ### Machine/ReadoutRun.lean -/

theorem pairHit_kept (s x1 x2) (h : Kept s) : Kept (pairHit s x1 x2) := by grind [pairHit, State_modPair_kept,
    foldl_kept, foldl_fst_kept]

theorem State_modCore_kept (s x1 x2) (h : Kept s) : Kept (State.modCore s x1 x2) := by grind [State.modCore,
    foldl_kept, foldl_fst_kept]

theorem armWindow_kept (s x1 x2 x3 x4) (h : Kept s) : Kept (armWindow s x1 x2 x3 x4).1 :=
    by grind [armWindow, arm_kept, foldl_kept, foldl_fst_kept]

theorem openWindow_kept (s x1 x2 x3) (h : Kept s) : Kept (openWindow s x1 x2 x3) := by grind [openWindow,
    State_modCore_kept, State_modRt_kept, armWindow_kept, pairHit_kept, reserve_kept, foldl_kept, foldl_fst_kept]

theorem execEmitWindow_kept (x0 s) (h : Kept s) : ∀ t, execEmitWindow x0 s = .next t → Kept t := by
  intro t ht; cases ht; exact onEmission_kept _ _ _ _ (h) (fun s w es hs => by grind [pairHit_kept,
      openWindow_kept, onEmission_kept])

theorem execWindowFirstSample_kept (x0 s) (h : Kept s) : ∀ t, execWindowFirstSample x0 s = .next t →
    Kept t := by
  intro t ht; grind [execWindowFirstSample, State_modRt_kept, foldl_kept, foldl_fst_kept]

theorem modWindow_kept (s x1 x2 x3) (h : Kept s) : Kept (modWindow s x1 x2 x3) := by grind [modWindow,
    State_modRt_kept, foldl_kept, foldl_fst_kept]

theorem noteWeight_kept (x0 s x2) (h : Kept s) : Kept (noteWeight x0 s x2) := by grind [noteWeight, markShot_kept,
    memEvents_kept, modWindow_kept, foldl_kept, foldl_fst_kept]

theorem decide_kept (s x1 x2 x3) (h : Kept s) : Kept (decide_ s x1 x2 x3) := by grind [decide_,
    writeDecision_kept, assertLine_kept, modWindow_kept, foldl_kept, foldl_fst_kept]

theorem earlyLine_kept (s x1 x2) (h : Kept s) : Kept (earlyLine s x1 x2) := by grind [earlyLine, assertLine_kept,
    foldl_kept, foldl_fst_kept]

theorem earlyWindow_kept (s x1 x2 x3) (h : Kept s) : Kept (earlyWindow s x1 x2 x3) := by grind [earlyWindow,
    decide_kept, earlyLine_kept, modWindow_kept, noteCodes_kept, foldl_kept, foldl_fst_kept]

theorem execEarlyDecision_kept (x0 x1 s) (h : Kept s) : ∀ t, execEarlyDecision x0 x1 s = .next t → Kept t :=
    by
  intro t ht; grind [execEarlyDecision, earlyWindow_kept, foldl_kept, foldl_fst_kept]

theorem closeWindow_kept (s x1 x2 x3) (h : Kept s) : Kept (closeWindow s x1 x2 x3) := by grind [closeWindow,
    modWindow_kept, noteCodes_kept, pairHit_kept, foldl_kept, foldl_fst_kept]

theorem writeVerdicts_kept (s x1) (h : Kept s) : Kept (writeVerdicts s x1) := by grind [writeVerdicts, decide_kept,
    earlyLine_kept, foldl_kept, foldl_kept, foldl_fst_kept]

theorem handRecord_kept (s x1 x2) (h : Kept s) : Kept (handRecord s x1 x2) := by grind [handRecord,
    handOn_kept, foldl_kept, foldl_fst_kept]

theorem handRecords_kept (s x1) (h : Kept s) : Kept (handRecords s x1) := by grind [handRecords,
    handRecord_kept, State_modRt_kept, foldl_kept, foldl_fst_kept]

theorem execWindowClose_kept (x0 x1 s) (h : Kept s) : ∀ t, execWindowClose x0 x1 s = .next t → Kept t := by
  intro t ht; grind [execWindowClose, handRecords_kept, writeVerdicts_kept, closeWindow_kept, foldl_kept,
      foldl_fst_kept]

theorem windowsOpenTick_kept (s) (h : Kept s) : Kept (windowsOpenTick s) := by grind [windowsOpenTick,
    writeVerdicts_kept, foldl_kept, foldl_fst_kept]

theorem windowsCloseTick_kept (s) (h : Kept s) : Kept (windowsCloseTick s) := by grind [windowsCloseTick,
    State_modRt_kept, foldl_kept, handRecords_kept, noteWeight_kept, foldl_kept, foldl_fst_kept]

theorem abandonWindows_kept (s x1) (h : Kept s) : Kept (abandonWindows s x1) := by grind [abandonWindows,
    cancelResv_kept, pairHit_kept, State_modCore_kept, State_modRt_kept, foldl_kept, foldl_fst_kept]

/-! ### Machine/Marver.lean -/

theorem coreHit_kept (s x1 x2) (h : Kept s) : Kept (coreHit s x1 x2) := by grind [coreHit, State_modCore_kept,
    foldl_kept, foldl_fst_kept]

theorem marverLoadBody_kept (x0 s) (h : Kept s) : Kept (marverLoadBody x0 s).next :=
    by grind [marverLoadBody, done_kept, State_modCore_kept, clearErrs_kept, checked_kept, finish_kept,
    foldl_kept, foldl_fst_kept]

theorem execMarverLoad_kept (x0 s) (h : Kept s) : ∀ t, execMarverLoad x0 s = .next t → Kept t := by
  intro t ht; cases ht; exact serve_kept _ _ _ _ h (fun k t hk => marverLoadBody_kept k t hk)

theorem marverCtlBody_kept (x0 x1 s) (h : Kept s) : Kept (marverCtlBody x0 x1 s).next :=
    by grind [marverCtlBody, scheduled_kept, stage_kept, checked_kept, finish_kept, foldl_kept,
    foldl_fst_kept]

theorem execMarverStart_kept (x0 s) (h : Kept s) : ∀ t, execMarverStart x0 s = .next t → Kept t := by
  intro t ht; cases ht; exact serve_kept _ _ _ _ h (fun k t hk => by grind [marverCtlBody_kept, checked_kept,
      deny])

theorem execMarverStop_kept (x0 s) (h : Kept s) : ∀ t, execMarverStop x0 s = .next t → Kept t := by
  intro t ht; cases ht; exact serve_kept _ _ _ _ h (fun k t hk => by grind [marverCtlBody_kept, checked_kept,
      deny])

theorem applyMarverCtl_kept (s x1 x2) (h : Kept s) : Kept (applyMarverCtl s x1 x2) := by grind [applyMarverCtl,
    State_modCore_kept, foldl_kept, foldl_fst_kept]

theorem mvThreadCfgBody_kept (x0 s) (h : Kept s) : Kept (mvThreadCfgBody x0 s).next :=
    by grind [mvThreadCfgBody, storeImage_kept, done_kept, State_modRt_kept, checked_kept, finish_kept,
    foldl_kept, foldl_fst_kept]

theorem execMvThreadCfg_kept (x0 s) (h : Kept s) : ∀ t, execMvThreadCfg x0 s = .next t → Kept t := by
  intro t ht; cases ht; exact serve_kept _ _ _ _ h (fun k t hk => mvThreadCfgBody_kept k t hk)

theorem marverStatusBody_kept (x0 s) (h : Kept s) : Kept (marverStatusBody x0 s).next := by grind [marverStatusBody,
    State_modCore_kept, checked_kept, report_kept, foldl_kept, foldl_fst_kept, checked, deny, checked_kept]

theorem execMarverStatus_kept (x0 s) (h : Kept s) : ∀ t, execMarverStatus x0 s = .next t → Kept t := by
  intro t ht; cases ht; exact serve_kept _ _ _ _ h (fun k t hk => marverStatusBody_kept k t hk)

theorem modWin_kept (s x1 x2 x3 x4) (h : Kept s) : Kept (modWin s x1 x2 x3 x4) := by grind [modWin,
    State_modCore_kept, foldl_kept, foldl_fst_kept]

theorem markWin_kept (s x1) (h : Kept s) : Kept (markWin s x1) := by grind [markWin, markShot_kept,
    foldl_kept, foldl_fst_kept]

theorem loseEvent_kept (s x1 x2) (h : Kept s) : Kept (loseEvent s x1 x2) := by grind [loseEvent, modWin_kept,
    foldl_kept, foldl_fst_kept]

theorem deliver_kept (s x1 x2 x3 x4 x5 x6) (h : Kept s) : Kept (deliver s x1 x2 x3 x4 x5 x6) := by grind [deliver,
    State_modCore_kept, coreHit_kept, loseEvent_kept, markShot_kept, foldl_kept, foldl_fst_kept]

theorem endMvWindow_kept (s x1 x2 x3 x4) (h : Kept s) : Kept (endMvWindow s x1 x2 x3 x4) := by grind [endMvWindow,
    modWin_kept, modWindow_kept, noteCodes_kept, pairHit_kept, foldl_kept, foldl_fst_kept]

theorem execMvEventArrival_kept (x0 x1 x2 s) (h : Kept s) : ∀ t, execMvEventArrival x0 x1 x2 s = .next t → Kept t :=
    by
  intro t ht; grind [execMvEventArrival, deliver_kept, endMvWindow_kept, modWindow_kept, noteCodes_kept, foldl_kept,
      foldl_fst_kept]

theorem execMvOverbudget_kept (x0 s) (h : Kept s) : ∀ t, execMvOverbudget x0 s = .next t → Kept t := by
  intro t ht; grind [execMvOverbudget, coreHit_kept, modWin_kept, foldl_kept, foldl_fst_kept]

theorem execMvDispatch_kept (x0 s) (h : Kept s) : ∀ t, execMvDispatch x0 s = .next t → Kept t := by
  intro t ht; grind [execMvDispatch, modWin_kept, State_modCore_kept, foldl_kept, foldl_fst_kept]

theorem coreFault_kept (s x1) (h : Kept s) : Kept (coreFault s x1) := by grind [coreFault, markWin_kept,
    coreHit_kept, State_modCore_kept, foldl_kept, foldl_fst_kept]

theorem handMvRecords_kept (s) (h : Kept s) : Kept (handMvRecords s) := by grind [handMvRecords, handOn_kept,
    State_modCore_kept, foldl_kept, foldl_fst_kept]

theorem dropWins_kept (s) (h : Kept s) : Kept (dropWins s) := by grind [dropWins, State_modCore_kept,
    foldl_kept, foldl_fst_kept]

theorem dropMvRecords_kept (s x1) (h : Kept s) : Kept (dropMvRecords s x1) := by grind [dropMvRecords,
    cancelResv_kept, State_modCore_kept, foldl_kept, foldl_fst_kept]

/-! ### Machine/Power.lean -/

theorem stateChanged_kept (s) (h : Kept s) : Kept (stateChanged s) := by grind [stateChanged, foldl_kept,
    foldl_fst_kept]

theorem setTile_kept (s x1 x2) (h : Kept s) : Kept (setTile s x1 x2) := by grind [setTile, stateChanged_kept,
    State_modTile_kept, foldl_kept, foldl_fst_kept]

theorem setQuad_kept (s x1 x2) (h : Kept s) : Kept (setQuad s x1 x2) := by grind [setQuad, stateChanged_kept,
    State_modQuad_kept, foldl_kept, foldl_fst_kept]

theorem dropAsserts_kept (s x1) (h : Kept s) : Kept (dropAsserts s x1) := by grind [dropAsserts, foldl_kept,
    foldl_fst_kept]

theorem endActivity_kept (s x1) (h : Kept s) : Kept (endActivity s x1) := by grind [endActivity, State_modLoom_kept,
    abandonWindows_kept, cutRun_kept, dropAsserts_kept, dropMvRecords_kept, foldl_kept, killDecisions_kept,
    stopPlayer_kept, foldl_kept, foldl_fst_kept]

theorem leaveActive_kept (s x1 x2) (h : Kept s) : Kept (leaveActive s x1 x2) := by grind [leaveActive,
    setTile_kept, endActivity_kept, foldl_kept, foldl_fst_kept]

theorem cleanStore_kept (s x1 x2) (h : Kept s) : Kept (cleanStore s x1 x2) := by grind [cleanStore, clearErrs_kept,
    foldl_kept, foldl_fst_kept]

theorem clearImages_kept (s x1 x2) (h : Kept s) : Kept (clearImages s x1 x2) := by grind [clearImages,
    foldl_kept, foldl_fst_kept]

theorem resetFields_kept (s x1) (h : Kept s) : Kept (resetFields s x1) := by grind [resetFields,
    State_modThread_kept, State_modPort_kept, State_modPair_kept, State_modRt_kept, cleanStore_kept,
        clearImages_kept, foldl_kept, foldl_fst_kept]

theorem resetBlocks_kept (s x1) (h : Kept s) : Kept (resetBlocks s x1) := by grind [resetBlocks,
    cancelTiles_kept, cutSegment_kept, resetDecisions_kept, resetFields_kept, State_modLoom_kept,
        State_modCore_kept, State_modBobbin_kept, foldl_kept, foldl_fst_kept]

theorem warmTile_kept (s x1) (h : Kept s) : Kept (warmTile s x1) := by grind [warmTile, resetFields_kept,
    State_modLoom_kept, State_modCore_kept, cleanStore_kept, State_modBobbin_kept, clearImages_kept, foldl_kept,
        foldl_fst_kept]

theorem discardTile_kept (s x1) (h : Kept s) : Kept (discardTile s x1) := by grind [discardTile, answer_kept,
    State_modRt_kept, foldl_kept, foldl_fst_kept]

theorem abortScrub_kept (s x1) (h : Kept s) : Kept (abortScrub s x1) := by grind [abortScrub, foldl_kept,
    foldl_fst_kept]

theorem stopCapture_kept (s x1) (h : Kept s) : Kept (stopCapture s x1) := by grind [stopCapture, captureEnd_kept,
    cutCapture_kept, foldl_kept, foldl_fst_kept]

theorem dropTilePower_kept (s x1) (h : Kept s) : Kept (dropTilePower s x1) := by grind [dropTilePower,
    State_modTile_kept, foldl_kept, foldl_fst_kept]

theorem dropQuadPower_kept (s x1) (h : Kept s) : Kept (dropQuadPower s x1) := by grind [dropQuadPower,
    answer_kept, State_modQuad_kept, foldl_kept, foldl_fst_kept]

theorem enterOff_kept (s x1) (h : Kept s) : Kept (enterOff s x1) := by grind [enterOff, stopCapture_kept,
    abortScrub_kept, State_modTile_kept, dropTilePower_kept, warmTile_kept, discardTile_kept, leaveActive_kept,
        setQuad_kept, State_modQuad_kept, foldl_kept, foldl_fst_kept]

theorem enterStandby_kept (s x1) (h : Kept s) : Kept (enterStandby s x1) := by grind [enterStandby,
    abortScrub_kept, stopCapture_kept, State_modTile_kept, leaveActive_kept, setQuad_kept, State_modQuad_kept,
        foldl_kept, foldl_fst_kept]

theorem quadPowerBody_kept (x0 s) (h : Kept s) : Kept (quadPowerBody x0 s).next := by grind [quadPowerBody,
    done_kept, waiting_kept, State_modQuad_kept, checked_kept, finish_kept, foldl_kept, foldl_fst_kept]

theorem execQuadPower_kept (x0 s) (h : Kept s) : ∀ t, execQuadPower x0 s = .next t → Kept t := by
  intro t ht; cases ht; exact serve_kept _ _ _ _ h (fun k t hk => quadPowerBody_kept k t hk)

theorem quadReached_kept (s x1 x2 x3) (h : Kept s) : Kept (quadReached s x1 x2 x3) := by grind [quadReached,
    answer_kept, State_modQuad_kept, foldl_kept, foldl_fst_kept]

theorem applyQuadPower_kept (s x1) (h : Kept s) : Kept (applyQuadPower s x1) := by grind [applyQuadPower,
    quadReached_kept, enterOff_kept, enterStandby_kept, setQuad_kept, State_modQuad_kept, foldl_kept, foldl_fst_kept]

theorem trainChannel_kept (s x1 x2) (h : Kept s) : Kept (trainChannel s x1 x2) := by grind [trainChannel,
    foldl_kept, foldl_fst_kept]

theorem execQuadTrainingDone_kept (x0 x1 s) (h : Kept s) : ∀ t, execQuadTrainingDone x0 x1 s = .next t →
    Kept t := by
  intro t ht; grind [execQuadTrainingDone, State_modQuad_kept, trainChannel_kept, foldl_kept, foldl_fst_kept]

theorem execQuadEntry_kept (x0 s) (h : Kept s) : ∀ t, execQuadEntry x0 s = .next t → Kept t := by
  intro t ht; grind [execQuadEntry, setTile_kept, State_modQuad_kept, quadReached_kept, setQuad_kept,
      foldl_kept, foldl_fst_kept]

theorem tilePowerBody_kept (x0 s) (h : Kept s) : Kept (tilePowerBody x0 s).next := by grind [tilePowerBody,
    scheduled_kept, State_modTile_kept, checked_kept, finish_kept, foldl_kept, foldl_fst_kept]

theorem execTilePower_kept (x0 s) (h : Kept s) : ∀ t, execTilePower x0 s = .next t → Kept t := by
  intro t ht; cases ht; exact serve_kept _ _ _ _ h (fun k t hk => tilePowerBody_kept k t hk)

theorem applyTilePower_kept (s x1) (h : Kept s) : Kept (applyTilePower s x1) := by grind [applyTilePower,
    State_modTile_kept, leaveActive_kept, setTile_kept, foldl_kept, foldl_fst_kept]

theorem execTileWake_kept (x0 s) (h : Kept s) : ∀ t, execTileWake x0 s = .next t → Kept t := by
  intro t ht; grind [execTileWake, State_modTile_kept, setTile_kept, foldl_kept, foldl_fst_kept]

theorem resetTileBody_kept (x0 s) (h : Kept s) : Kept (resetTileBody x0 s).next := by grind [resetTileBody,
    scheduled_kept, State_modTile_kept, checked_kept, finish_kept, foldl_kept, foldl_fst_kept]

theorem execResetTile_kept (x0 s) (h : Kept s) : ∀ t, execResetTile x0 s = .next t → Kept t := by
  intro t ht; cases ht; exact serve_kept _ _ _ _ h (fun k t hk => resetTileBody_kept k t hk)

theorem resetQuadrantBody_kept (x0 s) (h : Kept s) : Kept (resetQuadrantBody x0 s).next :=
    by grind [resetQuadrantBody, scheduled_kept, State_modQuad_kept, checked_kept, finish_kept, foldl_kept,
    foldl_fst_kept]

theorem execResetQuadrant_kept (x0 s) (h : Kept s) : ∀ t, execResetQuadrant x0 s = .next t → Kept t := by
  intro t ht; cases ht; exact serve_kept _ _ _ _ h (fun k t hk => resetQuadrantBody_kept k t hk)

theorem abortTileScrub_kept (s x1) (h : Kept s) : Kept (abortTileScrub s x1) := by grind [abortTileScrub,
    abortScrub_kept, foldl_kept, foldl_fst_kept]

theorem tileReset_kept (s x1 x2) (h : Kept s) : Kept (tileReset s x1 x2) := by grind [tileReset, State_modTile_kept,
    abortTileScrub_kept, leaveActive_kept, resetBlocks_kept, foldl_kept, foldl_fst_kept]

theorem execTileResetApply_kept (x0 s) (h : Kept s) : ∀ t, execTileResetApply x0 s = .next t → Kept t := by
  intro t ht; grind [execTileResetApply, tileReset_kept, foldl_kept, foldl_fst_kept]

theorem execQuadrantResetApply_kept (x0 s) (h : Kept s) : ∀ t, execQuadrantResetApply x0 s = .next t →
    Kept t := by
  intro t ht; grind [execQuadrantResetApply, tileReset_kept, State_modQuad_kept, State_modCap_kept,
      stopCapture_kept, foldl_kept, foldl_fst_kept]

theorem powerStatusBody_kept (x0 s) (h : Kept s) : Kept (powerStatusBody x0 s).next := by grind [powerStatusBody,
    checked_kept, report_kept, foldl_kept, foldl_fst_kept, checked, deny, checked_kept]

theorem execPowerStatus_kept (x0 s) (h : Kept s) : ∀ t, execPowerStatus x0 s = .next t → Kept t := by
  intro t ht; cases ht; exact serve_kept _ _ _ _ h (fun k t hk => powerStatusBody_kept k t hk)

/-! ### Machine/Links.lean -/

theorem State_modLink_kept (s x1 x2) (h : Kept s) : Kept (State.modLink s x1 x2) := by grind [State.modLink,
    foldl_kept, foldl_fst_kept]

theorem linkHit_kept (s x1 x2) (h : Kept s) : Kept (linkHit s x1 x2) := by grind [linkHit, State_modLink_kept,
    foldl_kept, foldl_fst_kept]

theorem weaveHit_kept (s x1) (h : Kept s) : Kept (weaveHit s x1) := by grind [weaveHit, foldl_kept, foldl_fst_kept]

theorem State_modLane_kept (s x1 x2 x3) (h : Kept s) : Kept (State.modLane s x1 x2 x3) :=
    by grind [State.modLane, State_modLink_kept, foldl_kept, foldl_fst_kept]

theorem linkRecord_kept (s x1 x2 x3 x4 x5 x6 x7) (h : Kept s) : Kept (linkRecord s x1 x2 x3 x4 x5 x6 x7) :=
    by grind [linkRecord, errRecord_kept, foldl_kept, foldl_fst_kept]

theorem linkEvt_kept (s x1) (h : Kept s) : Kept (linkEvt s x1) := by grind [linkEvt, uncore_kept, foldl_kept,
    foldl_fst_kept]

theorem linkNote_kept (s x1 x2) (h : Kept s) : Kept (linkNote s x1 x2) := by grind [linkNote,
    ledgerNote_kept, foldl_kept, foldl_fst_kept]

theorem linkChanged_kept (s x1) (h : Kept s) : Kept (linkChanged s x1) := by grind [linkChanged,
    linkNote_kept, linkEvt_kept, event_kept, foldl_kept, foldl_fst_kept]

theorem setTx_kept (s x1 x2) (h : Kept s) : Kept (setTx s x1 x2) := by grind [setTx, linkChanged_kept,
    State_modLink_kept, foldl_kept, foldl_fst_kept]

theorem setRx_kept (s x1 x2) (h : Kept s) : Kept (setRx s x1 x2) := by grind [setRx, State_modLink_kept,
    linkChanged_kept, foldl_kept, foldl_fst_kept]

theorem admitFail_kept (s x1 x2) (h : Kept s) : Kept (admitFail s x1 x2) := by grind [admitFail, answer_kept,
    foldl_kept, foldl_fst_kept]

theorem admitDown_kept (s x1) (h : Kept s) : Kept (admitDown s x1) := by grind [admitDown, admitFail_kept,
    foldl_kept, foldl_fst_kept]

theorem loadScramblers_kept (s x1) (h : Kept s) : Kept (loadScramblers s x1) := by grind [loadScramblers,
    State_modLink_kept, foldl_kept, foldl_fst_kept]

theorem startLink_kept (s x1) (h : Kept s) : Kept (startLink s x1) := by grind [startLink, admitDown_kept,
    loadScramblers_kept, State_modLink_kept, setRx_kept, setTx_kept, foldl_kept, foldl_fst_kept]

theorem failStart_kept (s x1 x2) (h : Kept s) : Kept (failStart s x1 x2) := by grind [failStart,
    startLink_kept, linkRecord_kept, linkHit_kept, foldl_kept, foldl_fst_kept]

theorem linkDown_kept (s x1 x2) (h : Kept s) : Kept (linkDown s x1 x2) := by grind [linkDown, failStart_kept,
    setRx_kept, foldl_kept, foldl_fst_kept]

theorem stopLink_kept (s x1) (h : Kept s) : Kept (stopLink s x1) := by grind [stopLink, State_modLink_kept,
    admitDown_kept, setRx_kept, setTx_kept, foldl_kept, foldl_fst_kept]

theorem checkTopo_kept (s x1) (h : Kept s) : Kept (checkTopo s x1) := by grind [checkTopo, linkHit_kept,
    foldl_kept, foldl_fst_kept]

theorem refreshHops_kept (s) (h : Kept s) : Kept (refreshHops s) := by grind [refreshHops, foldl_kept,
    foldl_fst_kept]

theorem arrive_kept (s x1) (h : Kept s) : Kept (arrive s x1) := by grind [arrive, dropEntry_kept, errRecord_kept,
    produce_kept, readDesc_kept, foldl_kept, foldl_fst_kept]

theorem lose_kept (s x1 x2 x3 x4) (h : Kept s) : Kept (lose s x1 x2 x3 x4) := by grind [lose,
    linkRecord_kept, foldl_kept, foldl_fst_kept]

theorem passShuttle_kept (s x1 x2) (h : Kept s) : Kept (passShuttle s x1 x2) := by grind [passShuttle,
    State_modLink_kept, arrive_kept, lose_kept, foldl_kept, foldl_fst_kept]

theorem takeShuttle_kept (s x1 x2) (h : Kept s) : Kept (takeShuttle s x1 x2) := by grind [takeShuttle,
    passShuttle_kept, State_modLink_kept, linkHit_kept, foldl_kept, foldl_fst_kept]

theorem takeAck_kept (s x1 x2 x3) (h : Kept s) : Kept (takeAck s x1 x2 x3) := by grind [takeAck,
    State_modLink_kept, foldl_kept, foldl_fst_kept]

theorem retryLimit_kept (s x1) (h : Kept s) : Kept (retryLimit s x1) := by grind [retryLimit,
    linkRecord_kept, linkHit_kept, startLink_kept, State_modLink_kept, linkEvt_kept, foldl_kept, foldl_fst_kept]

theorem spareSwitch_kept (s x1 x2 x3 x4) (h : Kept s) : Kept (spareSwitch s x1 x2 x3 x4) :=
    by grind [spareSwitch, State_modLink_kept, linkHit_kept, linkNote_kept, linkRecord_kept, linkEvt_kept,
    foldl_kept, foldl_fst_kept]

theorem badLane_kept (s x1 x2) (h : Kept s) : Kept (badLane s x1 x2) := by grind [badLane,
    State_modLink_kept, linkHit_kept, foldl_kept, foldl_fst_kept]

theorem average_kept (s x1) (h : Kept s) : Kept (average s x1).1 := by grind [average, foldl_kept,
    foldl_fst_kept]

theorem tryAlign_kept (s x1) (h : Kept s) : Kept (tryAlign s x1) := by grind [tryAlign, setRx_kept,
    State_modLink_kept, foldl_kept, foldl_fst_kept]

theorem uplinkTheta_kept (s x1 x2) (h : Kept s) : Kept (uplinkTheta s x1 x2) := by grind [uplinkTheta,
    average_kept, weaveHit_kept, foldl_kept, foldl_fst_kept]

theorem admitMeasured_kept (s x1) (h : Kept s) : Kept (admitMeasured s x1) := by grind [admitMeasured,
    admitFail_kept, average_kept, foldl_kept, foldl_fst_kept]

theorem takeTstamp_kept (s x1 x2 x3 x4 x5 x6) (h : Kept s) : Kept (takeTstamp s x1 x2 x3 x4 x5 x6) := by grind
    [takeTstamp, State_modLink_kept, admitMeasured_kept, tryAlign_kept, uplinkTheta_kept, foldl_kept,
    foldl_fst_kept]

theorem takeMembers_kept (s x1 x2 x3 x4) (h : Kept s) : Kept (takeMembers s x1 x2 x3 x4) :=
    by grind [takeMembers, State_modLink_kept, tryAlign_kept, refreshHops_kept, foldl_kept, foldl_fst_kept]

theorem takeSleep_kept (s x1 x2) (h : Kept s) : Kept (takeSleep s x1 x2) := by grind [takeSleep, setRx_kept,
    State_modLink_kept, foldl_kept, foldl_fst_kept]

theorem takeSpareAt_kept (s x1 x2 x3 x4) (h : Kept s) : Kept (takeSpareAt s x1 x2 x3 x4) :=
    by grind [takeSpareAt, spareSwitch_kept, foldl_kept, foldl_fst_kept]

theorem takeSpareReq_kept (s x1 x2 x3) (h : Kept s) : Kept (takeSpareReq s x1 x2 x3) :=
    by grind [takeSpareReq, State_modLink_kept, foldl_kept, foldl_fst_kept]

theorem beginSleep_kept (s x1 x2 x3) (h : Kept s) : Kept (beginSleep s x1 x2 x3) := by grind [beginSleep,
    State_modLink_kept, foldl_kept, foldl_fst_kept]

/-! ### Machine/LinkRun.lean -/

theorem importField_kept (s x1 x2) (h : Kept s) : Kept (importField s x1 x2) := by grind [importField, foldl_kept,
    foldl_fst_kept]

theorem frameUe_kept (s x1) (h : Kept s) : Kept (frameUe s x1) := by grind [frameUe, State_modLink_kept,
    assertAt_kept, importField_kept, linkDown_kept, linkHit_kept, linkRecord_kept, uncore_kept, foldl_kept,
    foldl_fst_kept]

theorem countCorrected_kept (s x1 x2) (h : Kept s) : Kept (countCorrected s x1 x2) :=
    by grind [countCorrected, State_modLink_kept, State_modLane_kept, foldl_kept, foldl_fst_kept]

theorem takeControl_kept (s x1 x2 x3) (h : Kept s) : Kept (takeControl s x1 x2 x3) := by grind [takeControl,
    takeSleep_kept, takeSpareAt_kept, takeSpareReq_kept, takeTstamp_kept, takeMembers_kept, foldl_kept,
        foldl_fst_kept]

theorem takeTraining_kept (s x1 x2) (h : Kept s) : Kept (takeTraining s x1 x2) := by grind [takeTraining,
    State_modLink_kept, checkTopo_kept, setTx_kept, foldl_kept, foldl_fst_kept]

theorem takeFrame_kept (s x1 x2 x3) (h : Kept s) : Kept (takeFrame s x1 x2 x3) := by grind [takeFrame,
    State_modLink_kept, checkTopo_kept, frameUe_kept, importField_kept, linkEvt_kept, linkHit_kept, linkRecord_kept,
    retryLimit_kept, setRx_kept, setTx_kept, takeAck_kept, takeControl_kept, takeShuttle_kept, foldl_kept,
    foldl_fst_kept]

theorem execFrameReceive_kept (x0 x1 x2 s) (h : Kept s) : ∀ t, execFrameReceive x0 x1 x2 s = .next t →
    Kept t := by
  intro t ht; cases ht
  dsimp only
  split
  · exact h
  · split
    · exact takeTraining_kept _ _ _ h
    · split
      · exact h
      · generalize bchClass _ = q
        have hm := State_modLink_kept s x0.val (fun x => { x with
          descr := (descramble (s.link x0.val) x1.toNat).2, okRun := 0 }) h
        cases q <;> grind [takeFrame_kept, countCorrected_kept, frameUe_kept]

theorem execSleep_kept (x0 x1 x2 s) (h : Kept s) : ∀ t, execSleep x0 x1 x2 s = .next t → Kept t := by
  intro t ht; grind [execSleep, takeSleep_kept, foldl_kept, foldl_fst_kept]

theorem execSpareAt_kept (x0 x1 x2 x3 s) (h : Kept s) : ∀ t, execSpareAt x0 x1 x2 x3 s = .next t → Kept t :=
    by
  intro t ht; grind [execSpareAt, takeSpareAt_kept, foldl_kept, foldl_fst_kept]

theorem execSpareReq_kept (x0 x1 x2 s) (h : Kept s) : ∀ t, execSpareReq x0 x1 x2 s = .next t → Kept t := by
  intro t ht; grind [execSpareReq, takeSpareReq_kept, foldl_kept, foldl_fst_kept]

theorem execTstamp_kept (x0 x1 x2 x3 x4 x5 s) (h : Kept s) : ∀ t, execTstamp x0 x1 x2 x3 x4 x5 s = .next t →
    Kept t := by
  intro t ht; grind [execTstamp, takeTstamp_kept, foldl_kept, foldl_fst_kept]

theorem execMembers_kept (x0 x1 x2 x3 s) (h : Kept s) : ∀ t, execMembers x0 x1 x2 x3 s = .next t → Kept t :=
    by
  intro t ht; grind [execMembers, takeMembers_kept, foldl_kept, foldl_fst_kept]

theorem execMemberViewAgeout_kept (s) (h : Kept s) : ∀ t, execMemberViewAgeout s = .next t → Kept t := by
  intro t ht; grind [execMemberViewAgeout, State_modLink_kept, foldl_kept, refreshHops_kept, setRx_kept, foldl_kept,
      foldl_fst_kept]

theorem sendLine_kept (s x1 x2) (h : Kept s) : Kept (sendLine s x1 x2) := by grind [sendLine,
    State_modLink_kept, State_send_kept, foldl_kept, foldl_fst_kept]

theorem nextControl_kept (s x1) (h : Kept s) : ∀ t, nextControl s x1 = some t → Kept t.2 := by
  intro t ht; grind [nextControl, setTx_kept, State_modLink_kept, spareSwitch_kept, foldl_kept,
      foldl_fst_kept]

theorem nextShuttle_kept (s x1) (h : Kept s) : ∀ t, nextShuttle s x1 = some t → Kept t.2 := by
  intro t ht
  unfold nextShuttle at ht
  dsimp only at ht
  split at ht
  · cases ht; exact State_modLink_kept _ _ _ h
  · split at ht
    · cases ht
    · split at ht
      · cases ht; exact State_modLink_kept _ _ _ h
      · cases hl : (s.link x1).local_ <;> rw [hl] at ht <;> cases ht
        exact State_modLink_kept _ _ _ h

theorem sendFrame_kept (s x1) (h : Kept s) : Kept (sendFrame s x1) := by grind [sendFrame, State_modLink_kept,
    nextControl_kept, nextShuttle_kept, sendLine_kept, foldl_kept, foldl_fst_kept]

theorem execFrameTransmit_kept (x0 s) (h : Kept s) : ∀ t, execFrameTransmit x0 s = .next t → Kept t := by
  intro t ht; grind [execFrameTransmit, sendLine_kept, sendFrame_kept, setTx_kept, foldl_kept, foldl_fst_kept]

theorem execShuttleResendTimeout_kept (x0 s) (h : Kept s) : ∀ t, execShuttleResendTimeout x0 s = .next t →
    Kept t := by
  intro t ht; grind [execShuttleResendTimeout, retryLimit_kept, State_modLink_kept, foldl_kept,
      foldl_fst_kept]

theorem execShuttleSend_kept (x0 x1 s) (h : Kept s) : ∀ t, execShuttleSend x0 x1 s = .next t → Kept t := by
  intro t ht; grind [execShuttleSend, State_modLink_kept, arrive_kept, consume_kept, errRecord_kept, hostFetch_kept,
      lose_kept, memEvents_kept, readDesc_kept, foldl_kept, foldl_fst_kept]

theorem execLinkAcquireDone_kept (x0 s) (h : Kept s) : ∀ t, execLinkAcquireDone x0 s = .next t → Kept t := by
  intro t ht; grind [execLinkAcquireDone, setRx_kept, foldl_kept, foldl_fst_kept]

theorem execLaneAlignCheck_kept (x0 x1 x2 s) (h : Kept s) : ∀ t, execLaneAlignCheck x0 x1 x2 s = .next t →
    Kept t := by
  intro t ht; grind [execLaneAlignCheck, State_modLane_kept, failStart_kept, setRx_kept, State_modLink_kept,
      foldl_kept, foldl_fst_kept]

theorem execLinkBringupTimeout_kept (x0 s) (h : Kept s) : ∀ t, execLinkBringupTimeout x0 s = .next t → Kept t := by
  intro t ht; grind [execLinkBringupTimeout, failStart_kept, foldl_kept, foldl_fst_kept]

theorem execLaneCdrLoss_kept (x0 x1 s) (h : Kept s) : ∀ t, execLaneCdrLoss x0 x1 s = .next t → Kept t := by
  intro t ht; grind [execLaneCdrLoss, linkDown_kept, linkHit_kept, badLane_kept, foldl_kept, foldl_fst_kept]

theorem execLaneErrorWindow_kept (x0 x1 s) (h : Kept s) : ∀ t, execLaneErrorWindow x0 x1 s = .next t →
    Kept t := by
  intro t ht; grind [execLaneErrorWindow, State_modLane_kept, badLane_kept, foldl_kept, foldl_fst_kept]

theorem execEyeMeasure_kept (x0 x1 x2 x3 s) (h : Kept s) : ∀ t, execEyeMeasure x0 x1 x2 x3 s = .next t →
    Kept t := by
  intro t ht; grind [execEyeMeasure, State_modLane_kept, linkEvt_kept, linkRecord_kept, linkHit_kept,
      foldl_kept, foldl_fst_kept]

theorem execTrimStep_kept (x0 s) (h : Kept s) : ∀ t, execTrimStep x0 s = .next t → Kept t := by
  intro t ht; grind [execTrimStep, weaveHit_kept, foldl_kept, foldl_fst_kept]

/-! ### Machine/Weave.lean -/

theorem linkCfgBody_kept (x0 s) (h : Kept s) : Kept (linkCfgBody x0 s).next := by grind [linkCfgBody,
    State_modLink_kept, checked_kept, done_kept, startLink_kept, stopLink_kept, storeImage_kept, foldl_kept,
    foldl_fst_kept, checked, deny, checked_kept]

theorem execLinkCfg_kept (x0 s) (h : Kept s) : ∀ t, execLinkCfg x0 s = .next t → Kept t := by
  intro t ht; cases ht; exact serve_kept _ _ _ _ h (fun k t hk => linkCfgBody_kept k t hk)

theorem linkCtlBody_kept (x0 x1 x2 x3 s) (h : Kept s) (he : ∀ s k p, Kept s → Kept (x2 s k p)) :
    Kept (linkCtlBody x0 x1 x2 x3 s).next := by
  unfold linkCtlBody
  exact checked_kept _ _ _ _ h (done_kept _ _ (he _ _ _ h))

theorem execLinkRetrain_kept (x0 s) (h : Kept s) : ∀ t, execLinkRetrain x0 s = .next t → Kept t := by
  intro t ht; cases ht
  exact serve_kept _ _ _ _ h (fun k t hk => linkCtlBody_kept _ _ _ _ _ hk (fun s k p hs => by grind [startLink_kept,
      foldl_kept]))

theorem execLinkSleepLight_kept (x0 s) (h : Kept s) : ∀ t, execLinkSleepLight x0 s = .next t → Kept t := by
  intro t ht; cases ht
  exact serve_kept _ _ _ _ h (fun k t hk => linkCtlBody_kept _ _ _ _ _ hk (fun s k p hs => by grind
      [beginSleep_kept, foldl_kept]))

theorem execLinkSleepDeep_kept (x0 s) (h : Kept s) : ∀ t, execLinkSleepDeep x0 s = .next t → Kept t := by
  intro t ht; cases ht
  exact serve_kept _ _ _ _ h (fun k t hk => linkCtlBody_kept _ _ _ _ _ hk (fun s k p hs => by grind
      [beginSleep_kept, foldl_kept]))

theorem wakeLink_kept (s x1) (h : Kept s) : Kept (wakeLink s x1) := by grind [wakeLink, setTx_kept,
    State_modLink_kept, foldl_kept, foldl_fst_kept]

theorem execLinkWake_kept (x0 s) (h : Kept s) : ∀ t, execLinkWake x0 s = .next t → Kept t := by
  intro t ht; cases ht
  exact serve_kept _ _ _ _ h (fun k t hk => linkCtlBody_kept _ _ _ _ _ hk (fun s k p hs => by grind [wakeLink_kept,
      foldl_kept]))

theorem execLinkAdaptResume_kept (x0 s) (h : Kept s) : ∀ t, execLinkAdaptResume x0 s = .next t → Kept t := by
  intro t ht; cases ht
  exact serve_kept _ _ _ _ h (fun k t hk => linkCtlBody_kept _ _ _ _ _ hk (fun s k p hs => by grind
      [State_modLane_kept, foldl_kept]))

theorem execLinkSpare_kept (x0 s) (h : Kept s) : ∀ t, execLinkSpare x0 s = .next t → Kept t := by
  intro t ht; cases ht
  exact serve_kept _ _ _ _ h (fun k t hk => linkCtlBody_kept _ _ _ _ _ hk (fun s k p hs => by grind
      [State_modLink_kept, foldl_kept]))

theorem execLinkUnspare_kept (x0 s) (h : Kept s) : ∀ t, execLinkUnspare x0 s = .next t → Kept t := by
  intro t ht; cases ht
  exact serve_kept _ _ _ _ h (fun k t hk => linkCtlBody_kept _ _ _ _ _ hk (fun s k p hs => by grind
      [State_modLink_kept, foldl_kept]))

theorem linkStatusBody_kept (x0 s) (h : Kept s) : Kept (linkStatusBody x0 s).next := by grind [linkStatusBody,
    State_modLink_kept, checked_kept, report_kept, foldl_kept, foldl_fst_kept, checked, deny, checked_kept]

theorem execLinkStatus_kept (x0 s) (h : Kept s) : ∀ t, execLinkStatus x0 s = .next t → Kept t := by
  intro t ht; cases ht; exact serve_kept _ _ _ _ h (fun k t hk => linkStatusBody_kept k t hk)

theorem joinWeave_kept (s x1 x2) (h : Kept s) : Kept (joinWeave s x1 x2) := by grind [joinWeave,
    checkTopo_kept, foldl_kept, foldl_fst_kept]

theorem admitRootBody_kept (x0 s) (h : Kept s) : Kept (admitRootBody x0 s).next := by grind [admitRootBody,
    checked_kept, done_kept, joinWeave_kept, storeImage_kept, foldl_kept, foldl_fst_kept, checked, deny,
    checked_kept]

theorem execWeaveAdmitRoot_kept (x0 s) (h : Kept s) : ∀ t, execWeaveAdmitRoot x0 s = .next t → Kept t := by
  intro t ht; cases ht; exact serve_kept _ _ _ _ h (fun k t hk => admitRootBody_kept k t hk)

theorem admitMemberBody_kept (x0 s) (h : Kept s) : Kept (admitMemberBody x0 s).next := by grind [admitMemberBody,
    checked_kept, waiting_kept, foldl_kept, foldl_fst_kept, checked, deny, checked_kept]

theorem execWeaveAdmitMember_kept (x0 s) (h : Kept s) : ∀ t, execWeaveAdmitMember x0 s = .next t → Kept t :=
    by
  intro t ht; cases ht; exact serve_kept _ _ _ _ h (fun k t hk => admitMemberBody_kept k t hk)

theorem admitLeaveBody_kept (x0 s) (h : Kept s) : Kept (admitLeaveBody x0 s).next :=
    by grind [admitLeaveBody, storeImage_kept, done_kept, setRx_kept, checked_kept, finish_kept, foldl_kept,
    foldl_fst_kept]

theorem execWeaveAdmitLeave_kept (x0 s) (h : Kept s) : ∀ t, execWeaveAdmitLeave x0 s = .next t → Kept t := by
  intro t ht; cases ht; exact serve_kept _ _ _ _ h (fun k t hk => admitLeaveBody_kept k t hk)

theorem weaveStatusBody_kept (x0 s) (h : Kept s) : Kept (weaveStatusBody x0 s).next := by grind [weaveStatusBody,
    checked_kept, report_kept, foldl_kept, foldl_fst_kept, checked, deny, checked_kept]

theorem execWeaveStatus_kept (x0 s) (h : Kept s) : ∀ t, execWeaveStatus x0 s = .next t → Kept t := by
  intro t ht; cases ht; exact serve_kept _ _ _ _ h (fun k t hk => weaveStatusBody_kept k t hk)

/-! ### Machine/Lehr.lean -/

theorem setLehr_kept (s x1) (h : Kept s) : Kept (setLehr s x1) := by grind [setLehr, foldl_kept,
    foldl_fst_kept]

theorem lehrHit_kept (s x1) (h : Kept s) : Kept (lehrHit s x1) := by grind [lehrHit, setLehr_kept, foldl_kept,
    foldl_fst_kept]

theorem lehrRecord_kept (s x1 x2 x3 x4) (h : Kept s) : Kept (lehrRecord s x1 x2 x3 x4) :=
    by grind [lehrRecord, errRecord_kept, foldl_kept, foldl_fst_kept]

theorem stopNotice_kept (s x1 x2 x3 x4) (h : Kept s) : Kept (stopNotice s x1 x2 x3 x4) :=
    by grind [stopNotice, event_kept, foldl_kept, foldl_fst_kept]

theorem setStop_kept (s x1 x2) (h : Kept s) : Kept (setStop s x1 x2) := by grind [setStop, setLehr_kept,
    foldl_kept, foldl_fst_kept]

theorem stopLogged_kept (s x1 x2) (h : Kept s) : Kept (stopLogged s x1 x2) := by grind [stopLogged, ledgerNote_kept,
    setLehr_kept, foldl_kept, foldl_fst_kept]

theorem beginStop_kept (s x1 x2) (h : Kept s) : Kept (beginStop s x1 x2) := by grind [beginStop,
    setLehr_kept, setStop_kept, stopNotice_kept, uncore_kept, stopLogged_kept, markLooms_kept, foldl_kept,
        foldl_fst_kept]

theorem atGrace_kept (s x1 x2) (h : Kept s) : Kept (atGrace s x1 x2) := by grind [atGrace, cutRun_kept,
    stopNotice_kept, setStop_kept, foldl_kept, foldl_fst_kept]

theorem stopLinks_kept (s x1) (h : Kept s) : Kept (stopLinks s x1) := by grind [stopLinks, beginSleep_kept,
    foldl_kept, foldl_fst_kept]

theorem stopOff_kept (s x1 x2) (h : Kept s) : Kept (stopOff s x1 x2) := by
  unfold stopOff
  exact lehrRecord_kept _ _ _ _ _ (foldl_kept _ _ _ h (fun t q ht => enterOff_kept _ _ (dropQuadPower_kept _ _ ht)))

theorem stopSteps_kept (s x1) (h : Kept s) : Kept (stopSteps s x1) := by
  unfold stopSteps
  extract_lets a b c
  have ha : Kept a := by unfold a; split <;> grind [atGrace_kept]
  have hb : Kept b := by unfold b; split <;> grind [setStop_kept, biasSafe_kept]
  have hc : Kept c := by unfold c; split <;> grind [setStop_kept, stopLinks_kept]
  split <;> grind [setStop_kept, stopOff_kept]

theorem execStopGraceEnd_kept (x0 s) (h : Kept s) : ∀ t, execStopGraceEnd x0 s = .next t → Kept t := by
  intro t ht; grind [execStopGraceEnd, stopSteps_kept, foldl_kept, foldl_fst_kept]

theorem graceCutAll_kept (s) (h : Kept s) : Kept (graceCutAll s) := by grind [graceCutAll, stopSteps_kept,
    setStop_kept, foldl_kept, foldl_fst_kept]

theorem lehrSet_kept (s x1) (h : Kept s) : Kept (lehrSet s x1).1 := by grind [lehrSet, storeImage_kept,
    setLehr_kept, foldl_kept, foldl_fst_kept]

theorem lehrCfgBody_kept (x0 x1 x2 x3 s) (h : Kept s) (he : ∀ s, Kept s → Kept (x2 s)) :
    Kept (lehrCfgBody x0 x1 x2 x3 s).next := by
  unfold lehrCfgBody
  exact checked_kept _ _ _ _ h (done_kept _ _ (he _ (lehrSet_kept _ _ h)))

theorem execLehrCfg_kept (x0 s) (h : Kept s) : ∀ t, execLehrCfg x0 s = .next t → Kept t := by
  intro t ht; cases ht
  exact serve_kept _ _ _ _ h (fun k t hk => lehrCfgBody_kept _ _ _ _ _ hk (fun s hs => hs))

theorem releaseHolds_kept (s) (h : Kept s) : Kept (releaseHolds s) := by grind [releaseHolds, setLehr_kept,
    foldl_kept, foldl_fst_kept]

theorem execLehrRelease_kept (x0 s) (h : Kept s) : ∀ t, execLehrRelease x0 s = .next t → Kept t := by
  intro t ht; cases ht
  exact serve_kept _ _ _ _ h (fun k t hk => lehrCfgBody_kept _ _ _ _ _ hk (fun s hs => releaseHolds_kept _ hs))

theorem setSuspect_kept (s x1 x2) (h : Kept s) : Kept (setSuspect s x1 x2) := by grind [setSuspect,
    setLehr_kept, foldl_kept, foldl_fst_kept]

theorem execLehrReinstate_kept (x0 s) (h : Kept s) : ∀ t, execLehrReinstate x0 s = .next t → Kept t := by
  intro t ht; cases ht
  exact serve_kept _ _ _ _ h (fun k t hk => lehrCfgBody_kept _ _ _ _ _ hk (fun s hs => setSuspect_kept _ _ _ hs))

theorem lehrStatusBody_kept (x0 s) (h : Kept s) : Kept (lehrStatusBody x0 s).next := by grind [lehrStatusBody,
    checked_kept, report_kept, setLehr_kept, foldl_kept, foldl_fst_kept, checked, deny, checked_kept]

theorem execLehrStatus_kept (x0 s) (h : Kept s) : ∀ t, execLehrStatus x0 s = .next t → Kept t := by
  intro t ht; cases ht; exact serve_kept _ _ _ _ h (fun k t hk => lehrStatusBody_kept k t hk)

theorem execLehrRound_kept (s) (h : Kept s) : ∀ t, execLehrRound s = .next t → Kept t := by
  intro t ht; grind [execLehrRound, lehrHit_kept, lehrRecord_kept, setLehr_kept, foldl_kept, foldl_fst_kept]

theorem crossCheck_kept (s) (h : Kept s) : Kept (crossCheck s) := by grind [crossCheck, setLehr_kept,
    ledgerNote_kept, lehrRecord_kept, lehrHit_kept, setSuspect_kept, foldl_kept, foldl_fst_kept]

theorem thermalNotice_kept (s x1 x2) (h : Kept s) : Kept (thermalNotice s x1 x2) := by grind [thermalNotice,
    event_kept, foldl_kept, foldl_fst_kept]

theorem armedAct_kept (s a cond rearm act) (h : Kept s) (ha : ∀ s, Kept s → Kept (act s)) :
    Kept (armedAct s a cond rearm act) := by
  grind [armedAct, setLehr_kept]

theorem thermalTests_kept (s) (h : Kept s) : Kept (thermalTests s) := by
  unfold thermalTests
  extract_lets m i y up r j s1 s2 s3 s4
  have h1 : Kept s1 := armedAct_kept _ _ _ _ _ h (by grind [thermalNotice_kept, lehrRecord_kept, uncore_kept,
      lehrHit_kept, beginStop_kept, graceCutAll_kept])
  have h2 : Kept s2 := armedAct_kept _ _ _ _ _ h1 (by grind [thermalNotice_kept, lehrRecord_kept,
      uncore_kept, lehrHit_kept, beginStop_kept, graceCutAll_kept])
  have h3 : Kept s3 := armedAct_kept _ _ _ _ _ h2 (by grind [thermalNotice_kept, lehrRecord_kept,
      uncore_kept, lehrHit_kept, beginStop_kept, graceCutAll_kept])
  have h4 : Kept s4 := armedAct_kept _ _ _ _ _ h3 (by grind [thermalNotice_kept, lehrRecord_kept,
      uncore_kept, lehrHit_kept, beginStop_kept, graceCutAll_kept])
  repeat' split
  all_goals first | exact h4 | exact graceCutAll_kept _ h4

theorem execLehrEvaluate_kept (s) (h : Kept s) : ∀ t, execLehrEvaluate s = .next t → Kept t := by
  intro t ht; grind [execLehrEvaluate, setLehr_kept, crossCheck_kept, thermalTests_kept, foldl_kept,
      foldl_fst_kept]

theorem supplyEvent_kept (s x1 x2 x3) (h : Kept s) : Kept (supplyEvent s x1 x2 x3) := by grind [supplyEvent,
    lehrRecord_kept, setLehr_kept, uncore_kept, foldl_kept, foldl_fst_kept]

theorem execCoreOvervoltage_kept (x0 s) (h : Kept s) : ∀ t, execCoreOvervoltage x0 s = .next t → Kept t := by
  intro t ht; grind [execCoreOvervoltage, beginStop_kept, supplyEvent_kept, foldl_kept, foldl_fst_kept]

theorem execVddAonOvervoltage_kept (s) (h : Kept s) : ∀ t, execVddAonOvervoltage s = .next t → Kept t := by
  intro t ht; grind [execVddAonOvervoltage, beginStop_kept, supplyEvent_kept, foldl_kept, foldl_fst_kept]

theorem execVddaRfSupplyEvent_kept (x0 x1 x2 s) (h : Kept s) :
    ∀ t, execVddaRfSupplyEvent x0 x1 x2 s = .next t → Kept t := by
  intro t ht; grind [execVddaRfSupplyEvent, supplyEvent_kept, beginStop_kept, foldl_kept, foldl_fst_kept]

theorem execDroop_kept (x0 s) (h : Kept s) : ∀ t, execDroop x0 s = .next t → Kept t := by
  intro t ht; grind [execDroop, uncore_kept, lehrHit_kept, lehrRecord_kept, setLehr_kept, foldl_kept,
      foldl_fst_kept]

theorem execSupplyComparatorClear_kept (x0 s) (h : Kept s) : ∀ t, execSupplyComparatorClear x0 s = .next t →
    Kept t := by
  intro t ht; grind [execSupplyComparatorClear, setLehr_kept, foldl_kept, foldl_fst_kept]

theorem execVddaBiasUndervoltage_kept (x0 x1 s) (h : Kept s) :
    ∀ t, execVddaBiasUndervoltage x0 x1 s = .next t → Kept t := by
  intro t ht; grind [execVddaBiasUndervoltage, biasClampAll_kept, supplyEvent_kept, foldl_kept,
      foldl_fst_kept]

theorem execVddaBiasReturn_kept (s) (h : Kept s) : ∀ t, execVddaBiasReturn s = .next t → Kept t := by
  intro t ht; grind [execVddaBiasReturn, foldl_kept, foldl_fst_kept]

theorem execNvLoadDone_kept (s) (h : Kept s) : ∀ t, execNvLoadDone s = .next t → Kept t := by
  intro t ht; grind [execNvLoadDone, biasPowerUp_kept, foldl_kept, foldl_fst_kept]

theorem execAnalogueTrip_kept (s) (h : Kept s) : ∀ t, execAnalogueTrip s = .next t → Kept t := by
  intro t ht; grind [execAnalogueTrip, markLooms_kept, cutRun_kept, biasHold_kept, setLehr_kept,
      ledgerNote_kept, lehrRecord_kept, foldl_kept, foldl_fst_kept]

theorem execLedgerCommit_kept (s) (h : Kept s) : ∀ t, execLedgerCommit s = .next t → Kept t := by
  intro t ht; grind [execLedgerCommit, storeMap_kept, foldl_kept, foldl_fst_kept]

theorem execPllLoss_kept (x0 s) (h : Kept s) : ∀ t, execPllLoss x0 s = .next t → Kept t := by
  intro t ht; grind [execPllLoss, State_modQuad_kept, beginStop_kept, foldl_kept, foldl_fst_kept]

theorem pllReturn_kept (s x1) (h : Kept s) : Kept (pllReturn s x1) := by grind [pllReturn, State_modQuad_kept,
    foldl_kept, setQuad_kept, setStop_kept, setTile_kept, foldl_kept, foldl_fst_kept]

theorem execPllRelock_kept (x0 s) (h : Kept s) : ∀ t, execPllRelock x0 s = .next t → Kept t := by
  intro t ht; grind [execPllRelock, State_modQuad_kept, pllReturn_kept, foldl_kept, foldl_fst_kept]

/-! ### Machine/Hk.lean -/

theorem State_modHku_kept (s x1 x2) (h : Kept s) : Kept (State.modHku s x1 x2) := by grind [State.modHku,
    foldl_kept, foldl_fst_kept]

theorem hkHit_kept (s x1 x2) (h : Kept s) : Kept (hkHit s x1 x2) := by grind [hkHit, State_modHku_kept, foldl_kept,
    foldl_fst_kept]

theorem hkDrainAux_kept (x0 s x2) (h : Kept s) : Kept (hkDrainAux x0 s x2) := by
  induction x0 generalizing s with
  | zero => exact h
  | succ n ih => grind [hkDrainAux, produce_kept, State_modHku_kept]

theorem hkDrain_kept (s x1) (h : Kept s) : Kept (hkDrain s x1) := by grind [hkDrain, hkDrainAux_kept,
    foldl_kept, foldl_fst_kept]

theorem hkRecord_kept (s x1 x2 x3 x4) (h : Kept s) : Kept (hkRecord s x1 x2 x3 x4) := by grind [hkRecord,
    hkHit_kept, hkDrain_kept, State_modHku_kept, foldl_kept, foldl_fst_kept]

theorem hkEvent_kept (s x1 x2) (h : Kept s) : Kept (hkEvent s x1 x2) := by grind [hkEvent, uncore_kept,
    foldl_kept, foldl_fst_kept]

theorem endWire_kept (s x1 x2) (h : Kept s) : Kept (endWire s x1 x2) := by grind [endWire, answer_kept,
    State_modBc_kept, foldl_kept, foldl_fst_kept]

theorem wireStep_kept (s x1 x2) (h : Kept s) : Kept (wireStep s x1 x2) := by grind [wireStep, endWire_kept,
    State_modBc_kept, foldl_kept, foldl_fst_kept]

theorem openWireBody_kept (x0 s) (h : Kept s) : Kept (openWireBody x0 s).next := by grind [openWireBody,
    waiting_kept, checked_kept, finish_kept, foldl_kept, foldl_fst_kept]

theorem execOpenWire_kept (x0 s) (h : Kept s) : ∀ t, execOpenWire x0 s = .next t → Kept t := by
  intro t ht; cases ht; exact serve_kept _ _ _ _ h (fun k t hk => openWireBody_kept k t hk)

theorem fallDue_kept (s x1) (h : Kept s) : Kept (fallDue s x1) := by grind [fallDue, hkHit_kept,
    State_modHku_kept, foldl_kept, foldl_fst_kept]

theorem startConv_kept (s x1) (h : Kept s) : Kept (startConv s x1) := by grind [startConv, State_modHku_kept,
    foldl_kept, foldl_fst_kept]

theorem endConv_kept (s x1 x2 x3) (h : Kept s) : Kept (endConv s x1 x2 x3) := by grind [endConv,
    State_modHku_kept, hkHit_kept, hkEvent_kept, setLehr_kept, hkRecord_kept, wireStep_kept, foldl_kept,
        foldl_fst_kept]

theorem hkSlot_kept (s x1 x2) (h : Kept s) : Kept (hkSlot s x1 x2) := by grind [hkSlot, startConv_kept,
    fallDue_kept, endConv_kept, foldl_kept, foldl_fst_kept]

theorem wireWait_kept (s) (h : Kept s) : Kept (wireWait s) := by grind [wireWait, foldl_kept, foldl_fst_kept]

theorem execHkConversion_kept (x0 x1 s) (h : Kept s) : ∀ t, execHkConversion x0 x1 s = .next t → Kept t := by
  intro t ht; grind [execHkConversion, hkSlot_kept, wireWait_kept, hkDrain_kept, foldl_kept, foldl_fst_kept]

theorem injectUnit_kept (s x1) (h : Kept s) : Kept (injectUnit s x1) := by grind [injectUnit,
    State_modHku_kept, hkHit_kept, foldl_kept, foldl_fst_kept]

theorem execHkInjectTrigger_kept (s) (h : Kept s) : ∀ t, execHkInjectTrigger s = .next t → Kept t := by
  intro t ht; grind [execHkInjectTrigger, injectUnit_kept, foldl_kept, foldl_fst_kept]

theorem execHkRefok_kept (x0 s) (h : Kept s) : ∀ t, execHkRefok x0 s = .next t → Kept t := by
  intro t ht; grind [execHkRefok, State_modHku_kept, foldl_kept, foldl_fst_kept]

theorem hkCfgBody_kept (x0 s) (h : Kept s) : Kept (hkCfgBody x0 s).next := by grind [hkCfgBody,
    storeImage_kept, scheduled_kept, stage_kept, checked_kept, finish_kept, foldl_kept, foldl_fst_kept]

theorem execHkCfg_kept (x0 s) (h : Kept s) : ∀ t, execHkCfg x0 s = .next t → Kept t := by
  intro t ht; cases ht; exact serve_kept _ _ _ _ h (fun k t hk => hkCfgBody_kept k t hk)

theorem applyHkCfg_kept (s x1 x2) (h : Kept s) : Kept (applyHkCfg s x1 x2) := by grind [applyHkCfg,
    State_modHku_kept, foldl_kept, foldl_fst_kept]

theorem hkCalBody_kept (x0 s) (h : Kept s) : Kept (hkCalBody x0 s).next := by grind [hkCalBody, waiting_kept,
    State_modHku_kept, checked_kept, finish_kept, foldl_kept, foldl_fst_kept]

theorem execHkCal_kept (x0 s) (h : Kept s) : ∀ t, execHkCal x0 s = .next t → Kept t := by
  intro t ht; cases ht; exact serve_kept _ _ _ _ h (fun k t hk => hkCalBody_kept k t hk)

theorem hkCalRestoreBody_kept (x0 s) (h : Kept s) : Kept (hkCalRestoreBody x0 s).next :=
    by grind [hkCalRestoreBody, State_modHku_kept, checked_kept, finish_kept, foldl_kept, foldl_fst_kept]

theorem execHkCalRestore_kept (x0 s) (h : Kept s) : ∀ t, execHkCalRestore x0 s = .next t → Kept t := by
  intro t ht; cases ht; exact serve_kept _ _ _ _ h (fun k t hk => hkCalRestoreBody_kept k t hk)

theorem releaseHeld_kept (s x1) (h : Kept s) : Kept (releaseHeld s x1) := by grind [releaseHeld,
    State_modHku_kept, foldl_kept, foldl_fst_kept]

theorem execHkCalDone_kept (x0 s) (h : Kept s) : ∀ t, execHkCalDone x0 s = .next t → Kept t := by
  intro t ht; grind [execHkCalDone, hkEvent_kept, State_modHku_kept, hkHit_kept, nvInhibited_kept,
      answer_kept, releaseHeld_kept, startConv_kept, foldl_kept, foldl_fst_kept]

theorem hkStatusBody_kept (x0 s) (h : Kept s) : Kept (hkStatusBody x0 s).next := by grind [hkStatusBody,
    State_modHku_kept, checked_kept, report_kept, foldl_kept, foldl_fst_kept, checked, deny, checked_kept]

theorem execHkStatus_kept (x0 s) (h : Kept s) : ∀ t, execHkStatus x0 s = .next t → Kept t := by
  intro t ht; cases ht; exact serve_kept _ _ _ _ h (fun k t hk => hkStatusBody_kept k t hk)

/-! ### Machine/MarverIsa.lean -/

theorem postXY_kept (s x1 x2 x3 x4) (h : Kept s) : Kept (postXY s x1 x2 x3 x4) := by grind [postXY,
    State_modCore_kept, foldl_kept, foldl_fst_kept]

theorem writeV_kept (s x1 x2 x3 x4) (h : Kept s) : Kept (writeV s x1 x2 x3 x4) := by grind [writeV,
    State_modCore_kept, foldl_kept, foldl_fst_kept]

theorem writeAcc_kept (s x1 x2 x3 x4) (h : Kept s) : Kept (writeAcc s x1 x2 x3 x4) := by grind [writeAcc,
    State_modCore_kept, foldl_kept, foldl_fst_kept]

theorem noteReads_kept (s x1 x2) (h : Kept s) : Kept (noteReads s x1 x2) := by grind [noteReads, State_modCore_kept,
    coreHit_kept, foldl_kept, markWin_kept, memEvents_kept, foldl_kept, foldl_fst_kept]

theorem writeX_kept (s x1 x2 x3 x4) (h : Kept s) : Kept (writeX s x1 x2 x3 x4) := by grind [writeX,
    State_modCore_kept, clearErrs_kept, foldl_kept, foldl_fst_kept]

theorem retire_kept (s x1 x2 x3) (h : Kept s) : Kept (retire s x1 x2 x3) := by grind [retire,
    State_modCore_kept, foldl_kept, foldl_fst_kept]

theorem mvRun_kept (core op s act after) (h : Kept s) (ha : ∀ s c w, Kept s → Kept (act s c w).1) :
    ∀ t, mvRun core op s act after = .next t → Kept t := by
  intro t ht
  grind [mvRun, coreFault_kept, memEvents_kept, retire_kept, State_modCore_kept]

theorem mvOne_kept (core op s act) (h : Kept s) (ha : ∀ s c w, Kept s → Kept (act s c w)) :
    ∀ t, mvOne core op s act = .next t → Kept t := mvRun_kept core op s _ _ h (fun s c w hs => ha s c w hs)

theorem mvScalar_kept (core op s f) (h : Kept s) : ∀ t, mvScalar core op s f = .next t → Kept t :=
  mvOne_kept core op s _ h (fun s c _ hs => State_modCore_kept s c _ hs)

theorem inLanes_kept (s c f) (h : Kept s) (hf : ∀ s l, Kept s → Kept (f s l)) : Kept (inLanes s c f) :=
    foldl_kept _ _ _ h hf

theorem execMvNop_kept (x0 s) (h : Kept s) : ∀ t, execMvNop x0 s = .next t → Kept t := mvScalar_kept _ _ _ _ h

theorem execMvWait_kept (x0 s) (h : Kept s) : ∀ t, execMvWait x0 s = .next t → Kept t :=
    mvScalar_kept _ _ _ _ h

theorem execMvJmp_kept (x0 s) (h : Kept s) : ∀ t, execMvJmp x0 s = .next t → Kept t :=
    mvRun_kept _ _ _ _ _ h (fun s c w hs => by grind [State_modCore_kept])

theorem execMvBrz_kept (x0 s) (h : Kept s) : ∀ t, execMvBrz x0 s = .next t → Kept t :=
    mvRun_kept _ _ _ _ _ h (fun s c w hs => by grind [State_modCore_kept])

theorem execMvDjnz_kept (x0 s) (h : Kept s) : ∀ t, execMvDjnz x0 s = .next t → Kept t :=
    mvRun_kept _ _ _ _ _ h (fun s c w hs => by grind [State_modCore_kept])

theorem execMvRpt_kept (x0 s) (h : Kept s) : ∀ t, execMvRpt x0 s = .next t → Kept t :=
    mvRun_kept _ _ _ _ _ h (fun s c w hs => by grind [State_modCore_kept])

theorem execMvLda_kept (x0 s) (h : Kept s) : ∀ t, execMvLda x0 s = .next t → Kept t := mvScalar_kept _ _ _ _ h

theorem execMvLdm_kept (x0 s) (h : Kept s) : ∀ t, execMvLdm x0 s = .next t → Kept t := mvScalar_kept _ _ _ _ h

theorem execMvAdda_kept (x0 s) (h : Kept s) : ∀ t, execMvAdda x0 s = .next t → Kept t :=
    mvScalar_kept _ _ _ _ h

theorem execMvSetk_kept (x0 s) (h : Kept s) : ∀ t, execMvSetk x0 s = .next t → Kept t :=
    mvScalar_kept _ _ _ _ h

theorem execMvSetys_kept (x0 s) (h : Kept s) : ∀ t, execMvSetys x0 s = .next t → Kept t :=
    mvScalar_kept _ _ _ _ h

theorem execMvIn_kept (x0 s) (h : Kept s) : ∀ t, execMvIn x0 s = .next t → Kept t := by
  intro t ht; grind [execMvIn, State_modCore_kept, inLanes_kept, mvOne_kept, writeV_kept, foldl_kept, foldl_fst_kept]

theorem execMvLdi_kept (x0 s) (h : Kept s) : ∀ t, execMvLdi x0 s = .next t → Kept t :=
    mvOne_kept _ _ _ _ h (fun s c w hs => inLanes_kept _ _ _ hs (fun t l ht => by grind [writeV_kept]))

theorem execMvMov_kept (x0 s) (h : Kept s) : ∀ t, execMvMov x0 s = .next t → Kept t :=
    mvOne_kept _ _ _ _ h (fun s c w hs => inLanes_kept _ _ _ hs (fun t l ht => by grind [writeV_kept]))

theorem execMvLdx_kept (x0 s) (h : Kept s) : ∀ t, execMvLdx x0 s = .next t → Kept t :=
    mvOne_kept _ _ _ _ h (fun s c w hs => postXY_kept _ _ _ _ _ (inLanes_kept _ _ _ (noteReads_kept _ _ _ hs) (fun t
        l ht => by grind [noteReads_kept, postXY_kept, writeV_kept])))

theorem execMvLdy_kept (x0 s) (h : Kept s) : ∀ t, execMvLdy x0 s = .next t → Kept t :=
    mvOne_kept _ _ _ _ h (fun s c w hs => postXY_kept _ _ _ _ _ (inLanes_kept _ _ _ (noteReads_kept _ _ _ hs) (fun t
        l ht => by grind [noteReads_kept, postXY_kept, writeV_kept])))

theorem execMvStx_kept (x0 s) (h : Kept s) : ∀ t, execMvStx x0 s = .next t → Kept t :=
    mvOne_kept _ _ _ _ h (fun s c w hs => postXY_kept _ _ _ _ _ (inLanes_kept _ _ _ (hs) (fun t l ht => by grind
        [postXY_kept, writeX_kept])))

theorem vectorOp_kept (x0 x1 x2 s) (h : Kept s) : ∀ t, vectorOp x0 x1 x2 s = .next t → Kept t :=
    mvOne_kept _ _ _ _ h (fun s c w hs => inLanes_kept _ _ _ hs (fun t l ht => writeV_kept _ _ _ _ _ ht))

theorem execMvVadd_kept (x0 s) (h : Kept s) : ∀ t, execMvVadd x0 s = .next t → Kept t :=
    vectorOp_kept _ _ _ _ h

theorem execMvVsub_kept (x0 s) (h : Kept s) : ∀ t, execMvVsub x0 s = .next t → Kept t :=
    vectorOp_kept _ _ _ _ h

theorem execMvVshr_kept (x0 s) (h : Kept s) : ∀ t, execMvVshr x0 s = .next t → Kept t :=
    mvOne_kept _ _ _ _ h (fun s c w hs => inLanes_kept _ _ _ hs (fun t l ht => by grind [writeV_kept]))

theorem execMvCmul_kept (x0 s) (h : Kept s) : ∀ t, execMvCmul x0 s = .next t → Kept t :=
    mvOne_kept _ _ _ _ h (fun s c w hs => inLanes_kept _ _ _ hs (fun t l ht => by grind [writeAcc_kept]))

theorem execMvCmac_kept (x0 s) (h : Kept s) : ∀ t, execMvCmac x0 s = .next t → Kept t :=
    mvOne_kept _ _ _ _ h (fun s c w hs => inLanes_kept _ _ _ hs (fun t l ht => by grind [writeAcc_kept]))

theorem execMvCmacy_kept (x0 s) (h : Kept s) : ∀ t, execMvCmacy x0 s = .next t → Kept t :=
    mvOne_kept _ _ _ _ h (fun s c w hs => postXY_kept _ _ _ _ _ (inLanes_kept _ _ _ (noteReads_kept _ _ _ hs) (fun t
        l ht => by grind [noteReads_kept, postXY_kept, writeAcc_kept])))

theorem execMvTapm_kept (x0 s) (h : Kept s) : ∀ t, execMvTapm x0 s = .next t → Kept t :=
    mvOne_kept _ _ _ _ h (fun s c w hs => postXY_kept _ _ _ _ _ (inLanes_kept _ _ _ (noteReads_kept _ _ _ hs) (fun t
        l ht => by grind [noteReads_kept, postXY_kept, writeAcc_kept, writeX_kept])))

theorem execMvClra_kept (x0 s) (h : Kept s) : ∀ t, execMvClra x0 s = .next t → Kept t :=
    mvOne_kept _ _ _ _ h (fun s c w hs => inLanes_kept _ _ _ hs (fun t l ht => by grind [State_modCore_kept]))

theorem execMvClrg_kept (x0 s) (h : Kept s) : ∀ t, execMvClrg x0 s = .next t → Kept t :=
    mvOne_kept _ _ _ _ h (fun s c w hs => inLanes_kept _ _ _ hs (fun t l ht => by grind [State_modCore_kept]))

theorem execMvMova_kept (x0 s) (h : Kept s) : ∀ t, execMvMova x0 s = .next t → Kept t :=
    mvOne_kept _ _ _ _ h (fun s c w hs => inLanes_kept _ _ _ hs (fun t l ht => by grind [writeV_kept]))

theorem execMvCls3_kept (x0 s) (h : Kept s) : ∀ t, execMvCls3 x0 s = .next t → Kept t :=
    mvOne_kept _ _ _ _ h (fun s c w hs => inLanes_kept _ _ _ hs (fun t l ht => by grind [State_modCore_kept]))

theorem execMvSti_kept (x0 s) (h : Kept s) : ∀ t, execMvSti x0 s = .next t → Kept t :=
    mvOne_kept _ _ _ _ h (fun s c w hs => inLanes_kept _ _ _ hs (fun t l ht => by grind [State_modCore_kept]))

theorem execMvPge_kept (x0 s) (h : Kept s) : ∀ t, execMvPge x0 s = .next t → Kept t := mvScalar_kept _ _ _ _ h

theorem execMvPrst_kept (x0 s) (h : Kept s) : ∀ t, execMvPrst x0 s = .next t → Kept t :=
    mvScalar_kept _ _ _ _ h

theorem pubLane_kept (x0 s x2) (h : Kept s) : Kept (pubLane x0 s x2) := by grind [pubLane, assertAt_kept,
    coreHit_kept, modWin_kept, writeDecision_kept, foldl_kept, foldl_fst_kept]

theorem execMvPub_kept (x0 s) (h : Kept s) : ∀ t, execMvPub x0 s = .next t → Kept t :=
    mvOne_kept _ _ _ _ h (fun s c w hs => inLanes_kept _ _ _ hs (fun t l ht => by grind [pubLane_kept]))

theorem recLane_kept (x0 x1 s x3) (h : Kept s) : Kept (recLane x0 x1 s x3) := by grind [recLane, State_modCore_kept,
    coreHit_kept, reserve_kept, foldl_kept, foldl_fst_kept]

theorem execMvRec_kept (x0 s) (h : Kept s) : ∀ t, execMvRec x0 s = .next t → Kept t :=
    mvOne_kept _ _ _ _ h (fun s c w hs => inLanes_kept _ _ _ hs (fun t l ht => by grind [recLane_kept]))

/-! ### Machine/Scrub.lean -/

theorem memInfoBody_kept (x0 s) (h : Kept s) : Kept (memInfoBody x0 s).next := by grind [memInfoBody,
    report_kept, checked_kept, finish_kept, foldl_kept, foldl_fst_kept]

theorem execMemInfo_kept (x0 s) (h : Kept s) : ∀ t, execMemInfo x0 s = .next t → Kept t := by
  intro t ht; cases ht; exact serve_kept _ _ _ _ h (fun k t hk => memInfoBody_kept k t hk)

theorem State_modScrub_kept (s x1 x2) (h : Kept s) : Kept (State.modScrub s x1 x2) :=
    by grind [State.modScrub, foldl_kept, foldl_fst_kept]

theorem scrubStartBody_kept (x0 s) (h : Kept s) : Kept (scrubStartBody x0 s).next := by grind [scrubStartBody,
    State_modScrub_kept, checked_kept, waiting_kept, foldl_kept, foldl_fst_kept, checked, deny, checked_kept]

theorem execScrubStart_kept (x0 s) (h : Kept s) : ∀ t, execScrubStart x0 s = .next t → Kept t := by
  intro t ht; cases ht; exact serve_kept _ _ _ _ h (fun k t hk => scrubStartBody_kept k t hk)

theorem scrubAbortBody_kept (x0 s) (h : Kept s) : Kept (scrubAbortBody x0 s).next :=
    by grind [scrubAbortBody, done_kept, abortScrub_kept, checked_kept, finish_kept, foldl_kept,
    foldl_fst_kept]

theorem execScrubAbort_kept (x0 s) (h : Kept s) : ∀ t, execScrubAbort x0 s = .next t → Kept t := by
  intro t ht; cases ht; exact serve_kept _ _ _ _ h (fun k t hk => scrubAbortBody_kept k t hk)

theorem setMask_kept (s x1 x2) (h : Kept s) : Kept (setMask s x1 x2) := by grind [setMask, foldl_kept,
    foldl_fst_kept]

theorem rewrite_kept (s x1) (h : Kept s) : Kept (rewrite s x1) := by grind [rewrite, hotFree_kept,
    setMask_kept, memory_tset_wf, memory_tclear_wf, memory_writeBytes_wf, memory_wf_nil, KeptParts]

theorem poisonAt_kept (s x1) (h : Kept s) : Kept (poisonAt s x1) := by grind [poisonAt, poisonWords_kept,
    setMask_kept, foldl_kept, foldl_fst_kept]

theorem zeroWord_kept (s x1) (h : Kept s) : Kept (zeroWord s x1) := by grind [zeroWord, setMask_kept,
    memory_tset_wf, memory_tclear_wf, memory_writeBytes_wf, memory_wf_nil, KeptParts]

theorem scrubWord_kept (x0 x1 p x3) (h : Kept p.1) : Kept (scrubWord x0 x1 p x3).1 := by grind [scrubWord,
    memEvent_kept, rewrite_kept, hotFree_kept, zeroWord_kept, poisonAt_kept, bumpChan_kept, markUe_kept,
        errRecord_kept,
    uncore_kept]

theorem scrubLine_kept (x0 x1 p x3) (h : Kept p.1) : Kept (scrubLine x0 x1 p x3).1 := by grind [scrubLine,
    scrubWord_kept, bitmapFix_kept, memEvents_kept, foldl_fst_kept]

theorem scrubLines_kept (x0 x1 x2 p x4) (h : Kept p.1) : Kept (scrubLines x0 x1 x2 p x4).1 := by
  induction x2 generalizing p x4 with
  | zero => exact h
  | succ n ih => exact ih _ _ (scrubLine_kept _ _ _ _ h)

theorem scrubTo_kept (s x1 x2 x3) (h : Kept s) : Kept (scrubTo s x1 x2 x3) := by grind [scrubTo,
    State_modScrub_kept, done_kept, scrubLines_kept, foldl_kept, foldl_fst_kept]

theorem scrubOne_kept (s x1) (h : Kept s) : Kept (scrubOne s x1) := by grind [scrubOne, done_kept, scrubTo_kept,
    foldl_kept, foldl_fst_kept]

theorem scrubTick_kept (s) (h : Kept s) : Kept (scrubTick s) := by grind [scrubTick, foldl_kept, scrubOne_kept,
    foldl_kept, foldl_fst_kept]

theorem execScrubPassEnd_kept (x0 s) (h : Kept s) : ∀ t, execScrubPassEnd x0 s = .next t → Kept t := by
  intro t ht; grind [execScrubPassEnd, State_modScrub_kept, answer_kept, done_kept, scrubTo_kept, uncore_kept,
      foldl_kept, foldl_fst_kept]

theorem scrubStatusBody_kept (x0 s) (h : Kept s) : Kept (scrubStatusBody x0 s).next := by grind [scrubStatusBody,
    checked_kept, done_kept, report_kept, foldl_kept, foldl_fst_kept, checked, deny, checked_kept]

theorem execScrubStatus_kept (x0 s) (h : Kept s) : ∀ t, execScrubStatus x0 s = .next t → Kept t := by
  intro t ht; cases ht; exact serve_kept _ _ _ _ h (fun k t hk => scrubStatusBody_kept k t hk)

theorem hotwordReadBody_kept (x0 s) (h : Kept s) : Kept (hotwordReadBody x0 s).next := by grind [hotwordReadBody,
    checked_kept, report_kept, foldl_kept, foldl_fst_kept, checked, deny, checked_kept]

theorem execHotwordRead_kept (x0 s) (h : Kept s) : ∀ t, execHotwordRead x0 s = .next t → Kept t := by
  intro t ht; cases ht; exact serve_kept _ _ _ _ h (fun k t hk => hotwordReadBody_kept k t hk)

/-! ### Machine/Repair.lean -/

theorem setRepair_kept (s x1) (h : Kept s) : Kept (setRepair s x1) := by grind [setRepair, foldl_kept,
    foldl_fst_kept]

theorem execRepairReport_kept (x0 s) (h : Kept s) : ∀ t, execRepairReport x0 s = .next t → Kept t := by
  intro t ht; cases ht; exact serve_kept _ _ _ _ h (fun k t hk => by grind [report_kept, checked_kept, deny])

theorem dropMark_kept (s x1) (h : Kept s) : Kept (dropMark s x1) := by grind [dropMark, setRepair_kept,
    foldl_kept, foldl_fst_kept]

theorem copyWord_kept (s x1) (h : Kept s) : Kept (copyWord s x1) := by grind [copyWord, setMask_kept,
    poisonAt_kept, foldl_kept, foldl_fst_kept]

theorem copyWhere_kept (s x1) (h : Kept s) : Kept (copyWhere s x1) := by grind [copyWhere, copyWord_kept,
    foldl_kept, foldl_fst_kept]

theorem remapArray_kept (s x1 x2) (h : Kept s) : Kept (remapArray s x1 x2) := by grind [remapArray, copyWhere_kept,
    dropMark_kept, markUnit_kept, repairNote_kept, setRepair_kept, foldl_kept, foldl_fst_kept]

theorem remapLoom_kept (s x1) (h : Kept s) : Kept (remapLoom s x1) := by grind [remapLoom, dropMark_kept,
    repairNote_kept, State_modLoom_kept, setRepair_kept, copyWhere_kept, foldl_kept, foldl_fst_kept]

theorem remapCore_kept (s x1) (h : Kept s) : Kept (remapCore s x1) := by grind [remapCore, dropMark_kept,
    repairNote_kept, State_modCore_kept, setRepair_kept, copyWhere_kept, foldl_kept, foldl_fst_kept]

theorem execRepairRemap_kept (x0 s) (h : Kept s) : ∀ t, execRepairRemap x0 s = .next t → Kept t := by
  intro t ht; cases ht
  cases x0 <;> grind [remapArray_kept, remapLoom_kept, remapCore_kept]

theorem bootRepairs_kept (s) (h : Kept s) : Kept (bootRepairs s) := by grind [bootRepairs, remapArray_kept,
    remapLoom_kept, remapCore_kept, foldl_kept, foldl_fst_kept]

theorem bistRepair_kept (s x1) (h : Kept s) : Kept (bistRepair s x1) := by
  unfold bistRepair
  cases x1 <;> grind [setRepair_kept, remapArray_kept, remapLoom_kept, remapCore_kept]

theorem bistRepairs_kept (s x1) (h : Kept s) : Kept (bistRepairs s x1) := by grind [bistRepairs, bistRepair_kept,
    foldl_kept, remapCore_kept, remapLoom_kept, foldl_kept, foldl_fst_kept]

theorem wipe_kept (s x1 x2) (h : Kept s) : Kept (wipe s x1 x2) := by
  unfold wipe; split <;> grind [State_modThread_kept, State_modRt_kept, State_modPort_kept,
      State_modPair_kept, State_modLoom_kept, State_modCore_kept]

theorem setOwner_kept (x0 x1 x2 p x4) (h : Kept p.1) : Kept (setOwner x0 x1 x2 p x4).1 := by grind [setOwner,
    wipe_kept, foldl_kept, foldl_fst_kept]

theorem objOwnerBody_kept (x0 s) (h : Kept s) : Kept (objOwnerBody x0 s).next := by grind [objOwnerBody,
    checked_kept, done_kept, foldl_kept, setOwner_kept, foldl_kept, foldl_fst_kept, checked, deny, checked_kept]

theorem execObjOwner_kept (x0 s) (h : Kept s) : ∀ t, execObjOwner x0 s = .next t → Kept t := by
  intro t ht; cases ht; exact serve_kept _ _ _ _ h (fun k t hk => objOwnerBody_kept k t hk)

/-! ### Machine/Synth.lean -/

theorem portDue_kept (s x1 x2 x3 x4) (h : Kept s) : Kept (portDue s x1 x2 x3 x4) := by grind [portDue,
    State_modPort_kept, foldl_kept, foldl_fst_kept]

theorem takeWord_kept (s x1 x2) (h : Kept s) : Kept (takeWord s x1 x2) := by grind [takeWord, State_modBobbin_kept,
    memEvents_kept, foldl_kept, foldl_fst_kept]

theorem closeThread_kept (s x1 x2 x3) (h : Kept s) : Kept (closeThread s x1 x2 x3) := by grind [closeThread,
    State_modThread_kept, portDue_kept, takeWord_kept, foldl_kept, foldl_fst_kept]

theorem closePort_kept (s x1 x2 x3) (h : Kept s) : Kept (closePort s x1 x2 x3) := by grind [closePort,
    State_modPort_kept, portDue_kept, foldl_kept, foldl_fst_kept]

theorem haltPort_kept (s x1 x2) (h : Kept s) : Kept (haltPort s x1 x2) := by grind [haltPort, State_modPort_kept,
    foldl_kept, foldl_fst_kept]

theorem markCut_kept (s x1) (h : Kept s) : Kept (markCut s x1) := by
  have hf : Kept s.fresh.2 := h
  unfold markCut
  dsimp only
  repeat' split
  all_goals first
    | exact h
    | exact State_modPort_kept _ _ _ h
    | exact State_modPort_kept _ _ _ hf

theorem openPort_kept (s x1) (h : Kept s) : Kept (openPort s x1) := by grind [openPort, State_modPort_kept,
    foldl_kept, foldl_kept, foldl_fst_kept]

theorem closePlayers_kept (s x1 x2) (h : Kept s) : Kept (closePlayers s x1 x2) := by grind [closePlayers,
    closePort_kept, closeThread_kept, foldl_kept, haltPort_kept, markCut_kept, foldl_kept, foldl_fst_kept]

theorem openPlayers_kept (s) (h : Kept s) : Kept (openPlayers s) := by grind [openPlayers, foldl_kept,
    openPort_kept, foldl_kept, foldl_fst_kept]

/-! ### Machine/WallClock.lean -/

theorem State_modDom_kept (s x1 x2) (h : Kept s) : Kept (State.modDom s x1 x2) := by grind [State.modDom,
    foldl_kept, foldl_fst_kept]

theorem wallHit_kept (s x1) (h : Kept s) : Kept (wallHit s x1) := by grind [wallHit, foldl_kept, foldl_fst_kept]

theorem wallEvt_kept (s) (h : Kept s) : Kept (wallEvt s) := by grind [wallEvt, uncore_kept, foldl_kept,
    foldl_fst_kept]

theorem refreshValid_kept (s) (h : Kept s) : Kept (refreshValid s) := by grind [refreshValid, wallEvt_kept,
    wallHit_kept, foldl_kept, foldl_fst_kept]

theorem servoRate_kept (s x1) (h : Kept s) : Kept (servoRate s x1).1 := by grind [servoRate, foldl_kept,
    foldl_fst_kept]

theorem execWallSetUpdate_kept (s) (h : Kept s) : ∀ t, execWallSetUpdate s = .next t → Kept t := by
  intro t ht; grind [execWallSetUpdate, event_kept, refreshValid_kept, servoRate_kept, wallEvt_kept, wallHit_kept,
      foldl_kept, foldl_fst_kept]

theorem leftLocked_kept (s x1) (h : Kept s) : Kept (leftLocked s x1) := by grind [leftLocked, wallHit_kept,
    foldl_kept, foldl_fst_kept]

theorem setDom_kept (s x1 x2) (h : Kept s) : Kept (setDom s x1 x2) := by grind [setDom, State_modDom_kept,
    refreshValid_kept, leftLocked_kept, foldl_kept, foldl_fst_kept]

theorem selectMaster_kept (s x1) (h : Kept s) : Kept (selectMaster s x1) := by grind [selectMaster,
    State_modDom_kept, setDom_kept, foldl_kept, foldl_fst_kept]

theorem restartServo_kept (s x1) (h : Kept s) : Kept (restartServo s x1) := by grind [restartServo,
    State_modDom_kept, foldl_kept, foldl_fst_kept]

theorem answerPdelay_kept (s x1 x2) (h : Kept s) : Kept (answerPdelay s x1 x2) := by grind [answerPdelay,
    State_send_kept, foldl_kept, foldl_fst_kept]

theorem checkLock_kept (s x1) (h : Kept s) : Kept (checkLock s x1) := by grind [checkLock, setDom_kept,
    foldl_kept, foldl_fst_kept]

theorem takeSync_kept (s x1 x2) (h : Kept s) : Kept (takeSync s x1 x2) := by grind [takeSync, State_modDom_kept,
    checkLock_kept, setDom_kept, foldl_kept, foldl_fst_kept]

theorem execPtpMessage_kept (x0 x1 s) (h : Kept s) : ∀ t, execPtpMessage x0 x1 s = .next t → Kept t := by
  intro t ht; cases ht
  split
  · exact h
  · cases x1 <;> grind [selectMaster_kept, State_modDom_kept, takeSync_kept, checkLock_kept, answerPdelay_kept]

theorem execWallHoldover_kept (x0 s) (h : Kept s) : ∀ t, execWallHoldover x0 s = .next t → Kept t := by
  intro t ht; grind [execWallHoldover, setDom_kept, foldl_kept, foldl_fst_kept]

theorem execWallHoldMaxExpiry_kept (s) (h : Kept s) : ∀ t, execWallHoldMaxExpiry s = .next t → Kept t := by
  intro t ht; grind [execWallHoldMaxExpiry, refreshValid_kept, foldl_kept, foldl_fst_kept]

theorem execDelayRequestSend_kept (x0 s) (h : Kept s) : ∀ t, execDelayRequestSend x0 s = .next t → Kept t := by
  intro t ht; grind [execDelayRequestSend, State_modDom_kept, State_send_kept, foldl_kept, foldl_fst_kept]

theorem execArpRequest_kept (x0 x1 x2 s) (h : Kept s) : ∀ t, execArpRequest x0 x1 x2 s = .next t → Kept t :=
    by
  intro t ht; grind [execArpRequest, State_send_kept, foldl_kept, foldl_fst_kept]

theorem execNeighborSolicitation_kept (x0 x1 x2 s) (h : Kept s) :
    ∀ t, execNeighborSolicitation x0 x1 x2 s = .next t → Kept t := by
  intro t ht; grind [execNeighborSolicitation, State_send_kept, foldl_kept, foldl_fst_kept]

theorem wallCfgPortBody_kept (x0 s) (h : Kept s) : Kept (wallCfgPortBody x0 s).next :=
    by grind [wallCfgPortBody, storeImage_kept, done_kept, checked_kept, finish_kept, foldl_kept,
    foldl_fst_kept]

theorem execWallCfgPort_kept (x0 s) (h : Kept s) : ∀ t, execWallCfgPort x0 s = .next t → Kept t := by
  intro t ht; cases ht; exact serve_kept _ _ _ _ h (fun k t hk => wallCfgPortBody_kept k t hk)

theorem wallCfgDomainBody_kept (x0 s) (h : Kept s) : Kept (wallCfgDomainBody x0 s).next := by grind
    [wallCfgDomainBody, State_modDom_kept, checked_kept, done_kept, refreshValid_kept, storeImage_kept, foldl_kept,
    foldl_fst_kept, checked, deny, checked_kept]

theorem execWallCfgDomain_kept (x0 s) (h : Kept s) : ∀ t, execWallCfgDomain x0 s = .next t → Kept t := by
  intro t ht; cases ht; exact serve_kept _ _ _ _ h (fun k t hk => wallCfgDomainBody_kept k t hk)

theorem wallSwitchBody_kept (x0 s) (h : Kept s) : Kept (wallSwitchBody x0 s).next := by grind [wallSwitchBody,
    checked_kept, done_kept, scheduled_kept, foldl_kept, foldl_fst_kept, checked, deny, checked_kept]

theorem execWallSwitch_kept (x0 s) (h : Kept s) : ∀ t, execWallSwitch x0 s = .next t → Kept t := by
  intro t ht; cases ht; exact serve_kept _ _ _ _ h (fun k t hk => wallSwitchBody_kept k t hk)

theorem wallStatusBody_kept (x0 s) (h : Kept s) : Kept (wallStatusBody x0 s).next := by grind [wallStatusBody,
    checked_kept, report_kept, foldl_kept, foldl_fst_kept, checked, deny, checked_kept]

theorem execWallStatus_kept (x0 s) (h : Kept s) : ∀ t, execWallStatus x0 s = .next t → Kept t := by
  intro t ht; cases ht; exact serve_kept _ _ _ _ h (fun k t hk => wallStatusBody_kept k t hk)

theorem wallEpoch_kept (s x1 x2) (h : Kept s) : Kept (wallEpoch s x1 x2) := by grind [wallEpoch,
    restartServo_kept, State_modDom_kept, foldl_kept, foldl_fst_kept]

theorem wallReset_kept (s) (h : Kept s) : Kept (wallReset s) := by grind [wallReset, foldl_kept,
    foldl_fst_kept]

/-! ### Machine/Timebase.lean -/

theorem setTime_kept (s x1) (h : Kept s) : Kept (setTime s x1) := by grind [setTime, foldl_kept,
    foldl_fst_kept]

theorem timeHit_kept (s x1) (h : Kept s) : Kept (timeHit s x1) := by grind [timeHit, setTime_kept, foldl_kept,
    foldl_fst_kept]

theorem timeEpochBody_kept (x0 s) (h : Kept s) : Kept (timeEpochBody x0 s).next := by grind [timeEpochBody,
    scheduled_kept, setTime_kept, checked_kept, finish_kept, foldl_kept, foldl_fst_kept]

theorem execTimeEpoch_kept (x0 s) (h : Kept s) : ∀ t, execTimeEpoch x0 s = .next t → Kept t := by
  intro t ht; cases ht; exact serve_kept _ _ _ _ h (fun k t hk => timeEpochBody_kept k t hk)

theorem timeReleaseBody_kept (x0 s) (h : Kept s) : Kept (timeReleaseBody x0 s).next :=
    by grind [timeReleaseBody, done_kept, setTime_kept, checked_kept, finish_kept, foldl_kept, foldl_fst_kept]

theorem execTimeRelease_kept (x0 s) (h : Kept s) : ∀ t, execTimeRelease x0 s = .next t → Kept t := by
  intro t ht; cases ht; exact serve_kept _ _ _ _ h (fun k t hk => timeReleaseBody_kept k t hk)

theorem reanchor_kept (s x1 x2) (h : Kept s) : Kept (reanchor s x1 x2) := by grind [reanchor, foldl_kept,
    foldl_fst_kept]

theorem wakeHeld_kept (s x1) (h : Kept s) : Kept (wakeHeld s x1) := by grind [wakeHeld, State_modTile_kept,
    foldl_kept, foldl_fst_kept]

theorem loadSt_kept (s x1 x2) (h : Kept s) : Kept (loadSt s x1 x2) := by grind [loadSt, reanchor_kept, setTime_kept,
    wakeHeld_kept, wallEpoch_kept, foldl_kept, foldl_fst_kept]

theorem epochNote_kept (s x1) (h : Kept s) : Kept (epochNote s x1) := by grind [epochNote, ledgerNote_kept,
    foldl_kept, foldl_fst_kept]

theorem execEpochLoad_kept (s) (h : Kept s) : ∀ t, execEpochLoad s = .next t → Kept t := by
  intro t ht; grind [execEpochLoad, answer_kept, epochNote_kept, joinWeave_kept, loadSt_kept, storeImage_kept,
      foldl_kept, foldl_fst_kept]

theorem execTimeCountCheck_kept (x0 s) (h : Kept s) : ∀ t, execTimeCountCheck x0 s = .next t → Kept t := by
  intro t ht; grind [execTimeCountCheck, beginStop_kept, uncore_kept, timeHit_kept, foldl_kept,
      foldl_fst_kept]

theorem holdTiles_kept (s) (h : Kept s) : Kept (holdTiles s) := by grind [holdTiles, leaveActive_kept,
    foldl_kept, foldl_fst_kept]

theorem loseRefclk_kept (s) (h : Kept s) : Kept (loseRefclk s) := by grind [loseRefclk, admitFail_kept,
    biasHold_kept, cutRun_kept, foldl_kept, holdTiles_kept, linkDown_kept, markLooms_kept, refreshValid_kept,
    setTime_kept, stopLink_kept, stopLogged_kept, timeHit_kept, uncore_kept, foldl_kept, foldl_fst_kept]

theorem execRefclkLoss_kept (s) (h : Kept s) : ∀ t, execRefclkLoss s = .next t → Kept t := by
  intro t ht; grind [execRefclkLoss, loseRefclk_kept, foldl_kept, foldl_fst_kept]

theorem execRefclkReturn_kept (s) (h : Kept s) : ∀ t, execRefclkReturn s = .next t → Kept t := by
  intro t ht; grind [execRefclkReturn, setTime_kept, startLink_kept, foldl_kept, foldl_fst_kept]

/-! ### Machine/Resets.lean -/

theorem applyStaged_kept (s x1) (h : Kept s) : Kept (applyStaged s x1) := by grind [applyStaged,
    applyPortCfg_kept, applyThreadCfg_kept, applyJumpCfg_kept, applyReadpairCfg_kept, applyMarverCtl_kept,
        applyFluxCfg_kept, applyBiasCfg_kept, applyBiasCtl_kept, endWire_kept, applyBiasGroup_kept,
        applyHarnessCfg_kept, applyHarnessSink_kept, applyHarnessFire_kept, applyHkCfg_kept, applyWarpBind_kept,
        foldl_kept, foldl_fst_kept]

theorem execStagedApply_kept (s) (h : Kept s) : ∀ t, execStagedApply s = .next t → Kept t := by
  intro t ht; grind [execStagedApply, applyStaged_kept, applyQuadPower_kept, applyTilePower_kept, foldl_kept,
      foldl_fst_kept]

theorem warmBase_kept (s) (h : Kept s) : Kept (warmBase s) := by
  have h1 : Kept (wallReset (match s.hk.wire with
      | some w => s.modBc (bcOfTid w.tid) (fun x => { x with pullUp := false, pullDown := false })
      | none => s)) := wallReset_kept _ (by split <;> [exact State_modBc_kept _ _ _ h; exact h])
  exact ⟨h1.1, h1.2.1, tfilter_wf 0 _ _ h1.2.2⟩

theorem resetE_kept (s) (h : Kept s) : Kept (resetE s) :=
    ⟨⟨rfl, (by decide : 0 < 2 ^ 48)⟩, (warmBase_kept s h).2⟩

theorem bootNote_kept (s x1 x2 x3 x4) (h : Kept s) : Kept (bootNote s x1 x2 x3 x4) := by grind [bootNote,
    ledgerNote_kept, foldl_kept, foldl_fst_kept]

theorem skipSeq_kept (s) (h : Kept s) : Kept (skipSeq s) := by grind [skipSeq, bootNote_kept, foldl_kept,
    foldl_fst_kept]

theorem haltReport_kept (s) (h : Kept s) : Kept (haltReport s) := by grind [haltReport, bootNote_kept,
    event_kept, foldl_kept, foldl_fst_kept]

theorem bootEntries_kept (s x1) (h : Kept s) : Kept (bootEntries s x1) := by grind [bootEntries,
    bootNote_kept, haltReport_kept, foldl_kept, foldl_fst_kept]

theorem recovery_kept (s) (h : Kept s) : Kept (recovery s) := by grind [recovery, bootEntries_kept,
    skipSeq_kept, foldl_kept, foldl_fst_kept]

theorem bootStart_kept (s) (h : Kept s) : Kept (bootStart s) := by grind [bootStart, recovery_kept, foldl_kept,
    foldl_fst_kept]

theorem bootTick_kept (s) (h : Kept s) : Kept (bootTick s) := by grind [bootTick, foldl_kept, foldl_fst_kept]

theorem bootEnd_kept (s x1) (h : Kept s) : Kept (bootEnd s x1) := by
  unfold bootEnd
  dsimp only
  split
  · exact biasSafe_kept _ (event_kept _ _ _ _ h)
  · refine foldl_kept _ _ _ h (fun t k ht => ?_)
    split
    · exact startLink_kept _ _ ht
    · exact ht

theorem bootLast_kept (s x1) (h : Kept s) : Kept (bootLast s x1) := by grind [bootLast, bistRepairs_kept,
    bootEnd_kept, bootEntries_kept, bootRepairs_kept, createBootSpools_kept, skipSeq_kept, foldl_kept,
    foldl_fst_kept]

theorem execBootComplete_kept (s) (h : Kept s) : ∀ t, execBootComplete s = .next t → Kept t := by
  intro t ht; cases ht
  split
  · exact h
  · exact bootLast_kept _ _ h

theorem execPowerGood_kept (x0 s) (h : Kept s) : ∀ t, execPowerGood x0 s = .next t → Kept t := by
  intro t ht; grind [execPowerGood, bootStart_kept, foldl_kept, foldl_fst_kept]

theorem warmReset_kept (s) (h : Kept s) : Kept (warmReset s) := by grind [warmReset, bootStart_kept,
    warmBase_kept, foldl_kept, foldl_fst_kept]

theorem newBall_kept (s) (h : Kept s) : Kept (newBall s) := h

theorem resetWarmBody_kept (x0 s) (h : Kept s) : Kept (resetWarmBody x0 s).next := by grind [resetWarmBody,
    waiting_kept, checked_kept, finish_kept, foldl_kept, foldl_fst_kept]

theorem execResetWarm_kept (x0 s) (h : Kept s) : ∀ t, execResetWarm x0 s = .next t → Kept t := by
  intro t ht; cases ht
  have := serve_kept { op := 0x0003, inSealed := true, inRec := true, pf0 := true } x0 s resetWarmBody h
    (fun k t hk => resetWarmBody_kept k t hk)
  split
  · exact warmReset_kept _ (newBall_kept _ this)
  · exact this

theorem devReset_kept (s x1) (h : Kept s) : Kept (devReset s x1) := by grind [devReset, newBall_kept,
    warmReset_kept, foldl_kept, foldl_fst_kept]

theorem execDevResetWrite_kept (x0 s) (h : Kept s) : ∀ t, execDevResetWrite x0 s = .next t → Kept t := by
  intro t ht; grind [execDevResetWrite, devReset_kept, foldl_kept, foldl_fst_kept]

theorem execRegisterWrite_kept (x0 x1 x2 x3 x4 s) (h : Kept s) : ∀ t, execRegisterWrite x0 x1 x2 x3 x4 s = .next t →
    Kept t := by
  intro t ht; grind [execRegisterWrite, devReset_kept, registerWrite_kept, foldl_kept, foldl_fst_kept]

theorem execPerstAssert_kept (s) (h : Kept s) : ∀ t, execPerstAssert s = .next t → Kept t := by
  intro t ht; grind [execPerstAssert, resetE_kept, foldl_kept, foldl_fst_kept]

theorem execPerstDeassert_kept (s) (h : Kept s) : ∀ t, execPerstDeassert s = .next t → Kept t := by
  intro t ht; grind [execPerstDeassert, bootStart_kept, newBall_kept, foldl_kept, foldl_fst_kept]

theorem powerOn_kept (s) (h : Kept s) : Kept (powerOn s) := ⟨⟨rfl, (by decide : 0 < 2 ^ 48)⟩, rfl, rfl⟩

theorem execPowerOnReset_kept (s) (h : Kept s) : ∀ t, execPowerOnReset s = .next t → Kept t := by
  intro t ht; grind [execPowerOnReset, powerOn_kept, foldl_kept, foldl_fst_kept]

theorem loseCore_kept (s) (h : Kept s) : Kept (loseCore s) := by grind [loseCore, markLooms_kept,
    cutRun_kept, enterOff_kept, loseRefclk_kept, warmBase_kept, foldl_kept, foldl_fst_kept]

theorem execCoreUndervoltage_kept (x0 s) (h : Kept s) : ∀ t, execCoreUndervoltage x0 s = .next t → Kept t :=
    by
  intro t ht; grind [execCoreUndervoltage, supplyEvent_kept, loseCore_kept, foldl_kept, foldl_fst_kept]

theorem execCoreRailReturn_kept (s) (h : Kept s) : ∀ t, execCoreRailReturn s = .next t → Kept t := by
  intro t ht; grind [execCoreRailReturn, bootStart_kept, newBall_kept, resetE_kept, foldl_kept, foldl_fst_kept]

/-! ### Machine/Tick.lean -/

theorem showQueues_kept (s) (h : Kept s) : Kept (showQueues s) := by grind [showQueues, foldl_kept,
    foldl_fst_kept]

theorem closeTick_kept (s) (h : Kept s) : Kept (closeTick s) := by grind [closeTick, closeHarness_kept,
    closePlayers_kept, dropWins_kept, handMvRecords_kept, handPushes_kept, hkDrain_kept, keepBinds_kept,
    releaseAll_kept, sampleTaints_kept, showQueues_kept, windowsCloseTick_kept, foldl_kept, foldl_fst_kept]

theorem dropEmits_kept (s) (h : Kept s) : Kept (dropEmits s) := by grind [dropEmits, foldl_kept,
    foldl_fst_kept]

theorem openTick_kept (s) (h : Kept s) : Kept (openTick s) := by grind [openTick, actMarkers_kept, applyAborts_kept,
    armPubs_kept, dropEmits_kept, openPlayers_kept, sampleMarkers_kept, sendShotMarks_kept, showLosses_kept,
    windowsOpenTick_kept, foldl_kept, foldl_fst_kept]

theorem countOn_kept (s) (h : Kept s) : Kept (countOn s) := by grind [countOn, foldl_kept, foldl_fst_kept]

theorem nextTick_kept (s) (h : Kept s) : Kept (nextTick s) := by grind [nextTick, bootTick_kept, closeTick_kept,
    countOn_kept, openTick_kept, scrubTick_kept, foldl_kept, foldl_fst_kept]

theorem serveTurn_kept (s x1) (h : Kept s) : Kept (serveTurn s x1) := by
  unfold serveTurn
  dsimp only
  split
  · exact h
  · exact serve_kept _ _ _ _ h (fun k t hk => hk)

theorem idle_kept (s) (h : Kept s) : Kept (idle s) := by grind [idle, serveTurn_kept, nextTick_kept,
    foldl_kept, foldl_fst_kept]

end Sys2Proof.Machine
end

