-- ==== Sys2Proof/Laws/State.lean ====
section
/-! SUPPORT. The named updates of State, field by field. -/

namespace Sys2Proof.Machine

variable (s : State)

/-! ### setFn -/

@[simp] theorem State.setFn_time (f : Nat) (x : Fn) : (s.setFn f x).time = s.time := rfl
@[simp] theorem State.setFn_ics (f : Nat) (x : Fn) : (s.setFn f x).ics = s.ics := rfl
@[simp] theorem State.setFn_bar2 (f : Nat) (x : Fn) : (s.setFn f x).bar2 = s.bar2 := rfl
@[simp] theorem State.setFn_gaf (f : Nat) (x : Fn) : (s.setFn f x).gaf = s.gaf := rfl
@[simp] theorem State.setFn_ledger (f : Nat) (x : Fn) : (s.setFn f x).ledger = s.ledger := rfl
@[simp] theorem State.setFn_owners (f : Nat) (x : Fn) : (s.setFn f x).owners = s.owners := rfl
@[simp] theorem State.setFn_parts (f : Nat) (x : Fn) : (s.setFn f x).parts = s.parts := rfl
@[simp] theorem State.setFn_keys (f : Nat) (x : Fn) : (s.setFn f x).keys = s.keys := rfl
@[simp] theorem State.setFn_images (f : Nat) (x : Fn) : (s.setFn f x).images = s.images := rfl
@[simp] theorem State.setFn_staged (f : Nat) (x : Fn) : (s.setFn f x).staged = s.staged := rfl
@[simp] theorem State.setFn_ports (f : Nat) (x : Fn) : (s.setFn f x).ports = s.ports := rfl
@[simp] theorem State.setFn_threads (f : Nat) (x : Fn) : (s.setFn f x).threads = s.threads := rfl
@[simp] theorem State.setFn_bobbins (f : Nat) (x : Fn) : (s.setFn f x).bobbins = s.bobbins := rfl
@[simp] theorem State.setFn_harness (f : Nat) (x : Fn) : (s.setFn f x).harness = s.harness := rfl
@[simp] theorem State.setFn_markIn (f : Nat) (x : Fn) : (s.setFn f x).markIn = s.markIn := rfl
@[simp] theorem State.setFn_markOut (f : Nat) (x : Fn) : (s.setFn f x).markOut = s.markOut := rfl
@[simp] theorem State.setFn_spools (f : Nat) (x : Fn) : (s.setFn f x).spools = s.spools := rfl
@[simp] theorem State.setFn_ringMem (f : Nat) (x : Fn) : (s.setFn f x).ringMem = s.ringMem := rfl
@[simp] theorem State.setFn_dma (f : Nat) (x : Fn) : (s.setFn f x).dma = s.dma := rfl
@[simp] theorem State.setFn_mem (f : Nat) (x : Fn) : (s.setFn f x).mem = s.mem := rfl
@[simp] theorem State.setFn_wall (f : Nat) (x : Fn) : (s.setFn f x).wall = s.wall := rfl
@[simp] theorem State.setFn_wallTime (f : Nat) (x : Fn) : (s.setFn f x).wallTime = s.wallTime := rfl
@[simp] theorem State.setFn_power (f : Nat) (x : Fn) : (s.setFn f x).power = s.power := rfl
@[simp] theorem State.setFn_lehr (f : Nat) (x : Fn) : (s.setFn f x).lehr = s.lehr := rfl
@[simp] theorem State.setFn_repair (f : Nat) (x : Fn) : (s.setFn f x).repair = s.repair := rfl
@[simp] theorem State.setFn_weave (f : Nat) (x : Fn) : (s.setFn f x).weave = s.weave := rfl
@[simp] theorem State.setFn_links (f : Nat) (x : Fn) : (s.setFn f x).links = s.links := rfl
@[simp] theorem State.setFn_rts (f : Nat) (x : Fn) : (s.setFn f x).rts = s.rts := rfl
@[simp] theorem State.setFn_pairs (f : Nat) (x : Fn) : (s.setFn f x).pairs = s.pairs := rfl
@[simp] theorem State.setFn_caps (f : Nat) (x : Fn) : (s.setFn f x).caps = s.caps := rfl
@[simp] theorem State.setFn_emits (f : Nat) (x : Fn) : (s.setFn f x).emits = s.emits := rfl
@[simp] theorem State.setFn_looms (f : Nat) (x : Fn) : (s.setFn f x).looms = s.looms := rfl
@[simp] theorem State.setFn_warp (f : Nat) (x : Fn) : (s.setFn f x).warp = s.warp := rfl
@[simp] theorem State.setFn_cores (f : Nat) (x : Fn) : (s.setFn f x).cores = s.cores := rfl
@[simp] theorem State.setFn_bias (f : Nat) (x : Fn) : (s.setFn f x).bias = s.bias := rfl
@[simp] theorem State.setFn_biasN (f : Nat) (x : Fn) : (s.setFn f x).biasN = s.biasN := rfl
@[simp] theorem State.setFn_hk (f : Nat) (x : Fn) : (s.setFn f x).hk = s.hk := rfl
@[simp] theorem State.setFn_sent (f : Nat) (x : Fn) : (s.setFn f x).sent = s.sent := rfl
@[simp] theorem State.setFn_freeCtr (f : Nat) (x : Fn) : (s.setFn f x).freeCtr = s.freeCtr := rfl
@[simp] theorem State.setFn_phase (f : Nat) (x : Fn) : (s.setFn f x).phase = s.phase := rfl
@[simp] theorem State.setFn_pending (f : Nat) (x : Fn) : (s.setFn f x).pending = s.pending := rfl

/-! ### modFn -/

@[simp] theorem State.modFn_time (f : Nat) (g : Fn → Fn) : (s.modFn f g).time = s.time := rfl
@[simp] theorem State.modFn_ics (f : Nat) (g : Fn → Fn) : (s.modFn f g).ics = s.ics := rfl
@[simp] theorem State.modFn_bar2 (f : Nat) (g : Fn → Fn) : (s.modFn f g).bar2 = s.bar2 := rfl
@[simp] theorem State.modFn_gaf (f : Nat) (g : Fn → Fn) : (s.modFn f g).gaf = s.gaf := rfl
@[simp] theorem State.modFn_ledger (f : Nat) (g : Fn → Fn) : (s.modFn f g).ledger = s.ledger := rfl
@[simp] theorem State.modFn_owners (f : Nat) (g : Fn → Fn) : (s.modFn f g).owners = s.owners := rfl
@[simp] theorem State.modFn_parts (f : Nat) (g : Fn → Fn) : (s.modFn f g).parts = s.parts := rfl
@[simp] theorem State.modFn_keys (f : Nat) (g : Fn → Fn) : (s.modFn f g).keys = s.keys := rfl
@[simp] theorem State.modFn_images (f : Nat) (g : Fn → Fn) : (s.modFn f g).images = s.images := rfl
@[simp] theorem State.modFn_staged (f : Nat) (g : Fn → Fn) : (s.modFn f g).staged = s.staged := rfl
@[simp] theorem State.modFn_ports (f : Nat) (g : Fn → Fn) : (s.modFn f g).ports = s.ports := rfl
@[simp] theorem State.modFn_threads (f : Nat) (g : Fn → Fn) : (s.modFn f g).threads = s.threads := rfl
@[simp] theorem State.modFn_bobbins (f : Nat) (g : Fn → Fn) : (s.modFn f g).bobbins = s.bobbins := rfl
@[simp] theorem State.modFn_harness (f : Nat) (g : Fn → Fn) : (s.modFn f g).harness = s.harness := rfl
@[simp] theorem State.modFn_markIn (f : Nat) (g : Fn → Fn) : (s.modFn f g).markIn = s.markIn := rfl
@[simp] theorem State.modFn_markOut (f : Nat) (g : Fn → Fn) : (s.modFn f g).markOut = s.markOut := rfl
@[simp] theorem State.modFn_spools (f : Nat) (g : Fn → Fn) : (s.modFn f g).spools = s.spools := rfl
@[simp] theorem State.modFn_ringMem (f : Nat) (g : Fn → Fn) : (s.modFn f g).ringMem = s.ringMem := rfl
@[simp] theorem State.modFn_dma (f : Nat) (g : Fn → Fn) : (s.modFn f g).dma = s.dma := rfl
@[simp] theorem State.modFn_mem (f : Nat) (g : Fn → Fn) : (s.modFn f g).mem = s.mem := rfl
@[simp] theorem State.modFn_wall (f : Nat) (g : Fn → Fn) : (s.modFn f g).wall = s.wall := rfl
@[simp] theorem State.modFn_wallTime (f : Nat) (g : Fn → Fn) : (s.modFn f g).wallTime = s.wallTime := rfl
@[simp] theorem State.modFn_power (f : Nat) (g : Fn → Fn) : (s.modFn f g).power = s.power := rfl
@[simp] theorem State.modFn_lehr (f : Nat) (g : Fn → Fn) : (s.modFn f g).lehr = s.lehr := rfl
@[simp] theorem State.modFn_repair (f : Nat) (g : Fn → Fn) : (s.modFn f g).repair = s.repair := rfl
@[simp] theorem State.modFn_weave (f : Nat) (g : Fn → Fn) : (s.modFn f g).weave = s.weave := rfl
@[simp] theorem State.modFn_links (f : Nat) (g : Fn → Fn) : (s.modFn f g).links = s.links := rfl
@[simp] theorem State.modFn_rts (f : Nat) (g : Fn → Fn) : (s.modFn f g).rts = s.rts := rfl
@[simp] theorem State.modFn_pairs (f : Nat) (g : Fn → Fn) : (s.modFn f g).pairs = s.pairs := rfl
@[simp] theorem State.modFn_caps (f : Nat) (g : Fn → Fn) : (s.modFn f g).caps = s.caps := rfl
@[simp] theorem State.modFn_emits (f : Nat) (g : Fn → Fn) : (s.modFn f g).emits = s.emits := rfl
@[simp] theorem State.modFn_looms (f : Nat) (g : Fn → Fn) : (s.modFn f g).looms = s.looms := rfl
@[simp] theorem State.modFn_warp (f : Nat) (g : Fn → Fn) : (s.modFn f g).warp = s.warp := rfl
@[simp] theorem State.modFn_cores (f : Nat) (g : Fn → Fn) : (s.modFn f g).cores = s.cores := rfl
@[simp] theorem State.modFn_bias (f : Nat) (g : Fn → Fn) : (s.modFn f g).bias = s.bias := rfl
@[simp] theorem State.modFn_biasN (f : Nat) (g : Fn → Fn) : (s.modFn f g).biasN = s.biasN := rfl
@[simp] theorem State.modFn_hk (f : Nat) (g : Fn → Fn) : (s.modFn f g).hk = s.hk := rfl
@[simp] theorem State.modFn_sent (f : Nat) (g : Fn → Fn) : (s.modFn f g).sent = s.sent := rfl
@[simp] theorem State.modFn_freeCtr (f : Nat) (g : Fn → Fn) : (s.modFn f g).freeCtr = s.freeCtr := rfl
@[simp] theorem State.modFn_phase (f : Nat) (g : Fn → Fn) : (s.modFn f g).phase = s.phase := rfl
@[simp] theorem State.modFn_pending (f : Nat) (g : Fn → Fn) : (s.modFn f g).pending = s.pending := rfl

/-! ### modPort -/

@[simp] theorem State.modPort_time (p : Nat) (g : Port → Port) : (s.modPort p g).time = s.time := rfl
@[simp] theorem State.modPort_fns (p : Nat) (g : Port → Port) : (s.modPort p g).fns = s.fns := rfl
@[simp] theorem State.modPort_ics (p : Nat) (g : Port → Port) : (s.modPort p g).ics = s.ics := rfl
@[simp] theorem State.modPort_bar2 (p : Nat) (g : Port → Port) : (s.modPort p g).bar2 = s.bar2 := rfl
@[simp] theorem State.modPort_gaf (p : Nat) (g : Port → Port) : (s.modPort p g).gaf = s.gaf := rfl
@[simp] theorem State.modPort_ledger (p : Nat) (g : Port → Port) : (s.modPort p g).ledger = s.ledger := rfl
@[simp] theorem State.modPort_owners (p : Nat) (g : Port → Port) : (s.modPort p g).owners = s.owners := rfl
@[simp] theorem State.modPort_parts (p : Nat) (g : Port → Port) : (s.modPort p g).parts = s.parts := rfl
@[simp] theorem State.modPort_keys (p : Nat) (g : Port → Port) : (s.modPort p g).keys = s.keys := rfl
@[simp] theorem State.modPort_images (p : Nat) (g : Port → Port) : (s.modPort p g).images = s.images := rfl
@[simp] theorem State.modPort_staged (p : Nat) (g : Port → Port) : (s.modPort p g).staged = s.staged := rfl
@[simp] theorem State.modPort_threads (p : Nat) (g : Port → Port) : (s.modPort p g).threads = s.threads := rfl
@[simp] theorem State.modPort_bobbins (p : Nat) (g : Port → Port) : (s.modPort p g).bobbins = s.bobbins := rfl
@[simp] theorem State.modPort_harness (p : Nat) (g : Port → Port) : (s.modPort p g).harness = s.harness := rfl
@[simp] theorem State.modPort_markIn (p : Nat) (g : Port → Port) : (s.modPort p g).markIn = s.markIn := rfl
@[simp] theorem State.modPort_markOut (p : Nat) (g : Port → Port) : (s.modPort p g).markOut = s.markOut := rfl
@[simp] theorem State.modPort_spools (p : Nat) (g : Port → Port) : (s.modPort p g).spools = s.spools := rfl
@[simp] theorem State.modPort_ringMem (p : Nat) (g : Port → Port) : (s.modPort p g).ringMem = s.ringMem := rfl
@[simp] theorem State.modPort_dma (p : Nat) (g : Port → Port) : (s.modPort p g).dma = s.dma := rfl
@[simp] theorem State.modPort_mem (p : Nat) (g : Port → Port) : (s.modPort p g).mem = s.mem := rfl
@[simp] theorem State.modPort_wall (p : Nat) (g : Port → Port) : (s.modPort p g).wall = s.wall := rfl
@[simp] theorem State.modPort_wallTime (p : Nat) (g : Port → Port) : (s.modPort p g).wallTime = s.wallTime := rfl
@[simp] theorem State.modPort_power (p : Nat) (g : Port → Port) : (s.modPort p g).power = s.power := rfl
@[simp] theorem State.modPort_lehr (p : Nat) (g : Port → Port) : (s.modPort p g).lehr = s.lehr := rfl
@[simp] theorem State.modPort_repair (p : Nat) (g : Port → Port) : (s.modPort p g).repair = s.repair := rfl
@[simp] theorem State.modPort_weave (p : Nat) (g : Port → Port) : (s.modPort p g).weave = s.weave := rfl
@[simp] theorem State.modPort_links (p : Nat) (g : Port → Port) : (s.modPort p g).links = s.links := rfl
@[simp] theorem State.modPort_rts (p : Nat) (g : Port → Port) : (s.modPort p g).rts = s.rts := rfl
@[simp] theorem State.modPort_pairs (p : Nat) (g : Port → Port) : (s.modPort p g).pairs = s.pairs := rfl
@[simp] theorem State.modPort_caps (p : Nat) (g : Port → Port) : (s.modPort p g).caps = s.caps := rfl
@[simp] theorem State.modPort_emits (p : Nat) (g : Port → Port) : (s.modPort p g).emits = s.emits := rfl
@[simp] theorem State.modPort_looms (p : Nat) (g : Port → Port) : (s.modPort p g).looms = s.looms := rfl
@[simp] theorem State.modPort_warp (p : Nat) (g : Port → Port) : (s.modPort p g).warp = s.warp := rfl
@[simp] theorem State.modPort_cores (p : Nat) (g : Port → Port) : (s.modPort p g).cores = s.cores := rfl
@[simp] theorem State.modPort_bias (p : Nat) (g : Port → Port) : (s.modPort p g).bias = s.bias := rfl
@[simp] theorem State.modPort_biasN (p : Nat) (g : Port → Port) : (s.modPort p g).biasN = s.biasN := rfl
@[simp] theorem State.modPort_hk (p : Nat) (g : Port → Port) : (s.modPort p g).hk = s.hk := rfl
@[simp] theorem State.modPort_sent (p : Nat) (g : Port → Port) : (s.modPort p g).sent = s.sent := rfl
@[simp] theorem State.modPort_freeCtr (p : Nat) (g : Port → Port) : (s.modPort p g).freeCtr = s.freeCtr := rfl
@[simp] theorem State.modPort_phase (p : Nat) (g : Port → Port) : (s.modPort p g).phase = s.phase := rfl
@[simp] theorem State.modPort_pending (p : Nat) (g : Port → Port) : (s.modPort p g).pending = s.pending := rfl

/-! ### modThread -/

@[simp] theorem State.modThread_time (t : Nat) (g : Thread → Thread) : (s.modThread t g).time = s.time := rfl
@[simp] theorem State.modThread_fns (t : Nat) (g : Thread → Thread) : (s.modThread t g).fns = s.fns := rfl
@[simp] theorem State.modThread_ics (t : Nat) (g : Thread → Thread) : (s.modThread t g).ics = s.ics := rfl
@[simp] theorem State.modThread_bar2 (t : Nat) (g : Thread → Thread) : (s.modThread t g).bar2 = s.bar2 := rfl
@[simp] theorem State.modThread_gaf (t : Nat) (g : Thread → Thread) : (s.modThread t g).gaf = s.gaf := rfl
@[simp] theorem State.modThread_ledger (t : Nat) (g : Thread → Thread) : (s.modThread t g).ledger = s.ledger := rfl
@[simp] theorem State.modThread_owners (t : Nat) (g : Thread → Thread) : (s.modThread t g).owners = s.owners := rfl
@[simp] theorem State.modThread_parts (t : Nat) (g : Thread → Thread) : (s.modThread t g).parts = s.parts := rfl
@[simp] theorem State.modThread_keys (t : Nat) (g : Thread → Thread) : (s.modThread t g).keys = s.keys := rfl
@[simp] theorem State.modThread_images (t : Nat) (g : Thread → Thread) : (s.modThread t g).images = s.images := rfl
@[simp] theorem State.modThread_staged (t : Nat) (g : Thread → Thread) : (s.modThread t g).staged = s.staged := rfl
@[simp] theorem State.modThread_ports (t : Nat) (g : Thread → Thread) : (s.modThread t g).ports = s.ports := rfl
@[simp] theorem State.modThread_bobbins (t : Nat) (g : Thread → Thread) : (s.modThread t g).bobbins = s.bobbins := rfl
@[simp] theorem State.modThread_harness (t : Nat) (g : Thread → Thread) : (s.modThread t g).harness = s.harness := rfl
@[simp] theorem State.modThread_markIn (t : Nat) (g : Thread → Thread) : (s.modThread t g).markIn = s.markIn := rfl
@[simp] theorem State.modThread_markOut (t : Nat) (g : Thread → Thread) : (s.modThread t g).markOut = s.markOut := rfl
@[simp] theorem State.modThread_spools (t : Nat) (g : Thread → Thread) : (s.modThread t g).spools = s.spools := rfl
@[simp] theorem State.modThread_ringMem (t : Nat) (g : Thread → Thread) : (s.modThread t g).ringMem = s.ringMem := rfl
@[simp] theorem State.modThread_dma (t : Nat) (g : Thread → Thread) : (s.modThread t g).dma = s.dma := rfl
@[simp] theorem State.modThread_mem (t : Nat) (g : Thread → Thread) : (s.modThread t g).mem = s.mem := rfl
@[simp] theorem State.modThread_wall (t : Nat) (g : Thread → Thread) : (s.modThread t g).wall = s.wall := rfl
@[simp] theorem State.modThread_wallTime (t : Nat) (g : Thread → Thread) : (s.modThread t g).wallTime = s.wallTime := rfl
@[simp] theorem State.modThread_power (t : Nat) (g : Thread → Thread) : (s.modThread t g).power = s.power := rfl
@[simp] theorem State.modThread_lehr (t : Nat) (g : Thread → Thread) : (s.modThread t g).lehr = s.lehr := rfl
@[simp] theorem State.modThread_repair (t : Nat) (g : Thread → Thread) : (s.modThread t g).repair = s.repair := rfl
@[simp] theorem State.modThread_weave (t : Nat) (g : Thread → Thread) : (s.modThread t g).weave = s.weave := rfl
@[simp] theorem State.modThread_links (t : Nat) (g : Thread → Thread) : (s.modThread t g).links = s.links := rfl
@[simp] theorem State.modThread_rts (t : Nat) (g : Thread → Thread) : (s.modThread t g).rts = s.rts := rfl
@[simp] theorem State.modThread_pairs (t : Nat) (g : Thread → Thread) : (s.modThread t g).pairs = s.pairs := rfl
@[simp] theorem State.modThread_caps (t : Nat) (g : Thread → Thread) : (s.modThread t g).caps = s.caps := rfl
@[simp] theorem State.modThread_emits (t : Nat) (g : Thread → Thread) : (s.modThread t g).emits = s.emits := rfl
@[simp] theorem State.modThread_looms (t : Nat) (g : Thread → Thread) : (s.modThread t g).looms = s.looms := rfl
@[simp] theorem State.modThread_warp (t : Nat) (g : Thread → Thread) : (s.modThread t g).warp = s.warp := rfl
@[simp] theorem State.modThread_cores (t : Nat) (g : Thread → Thread) : (s.modThread t g).cores = s.cores := rfl
@[simp] theorem State.modThread_bias (t : Nat) (g : Thread → Thread) : (s.modThread t g).bias = s.bias := rfl
@[simp] theorem State.modThread_biasN (t : Nat) (g : Thread → Thread) : (s.modThread t g).biasN = s.biasN := rfl
@[simp] theorem State.modThread_hk (t : Nat) (g : Thread → Thread) : (s.modThread t g).hk = s.hk := rfl
@[simp] theorem State.modThread_sent (t : Nat) (g : Thread → Thread) : (s.modThread t g).sent = s.sent := rfl
@[simp] theorem State.modThread_freeCtr (t : Nat) (g : Thread → Thread) : (s.modThread t g).freeCtr = s.freeCtr := rfl
@[simp] theorem State.modThread_phase (t : Nat) (g : Thread → Thread) : (s.modThread t g).phase = s.phase := rfl
@[simp] theorem State.modThread_pending (t : Nat) (g : Thread → Thread) : (s.modThread t g).pending = s.pending := rfl

/-! ### modBobbin -/

@[simp] theorem State.modBobbin_time (t : Nat) (g : Bobbin → Bobbin) : (s.modBobbin t g).time = s.time := rfl
@[simp] theorem State.modBobbin_fns (t : Nat) (g : Bobbin → Bobbin) : (s.modBobbin t g).fns = s.fns := rfl
@[simp] theorem State.modBobbin_ics (t : Nat) (g : Bobbin → Bobbin) : (s.modBobbin t g).ics = s.ics := rfl
@[simp] theorem State.modBobbin_bar2 (t : Nat) (g : Bobbin → Bobbin) : (s.modBobbin t g).bar2 = s.bar2 := rfl
@[simp] theorem State.modBobbin_gaf (t : Nat) (g : Bobbin → Bobbin) : (s.modBobbin t g).gaf = s.gaf := rfl
@[simp] theorem State.modBobbin_ledger (t : Nat) (g : Bobbin → Bobbin) : (s.modBobbin t g).ledger = s.ledger := rfl
@[simp] theorem State.modBobbin_owners (t : Nat) (g : Bobbin → Bobbin) : (s.modBobbin t g).owners = s.owners := rfl
@[simp] theorem State.modBobbin_parts (t : Nat) (g : Bobbin → Bobbin) : (s.modBobbin t g).parts = s.parts := rfl
@[simp] theorem State.modBobbin_keys (t : Nat) (g : Bobbin → Bobbin) : (s.modBobbin t g).keys = s.keys := rfl
@[simp] theorem State.modBobbin_images (t : Nat) (g : Bobbin → Bobbin) : (s.modBobbin t g).images = s.images := rfl
@[simp] theorem State.modBobbin_staged (t : Nat) (g : Bobbin → Bobbin) : (s.modBobbin t g).staged = s.staged := rfl
@[simp] theorem State.modBobbin_ports (t : Nat) (g : Bobbin → Bobbin) : (s.modBobbin t g).ports = s.ports := rfl
@[simp] theorem State.modBobbin_threads (t : Nat) (g : Bobbin → Bobbin) : (s.modBobbin t g).threads = s.threads := rfl
@[simp] theorem State.modBobbin_harness (t : Nat) (g : Bobbin → Bobbin) : (s.modBobbin t g).harness = s.harness := rfl
@[simp] theorem State.modBobbin_markIn (t : Nat) (g : Bobbin → Bobbin) : (s.modBobbin t g).markIn = s.markIn := rfl
@[simp] theorem State.modBobbin_markOut (t : Nat) (g : Bobbin → Bobbin) : (s.modBobbin t g).markOut = s.markOut := rfl
@[simp] theorem State.modBobbin_spools (t : Nat) (g : Bobbin → Bobbin) : (s.modBobbin t g).spools = s.spools := rfl
@[simp] theorem State.modBobbin_ringMem (t : Nat) (g : Bobbin → Bobbin) : (s.modBobbin t g).ringMem = s.ringMem := rfl
@[simp] theorem State.modBobbin_dma (t : Nat) (g : Bobbin → Bobbin) : (s.modBobbin t g).dma = s.dma := rfl
@[simp] theorem State.modBobbin_mem (t : Nat) (g : Bobbin → Bobbin) : (s.modBobbin t g).mem = s.mem := rfl
@[simp] theorem State.modBobbin_wall (t : Nat) (g : Bobbin → Bobbin) : (s.modBobbin t g).wall = s.wall := rfl
@[simp] theorem State.modBobbin_wallTime (t : Nat) (g : Bobbin → Bobbin) : (s.modBobbin t g).wallTime = s.wallTime := rfl
@[simp] theorem State.modBobbin_power (t : Nat) (g : Bobbin → Bobbin) : (s.modBobbin t g).power = s.power := rfl
@[simp] theorem State.modBobbin_lehr (t : Nat) (g : Bobbin → Bobbin) : (s.modBobbin t g).lehr = s.lehr := rfl
@[simp] theorem State.modBobbin_repair (t : Nat) (g : Bobbin → Bobbin) : (s.modBobbin t g).repair = s.repair := rfl
@[simp] theorem State.modBobbin_weave (t : Nat) (g : Bobbin → Bobbin) : (s.modBobbin t g).weave = s.weave := rfl
@[simp] theorem State.modBobbin_links (t : Nat) (g : Bobbin → Bobbin) : (s.modBobbin t g).links = s.links := rfl
@[simp] theorem State.modBobbin_rts (t : Nat) (g : Bobbin → Bobbin) : (s.modBobbin t g).rts = s.rts := rfl
@[simp] theorem State.modBobbin_pairs (t : Nat) (g : Bobbin → Bobbin) : (s.modBobbin t g).pairs = s.pairs := rfl
@[simp] theorem State.modBobbin_caps (t : Nat) (g : Bobbin → Bobbin) : (s.modBobbin t g).caps = s.caps := rfl
@[simp] theorem State.modBobbin_emits (t : Nat) (g : Bobbin → Bobbin) : (s.modBobbin t g).emits = s.emits := rfl
@[simp] theorem State.modBobbin_looms (t : Nat) (g : Bobbin → Bobbin) : (s.modBobbin t g).looms = s.looms := rfl
@[simp] theorem State.modBobbin_warp (t : Nat) (g : Bobbin → Bobbin) : (s.modBobbin t g).warp = s.warp := rfl
@[simp] theorem State.modBobbin_cores (t : Nat) (g : Bobbin → Bobbin) : (s.modBobbin t g).cores = s.cores := rfl
@[simp] theorem State.modBobbin_bias (t : Nat) (g : Bobbin → Bobbin) : (s.modBobbin t g).bias = s.bias := rfl
@[simp] theorem State.modBobbin_biasN (t : Nat) (g : Bobbin → Bobbin) : (s.modBobbin t g).biasN = s.biasN := rfl
@[simp] theorem State.modBobbin_hk (t : Nat) (g : Bobbin → Bobbin) : (s.modBobbin t g).hk = s.hk := rfl
@[simp] theorem State.modBobbin_sent (t : Nat) (g : Bobbin → Bobbin) : (s.modBobbin t g).sent = s.sent := rfl
@[simp] theorem State.modBobbin_freeCtr (t : Nat) (g : Bobbin → Bobbin) : (s.modBobbin t g).freeCtr = s.freeCtr := rfl
@[simp] theorem State.modBobbin_phase (t : Nat) (g : Bobbin → Bobbin) : (s.modBobbin t g).phase = s.phase := rfl
@[simp] theorem State.modBobbin_pending (t : Nat) (g : Bobbin → Bobbin) : (s.modBobbin t g).pending = s.pending := rfl

/-! ### modSpool -/

@[simp] theorem State.modSpool_time (n : Nat) (g : Spool → Spool) : (s.modSpool n g).time = s.time := rfl
@[simp] theorem State.modSpool_fns (n : Nat) (g : Spool → Spool) : (s.modSpool n g).fns = s.fns := rfl
@[simp] theorem State.modSpool_ics (n : Nat) (g : Spool → Spool) : (s.modSpool n g).ics = s.ics := rfl
@[simp] theorem State.modSpool_bar2 (n : Nat) (g : Spool → Spool) : (s.modSpool n g).bar2 = s.bar2 := rfl
@[simp] theorem State.modSpool_gaf (n : Nat) (g : Spool → Spool) : (s.modSpool n g).gaf = s.gaf := rfl
@[simp] theorem State.modSpool_ledger (n : Nat) (g : Spool → Spool) : (s.modSpool n g).ledger = s.ledger := rfl
@[simp] theorem State.modSpool_owners (n : Nat) (g : Spool → Spool) : (s.modSpool n g).owners = s.owners := rfl
@[simp] theorem State.modSpool_parts (n : Nat) (g : Spool → Spool) : (s.modSpool n g).parts = s.parts := rfl
@[simp] theorem State.modSpool_keys (n : Nat) (g : Spool → Spool) : (s.modSpool n g).keys = s.keys := rfl
@[simp] theorem State.modSpool_images (n : Nat) (g : Spool → Spool) : (s.modSpool n g).images = s.images := rfl
@[simp] theorem State.modSpool_staged (n : Nat) (g : Spool → Spool) : (s.modSpool n g).staged = s.staged := rfl
@[simp] theorem State.modSpool_ports (n : Nat) (g : Spool → Spool) : (s.modSpool n g).ports = s.ports := rfl
@[simp] theorem State.modSpool_threads (n : Nat) (g : Spool → Spool) : (s.modSpool n g).threads = s.threads := rfl
@[simp] theorem State.modSpool_bobbins (n : Nat) (g : Spool → Spool) : (s.modSpool n g).bobbins = s.bobbins := rfl
@[simp] theorem State.modSpool_harness (n : Nat) (g : Spool → Spool) : (s.modSpool n g).harness = s.harness := rfl
@[simp] theorem State.modSpool_markIn (n : Nat) (g : Spool → Spool) : (s.modSpool n g).markIn = s.markIn := rfl
@[simp] theorem State.modSpool_markOut (n : Nat) (g : Spool → Spool) : (s.modSpool n g).markOut = s.markOut := rfl
@[simp] theorem State.modSpool_ringMem (n : Nat) (g : Spool → Spool) : (s.modSpool n g).ringMem = s.ringMem := rfl
@[simp] theorem State.modSpool_dma (n : Nat) (g : Spool → Spool) : (s.modSpool n g).dma = s.dma := rfl
@[simp] theorem State.modSpool_mem (n : Nat) (g : Spool → Spool) : (s.modSpool n g).mem = s.mem := rfl
@[simp] theorem State.modSpool_wall (n : Nat) (g : Spool → Spool) : (s.modSpool n g).wall = s.wall := rfl
@[simp] theorem State.modSpool_wallTime (n : Nat) (g : Spool → Spool) : (s.modSpool n g).wallTime = s.wallTime := rfl
@[simp] theorem State.modSpool_power (n : Nat) (g : Spool → Spool) : (s.modSpool n g).power = s.power := rfl
@[simp] theorem State.modSpool_lehr (n : Nat) (g : Spool → Spool) : (s.modSpool n g).lehr = s.lehr := rfl
@[simp] theorem State.modSpool_repair (n : Nat) (g : Spool → Spool) : (s.modSpool n g).repair = s.repair := rfl
@[simp] theorem State.modSpool_weave (n : Nat) (g : Spool → Spool) : (s.modSpool n g).weave = s.weave := rfl
@[simp] theorem State.modSpool_links (n : Nat) (g : Spool → Spool) : (s.modSpool n g).links = s.links := rfl
@[simp] theorem State.modSpool_rts (n : Nat) (g : Spool → Spool) : (s.modSpool n g).rts = s.rts := rfl
@[simp] theorem State.modSpool_pairs (n : Nat) (g : Spool → Spool) : (s.modSpool n g).pairs = s.pairs := rfl
@[simp] theorem State.modSpool_caps (n : Nat) (g : Spool → Spool) : (s.modSpool n g).caps = s.caps := rfl
@[simp] theorem State.modSpool_emits (n : Nat) (g : Spool → Spool) : (s.modSpool n g).emits = s.emits := rfl
@[simp] theorem State.modSpool_looms (n : Nat) (g : Spool → Spool) : (s.modSpool n g).looms = s.looms := rfl
@[simp] theorem State.modSpool_warp (n : Nat) (g : Spool → Spool) : (s.modSpool n g).warp = s.warp := rfl
@[simp] theorem State.modSpool_cores (n : Nat) (g : Spool → Spool) : (s.modSpool n g).cores = s.cores := rfl
@[simp] theorem State.modSpool_bias (n : Nat) (g : Spool → Spool) : (s.modSpool n g).bias = s.bias := rfl
@[simp] theorem State.modSpool_biasN (n : Nat) (g : Spool → Spool) : (s.modSpool n g).biasN = s.biasN := rfl
@[simp] theorem State.modSpool_hk (n : Nat) (g : Spool → Spool) : (s.modSpool n g).hk = s.hk := rfl
@[simp] theorem State.modSpool_sent (n : Nat) (g : Spool → Spool) : (s.modSpool n g).sent = s.sent := rfl
@[simp] theorem State.modSpool_freeCtr (n : Nat) (g : Spool → Spool) : (s.modSpool n g).freeCtr = s.freeCtr := rfl
@[simp] theorem State.modSpool_phase (n : Nat) (g : Spool → Spool) : (s.modSpool n g).phase = s.phase := rfl
@[simp] theorem State.modSpool_pending (n : Nat) (g : Spool → Spool) : (s.modSpool n g).pending = s.pending := rfl

/-! ### modChan -/

@[simp] theorem State.modChan_time (c : Nat) (g : Channel → Channel) : (s.modChan c g).time = s.time := rfl
@[simp] theorem State.modChan_fns (c : Nat) (g : Channel → Channel) : (s.modChan c g).fns = s.fns := rfl
@[simp] theorem State.modChan_ics (c : Nat) (g : Channel → Channel) : (s.modChan c g).ics = s.ics := rfl
@[simp] theorem State.modChan_bar2 (c : Nat) (g : Channel → Channel) : (s.modChan c g).bar2 = s.bar2 := rfl
@[simp] theorem State.modChan_gaf (c : Nat) (g : Channel → Channel) : (s.modChan c g).gaf = s.gaf := rfl
@[simp] theorem State.modChan_ledger (c : Nat) (g : Channel → Channel) : (s.modChan c g).ledger = s.ledger := rfl
@[simp] theorem State.modChan_owners (c : Nat) (g : Channel → Channel) : (s.modChan c g).owners = s.owners := rfl
@[simp] theorem State.modChan_parts (c : Nat) (g : Channel → Channel) : (s.modChan c g).parts = s.parts := rfl
@[simp] theorem State.modChan_keys (c : Nat) (g : Channel → Channel) : (s.modChan c g).keys = s.keys := rfl
@[simp] theorem State.modChan_images (c : Nat) (g : Channel → Channel) : (s.modChan c g).images = s.images := rfl
@[simp] theorem State.modChan_staged (c : Nat) (g : Channel → Channel) : (s.modChan c g).staged = s.staged := rfl
@[simp] theorem State.modChan_ports (c : Nat) (g : Channel → Channel) : (s.modChan c g).ports = s.ports := rfl
@[simp] theorem State.modChan_threads (c : Nat) (g : Channel → Channel) : (s.modChan c g).threads = s.threads := rfl
@[simp] theorem State.modChan_bobbins (c : Nat) (g : Channel → Channel) : (s.modChan c g).bobbins = s.bobbins := rfl
@[simp] theorem State.modChan_markIn (c : Nat) (g : Channel → Channel) : (s.modChan c g).markIn = s.markIn := rfl
@[simp] theorem State.modChan_markOut (c : Nat) (g : Channel → Channel) : (s.modChan c g).markOut = s.markOut := rfl
@[simp] theorem State.modChan_spools (c : Nat) (g : Channel → Channel) : (s.modChan c g).spools = s.spools := rfl
@[simp] theorem State.modChan_ringMem (c : Nat) (g : Channel → Channel) : (s.modChan c g).ringMem = s.ringMem := rfl
@[simp] theorem State.modChan_dma (c : Nat) (g : Channel → Channel) : (s.modChan c g).dma = s.dma := rfl
@[simp] theorem State.modChan_mem (c : Nat) (g : Channel → Channel) : (s.modChan c g).mem = s.mem := rfl
@[simp] theorem State.modChan_wall (c : Nat) (g : Channel → Channel) : (s.modChan c g).wall = s.wall := rfl
@[simp] theorem State.modChan_wallTime (c : Nat) (g : Channel → Channel) : (s.modChan c g).wallTime = s.wallTime := rfl
@[simp] theorem State.modChan_power (c : Nat) (g : Channel → Channel) : (s.modChan c g).power = s.power := rfl
@[simp] theorem State.modChan_lehr (c : Nat) (g : Channel → Channel) : (s.modChan c g).lehr = s.lehr := rfl
@[simp] theorem State.modChan_repair (c : Nat) (g : Channel → Channel) : (s.modChan c g).repair = s.repair := rfl
@[simp] theorem State.modChan_weave (c : Nat) (g : Channel → Channel) : (s.modChan c g).weave = s.weave := rfl
@[simp] theorem State.modChan_links (c : Nat) (g : Channel → Channel) : (s.modChan c g).links = s.links := rfl
@[simp] theorem State.modChan_rts (c : Nat) (g : Channel → Channel) : (s.modChan c g).rts = s.rts := rfl
@[simp] theorem State.modChan_pairs (c : Nat) (g : Channel → Channel) : (s.modChan c g).pairs = s.pairs := rfl
@[simp] theorem State.modChan_caps (c : Nat) (g : Channel → Channel) : (s.modChan c g).caps = s.caps := rfl
@[simp] theorem State.modChan_emits (c : Nat) (g : Channel → Channel) : (s.modChan c g).emits = s.emits := rfl
@[simp] theorem State.modChan_looms (c : Nat) (g : Channel → Channel) : (s.modChan c g).looms = s.looms := rfl
@[simp] theorem State.modChan_warp (c : Nat) (g : Channel → Channel) : (s.modChan c g).warp = s.warp := rfl
@[simp] theorem State.modChan_cores (c : Nat) (g : Channel → Channel) : (s.modChan c g).cores = s.cores := rfl
@[simp] theorem State.modChan_bias (c : Nat) (g : Channel → Channel) : (s.modChan c g).bias = s.bias := rfl
@[simp] theorem State.modChan_biasN (c : Nat) (g : Channel → Channel) : (s.modChan c g).biasN = s.biasN := rfl
@[simp] theorem State.modChan_hk (c : Nat) (g : Channel → Channel) : (s.modChan c g).hk = s.hk := rfl
@[simp] theorem State.modChan_sent (c : Nat) (g : Channel → Channel) : (s.modChan c g).sent = s.sent := rfl
@[simp] theorem State.modChan_freeCtr (c : Nat) (g : Channel → Channel) : (s.modChan c g).freeCtr = s.freeCtr := rfl
@[simp] theorem State.modChan_phase (c : Nat) (g : Channel → Channel) : (s.modChan c g).phase = s.phase := rfl
@[simp] theorem State.modChan_pending (c : Nat) (g : Channel → Channel) : (s.modChan c g).pending = s.pending := rfl

/-! ### modQuad -/

@[simp] theorem State.modQuad_time (q : Nat) (g : Quad → Quad) : (s.modQuad q g).time = s.time := rfl
@[simp] theorem State.modQuad_fns (q : Nat) (g : Quad → Quad) : (s.modQuad q g).fns = s.fns := rfl
@[simp] theorem State.modQuad_ics (q : Nat) (g : Quad → Quad) : (s.modQuad q g).ics = s.ics := rfl
@[simp] theorem State.modQuad_bar2 (q : Nat) (g : Quad → Quad) : (s.modQuad q g).bar2 = s.bar2 := rfl
@[simp] theorem State.modQuad_gaf (q : Nat) (g : Quad → Quad) : (s.modQuad q g).gaf = s.gaf := rfl
@[simp] theorem State.modQuad_ledger (q : Nat) (g : Quad → Quad) : (s.modQuad q g).ledger = s.ledger := rfl
@[simp] theorem State.modQuad_owners (q : Nat) (g : Quad → Quad) : (s.modQuad q g).owners = s.owners := rfl
@[simp] theorem State.modQuad_parts (q : Nat) (g : Quad → Quad) : (s.modQuad q g).parts = s.parts := rfl
@[simp] theorem State.modQuad_keys (q : Nat) (g : Quad → Quad) : (s.modQuad q g).keys = s.keys := rfl
@[simp] theorem State.modQuad_images (q : Nat) (g : Quad → Quad) : (s.modQuad q g).images = s.images := rfl
@[simp] theorem State.modQuad_staged (q : Nat) (g : Quad → Quad) : (s.modQuad q g).staged = s.staged := rfl
@[simp] theorem State.modQuad_ports (q : Nat) (g : Quad → Quad) : (s.modQuad q g).ports = s.ports := rfl
@[simp] theorem State.modQuad_threads (q : Nat) (g : Quad → Quad) : (s.modQuad q g).threads = s.threads := rfl
@[simp] theorem State.modQuad_bobbins (q : Nat) (g : Quad → Quad) : (s.modQuad q g).bobbins = s.bobbins := rfl
@[simp] theorem State.modQuad_harness (q : Nat) (g : Quad → Quad) : (s.modQuad q g).harness = s.harness := rfl
@[simp] theorem State.modQuad_markIn (q : Nat) (g : Quad → Quad) : (s.modQuad q g).markIn = s.markIn := rfl
@[simp] theorem State.modQuad_markOut (q : Nat) (g : Quad → Quad) : (s.modQuad q g).markOut = s.markOut := rfl
@[simp] theorem State.modQuad_spools (q : Nat) (g : Quad → Quad) : (s.modQuad q g).spools = s.spools := rfl
@[simp] theorem State.modQuad_ringMem (q : Nat) (g : Quad → Quad) : (s.modQuad q g).ringMem = s.ringMem := rfl
@[simp] theorem State.modQuad_dma (q : Nat) (g : Quad → Quad) : (s.modQuad q g).dma = s.dma := rfl
@[simp] theorem State.modQuad_mem (q : Nat) (g : Quad → Quad) : (s.modQuad q g).mem = s.mem := rfl
@[simp] theorem State.modQuad_wall (q : Nat) (g : Quad → Quad) : (s.modQuad q g).wall = s.wall := rfl
@[simp] theorem State.modQuad_wallTime (q : Nat) (g : Quad → Quad) : (s.modQuad q g).wallTime = s.wallTime := rfl
@[simp] theorem State.modQuad_lehr (q : Nat) (g : Quad → Quad) : (s.modQuad q g).lehr = s.lehr := rfl
@[simp] theorem State.modQuad_repair (q : Nat) (g : Quad → Quad) : (s.modQuad q g).repair = s.repair := rfl
@[simp] theorem State.modQuad_weave (q : Nat) (g : Quad → Quad) : (s.modQuad q g).weave = s.weave := rfl
@[simp] theorem State.modQuad_links (q : Nat) (g : Quad → Quad) : (s.modQuad q g).links = s.links := rfl
@[simp] theorem State.modQuad_rts (q : Nat) (g : Quad → Quad) : (s.modQuad q g).rts = s.rts := rfl
@[simp] theorem State.modQuad_pairs (q : Nat) (g : Quad → Quad) : (s.modQuad q g).pairs = s.pairs := rfl
@[simp] theorem State.modQuad_caps (q : Nat) (g : Quad → Quad) : (s.modQuad q g).caps = s.caps := rfl
@[simp] theorem State.modQuad_emits (q : Nat) (g : Quad → Quad) : (s.modQuad q g).emits = s.emits := rfl
@[simp] theorem State.modQuad_looms (q : Nat) (g : Quad → Quad) : (s.modQuad q g).looms = s.looms := rfl
@[simp] theorem State.modQuad_warp (q : Nat) (g : Quad → Quad) : (s.modQuad q g).warp = s.warp := rfl
@[simp] theorem State.modQuad_cores (q : Nat) (g : Quad → Quad) : (s.modQuad q g).cores = s.cores := rfl
@[simp] theorem State.modQuad_bias (q : Nat) (g : Quad → Quad) : (s.modQuad q g).bias = s.bias := rfl
@[simp] theorem State.modQuad_biasN (q : Nat) (g : Quad → Quad) : (s.modQuad q g).biasN = s.biasN := rfl
@[simp] theorem State.modQuad_hk (q : Nat) (g : Quad → Quad) : (s.modQuad q g).hk = s.hk := rfl
@[simp] theorem State.modQuad_sent (q : Nat) (g : Quad → Quad) : (s.modQuad q g).sent = s.sent := rfl
@[simp] theorem State.modQuad_freeCtr (q : Nat) (g : Quad → Quad) : (s.modQuad q g).freeCtr = s.freeCtr := rfl
@[simp] theorem State.modQuad_phase (q : Nat) (g : Quad → Quad) : (s.modQuad q g).phase = s.phase := rfl
@[simp] theorem State.modQuad_pending (q : Nat) (g : Quad → Quad) : (s.modQuad q g).pending = s.pending := rfl

/-! ### modTile -/

@[simp] theorem State.modTile_time (t : Nat) (g : Tile → Tile) : (s.modTile t g).time = s.time := rfl
@[simp] theorem State.modTile_fns (t : Nat) (g : Tile → Tile) : (s.modTile t g).fns = s.fns := rfl
@[simp] theorem State.modTile_ics (t : Nat) (g : Tile → Tile) : (s.modTile t g).ics = s.ics := rfl
@[simp] theorem State.modTile_bar2 (t : Nat) (g : Tile → Tile) : (s.modTile t g).bar2 = s.bar2 := rfl
@[simp] theorem State.modTile_gaf (t : Nat) (g : Tile → Tile) : (s.modTile t g).gaf = s.gaf := rfl
@[simp] theorem State.modTile_ledger (t : Nat) (g : Tile → Tile) : (s.modTile t g).ledger = s.ledger := rfl
@[simp] theorem State.modTile_owners (t : Nat) (g : Tile → Tile) : (s.modTile t g).owners = s.owners := rfl
@[simp] theorem State.modTile_parts (t : Nat) (g : Tile → Tile) : (s.modTile t g).parts = s.parts := rfl
@[simp] theorem State.modTile_keys (t : Nat) (g : Tile → Tile) : (s.modTile t g).keys = s.keys := rfl
@[simp] theorem State.modTile_images (t : Nat) (g : Tile → Tile) : (s.modTile t g).images = s.images := rfl
@[simp] theorem State.modTile_staged (t : Nat) (g : Tile → Tile) : (s.modTile t g).staged = s.staged := rfl
@[simp] theorem State.modTile_ports (t : Nat) (g : Tile → Tile) : (s.modTile t g).ports = s.ports := rfl
@[simp] theorem State.modTile_threads (t : Nat) (g : Tile → Tile) : (s.modTile t g).threads = s.threads := rfl
@[simp] theorem State.modTile_bobbins (t : Nat) (g : Tile → Tile) : (s.modTile t g).bobbins = s.bobbins := rfl
@[simp] theorem State.modTile_harness (t : Nat) (g : Tile → Tile) : (s.modTile t g).harness = s.harness := rfl
@[simp] theorem State.modTile_markIn (t : Nat) (g : Tile → Tile) : (s.modTile t g).markIn = s.markIn := rfl
@[simp] theorem State.modTile_markOut (t : Nat) (g : Tile → Tile) : (s.modTile t g).markOut = s.markOut := rfl
@[simp] theorem State.modTile_spools (t : Nat) (g : Tile → Tile) : (s.modTile t g).spools = s.spools := rfl
@[simp] theorem State.modTile_ringMem (t : Nat) (g : Tile → Tile) : (s.modTile t g).ringMem = s.ringMem := rfl
@[simp] theorem State.modTile_dma (t : Nat) (g : Tile → Tile) : (s.modTile t g).dma = s.dma := rfl
@[simp] theorem State.modTile_mem (t : Nat) (g : Tile → Tile) : (s.modTile t g).mem = s.mem := rfl
@[simp] theorem State.modTile_wall (t : Nat) (g : Tile → Tile) : (s.modTile t g).wall = s.wall := rfl
@[simp] theorem State.modTile_wallTime (t : Nat) (g : Tile → Tile) : (s.modTile t g).wallTime = s.wallTime := rfl
@[simp] theorem State.modTile_lehr (t : Nat) (g : Tile → Tile) : (s.modTile t g).lehr = s.lehr := rfl
@[simp] theorem State.modTile_repair (t : Nat) (g : Tile → Tile) : (s.modTile t g).repair = s.repair := rfl
@[simp] theorem State.modTile_weave (t : Nat) (g : Tile → Tile) : (s.modTile t g).weave = s.weave := rfl
@[simp] theorem State.modTile_links (t : Nat) (g : Tile → Tile) : (s.modTile t g).links = s.links := rfl
@[simp] theorem State.modTile_rts (t : Nat) (g : Tile → Tile) : (s.modTile t g).rts = s.rts := rfl
@[simp] theorem State.modTile_pairs (t : Nat) (g : Tile → Tile) : (s.modTile t g).pairs = s.pairs := rfl
@[simp] theorem State.modTile_caps (t : Nat) (g : Tile → Tile) : (s.modTile t g).caps = s.caps := rfl
@[simp] theorem State.modTile_emits (t : Nat) (g : Tile → Tile) : (s.modTile t g).emits = s.emits := rfl
@[simp] theorem State.modTile_looms (t : Nat) (g : Tile → Tile) : (s.modTile t g).looms = s.looms := rfl
@[simp] theorem State.modTile_warp (t : Nat) (g : Tile → Tile) : (s.modTile t g).warp = s.warp := rfl
@[simp] theorem State.modTile_cores (t : Nat) (g : Tile → Tile) : (s.modTile t g).cores = s.cores := rfl
@[simp] theorem State.modTile_bias (t : Nat) (g : Tile → Tile) : (s.modTile t g).bias = s.bias := rfl
@[simp] theorem State.modTile_biasN (t : Nat) (g : Tile → Tile) : (s.modTile t g).biasN = s.biasN := rfl
@[simp] theorem State.modTile_hk (t : Nat) (g : Tile → Tile) : (s.modTile t g).hk = s.hk := rfl
@[simp] theorem State.modTile_sent (t : Nat) (g : Tile → Tile) : (s.modTile t g).sent = s.sent := rfl
@[simp] theorem State.modTile_freeCtr (t : Nat) (g : Tile → Tile) : (s.modTile t g).freeCtr = s.freeCtr := rfl
@[simp] theorem State.modTile_phase (t : Nat) (g : Tile → Tile) : (s.modTile t g).phase = s.phase := rfl
@[simp] theorem State.modTile_pending (t : Nat) (g : Tile → Tile) : (s.modTile t g).pending = s.pending := rfl

/-! ### send -/

@[simp] theorem State.send_time (x : Sent) : (s.send x).time = s.time := rfl
@[simp] theorem State.send_fns (x : Sent) : (s.send x).fns = s.fns := rfl
@[simp] theorem State.send_ics (x : Sent) : (s.send x).ics = s.ics := rfl
@[simp] theorem State.send_bar2 (x : Sent) : (s.send x).bar2 = s.bar2 := rfl
@[simp] theorem State.send_gaf (x : Sent) : (s.send x).gaf = s.gaf := rfl
@[simp] theorem State.send_ledger (x : Sent) : (s.send x).ledger = s.ledger := rfl
@[simp] theorem State.send_owners (x : Sent) : (s.send x).owners = s.owners := rfl
@[simp] theorem State.send_parts (x : Sent) : (s.send x).parts = s.parts := rfl
@[simp] theorem State.send_keys (x : Sent) : (s.send x).keys = s.keys := rfl
@[simp] theorem State.send_images (x : Sent) : (s.send x).images = s.images := rfl
@[simp] theorem State.send_staged (x : Sent) : (s.send x).staged = s.staged := rfl
@[simp] theorem State.send_ports (x : Sent) : (s.send x).ports = s.ports := rfl
@[simp] theorem State.send_threads (x : Sent) : (s.send x).threads = s.threads := rfl
@[simp] theorem State.send_bobbins (x : Sent) : (s.send x).bobbins = s.bobbins := rfl
@[simp] theorem State.send_harness (x : Sent) : (s.send x).harness = s.harness := rfl
@[simp] theorem State.send_markIn (x : Sent) : (s.send x).markIn = s.markIn := rfl
@[simp] theorem State.send_markOut (x : Sent) : (s.send x).markOut = s.markOut := rfl
@[simp] theorem State.send_spools (x : Sent) : (s.send x).spools = s.spools := rfl
@[simp] theorem State.send_ringMem (x : Sent) : (s.send x).ringMem = s.ringMem := rfl
@[simp] theorem State.send_dma (x : Sent) : (s.send x).dma = s.dma := rfl
@[simp] theorem State.send_mem (x : Sent) : (s.send x).mem = s.mem := rfl
@[simp] theorem State.send_wall (x : Sent) : (s.send x).wall = s.wall := rfl
@[simp] theorem State.send_wallTime (x : Sent) : (s.send x).wallTime = s.wallTime := rfl
@[simp] theorem State.send_power (x : Sent) : (s.send x).power = s.power := rfl
@[simp] theorem State.send_lehr (x : Sent) : (s.send x).lehr = s.lehr := rfl
@[simp] theorem State.send_repair (x : Sent) : (s.send x).repair = s.repair := rfl
@[simp] theorem State.send_weave (x : Sent) : (s.send x).weave = s.weave := rfl
@[simp] theorem State.send_links (x : Sent) : (s.send x).links = s.links := rfl
@[simp] theorem State.send_rts (x : Sent) : (s.send x).rts = s.rts := rfl
@[simp] theorem State.send_pairs (x : Sent) : (s.send x).pairs = s.pairs := rfl
@[simp] theorem State.send_caps (x : Sent) : (s.send x).caps = s.caps := rfl
@[simp] theorem State.send_emits (x : Sent) : (s.send x).emits = s.emits := rfl
@[simp] theorem State.send_looms (x : Sent) : (s.send x).looms = s.looms := rfl
@[simp] theorem State.send_warp (x : Sent) : (s.send x).warp = s.warp := rfl
@[simp] theorem State.send_cores (x : Sent) : (s.send x).cores = s.cores := rfl
@[simp] theorem State.send_bias (x : Sent) : (s.send x).bias = s.bias := rfl
@[simp] theorem State.send_biasN (x : Sent) : (s.send x).biasN = s.biasN := rfl
@[simp] theorem State.send_hk (x : Sent) : (s.send x).hk = s.hk := rfl
@[simp] theorem State.send_freeCtr (x : Sent) : (s.send x).freeCtr = s.freeCtr := rfl
@[simp] theorem State.send_phase (x : Sent) : (s.send x).phase = s.phase := rfl
@[simp] theorem State.send_pending (x : Sent) : (s.send x).pending = s.pending := rfl

/-! ### What an update of a numbered object answers -/

@[simp] theorem State.fn_modFn (f i : Nat) (g : Fn → Fn) :
    (s.modFn f g).fn i = if f = i then g (s.fn f) else s.fn i := by
  simp [State.modFn, State.setFn, State.fn, tget_tset]
@[simp] theorem State.fn_setFn (f i : Nat) (x : Fn) : (s.setFn f x).fn i = if f = i then x else s.fn i := by
  simp [State.setFn, State.fn, tget_tset]
@[simp] theorem State.port_modPort (f i : Nat) (g : Port → Port) :
    (s.modPort f g).port i = if f = i then g (s.port f) else s.port i := by
  simp [State.modPort, State.port, tmod, tget_tset]
@[simp] theorem State.thread_modThread (f i : Nat) (g : Thread → Thread) :
    (s.modThread f g).thread i = if f = i then g (s.thread f) else s.thread i := by
  simp [State.modThread, State.thread, tmod, tget_tset]
@[simp] theorem State.bobbin_modBobbin (f i : Nat) (g : Bobbin → Bobbin) :
    (s.modBobbin f g).bobbin i = if f = i then g (s.bobbin f) else s.bobbin i := by
  simp [State.modBobbin, State.bobbin, tmod, tget_tset]
@[simp] theorem State.spool_modSpool (f i : Nat) (g : Spool → Spool) :
    (s.modSpool f g).spool i = if f = i then g (s.spool f) else s.spool i := by
  simp [State.modSpool, State.spool, tmod, tget_tset]
@[simp] theorem State.chan_modChan (f i : Nat) (g : Channel → Channel) :
    (s.modChan f g).chan i = if f = i then g (s.chan f) else s.chan i := by
  simp [State.modChan, State.chan, tmod, tget_tset]
@[simp] theorem State.quad_modQuad (f i : Nat) (g : Quad → Quad) :
    (s.modQuad f g).quad i = if f = i then g (s.quad f) else s.quad i := by
  simp [State.modQuad, State.quad, tmod, tget_tset]
@[simp] theorem State.tile_modTile (f i : Nat) (g : Tile → Tile) :
    (s.modTile f g).tile i = if f = i then g (s.tile f) else s.tile i := by
  simp [State.modTile, State.tile, tmod, tget_tset]
@[simp] theorem State.send_sent (x : Sent) : (s.send x).sent = x :: s.sent := rfl
@[simp] theorem State.send_fn (x : Sent) (f : Nat) : (s.send x).fn f = s.fn f := rfl

end Sys2Proof.Machine
end

