-- ==== Sys2Proof/Laws/Mailbox.lean ====
section
/-! SUPPORT. What serving a frame can do: one lemma for an accepted command that completes, one for one
that is refused, one for a frame that another command takes. -/

namespace Sys2Proof.Machine

/-- An accepted frame reaches its body, on the state of its acceptance. -/
theorem admit_of_admits {i : CmdInfo} {c : Frame} {s : State} {rb : List Byte} (h : admits i c s rb = true) :
    acceptFrame i c s = (acceptState c s, some (callOf i c (acceptState c s) rb)) := by
  simp only [admits, Bool.and_eq_true, Bool.or_eq_true, beq_iff_eq, bne_iff_ne, Bool.not_eq_true'] at h
  obtain ⟨⟨⟨⟨⟨⟨h1, h2⟩, h3⟩, h4⟩, h5⟩, h6⟩, h7⟩ := h
  have hp : (i.pf0 && c.func.val != 0) = false := by
    rcases h5 with h5 | h5
    · simp [h5]
    · simp [h5]
  have hb : (!barOpen s c.func && ringOcc (s.fn c.func).cmdPi (s.fn c.func).cmdCi == 0) = false := by
    rcases h2 with h2 | h2
    · simp [h2]
    · simp [h2]
  unfold acceptFrame
  simp only [h1, ne_eq, not_true_eq_false, hb, Bool.false_eq_true, or_self, if_false, h3, h4, hp, h6, Bool.not_true]
  rcases hf : fetchRef c (offer s c).1 with ⟨t, o⟩
  rw [hf] at h7
  simp only at h7
  subst h7
  simp [acceptState, hf]

/-- An accepted command whose body completes with OK. -/
theorem serve_ok {i : CmdInfo} {c : Frame} {s : State} {rb : List Byte} {body : Call → State → Result} {r : Result}
    (h : admits i c s rb = true) (hb : body (callOf i c (acceptState c s) rb) (acceptState c s) = r)
    (hr : r.status = .ok) (hs : sendable c (acceptState c s) r = true) :
    serve i c s body = completed c (acceptState c s) r := by
  simp only [sendable, Bool.and_eq_true, Bool.or_eq_true, Bool.not_eq_true', List.isEmpty_iff] at hs
  obtain ⟨⟨hs1, hs2⟩, hl⟩ := hs
  have hf : finalStatus (acceptState c s) (outRefOf c) r = .ok := by
    rcases hs2 with h2 | h2 <;> simp [finalStatus, hr, hs1, h2, refusalLogged]
  simp only [serve, admit_of_admits h, hb, finish, hf, if_true]
  rw [if_neg]
  · rfl
  · exact ne_true_of_eq_false hl

/-- An accepted command whose body refuses. -/
theorem serve_refused {i : CmdInfo} {c : Frame} {s : State} {rb : List Byte} {body : Call → State → Result} {st : Status}
    {obj : Nat × Nat} (h : admits i c s rb = true)
    (hb : body (callOf i c (acceptState c s) rb) (acceptState c s) = deny (acceptState c s) st obj)
    (hr : st ≠ .ok) (hl : ledgerBlocked (acceptState c s) = false) :
    serve i c s body = refuse (acceptState c s) c.func ((fnPart (acceptState c s) c.func).getD {})
      (outstOf c (acceptState c s)) st obj := by
  have hf : finalStatus (acceptState c s) (outRefOf c) (deny (acceptState c s) st obj) = st := by
    simp [finalStatus, deny, hr, hl]
  simp only [serve, admit_of_admits h, hb, finish, hf, if_neg hr,
    if_neg (show ¬ (deny (acceptState c s) st obj).status = .ok from hr)]
  rfl

/-- A command completes as its body's OK result says; the object that a refusal would name plays no part. -/
theorem Completes.of_body {cmd : Frame → Instr} {i : CmdInfo} {pre : Call → State → Bool} {eff : Call → State → Result}
    {body : Call → State → Result} (he : ∀ c s, exec (cmd c) s = .next (serve i c s body))
    (hb : ∀ k t, pre k t = true → ∃ obj, body k t = { eff k t with obj := obj })
    (hr : ∀ k t, pre k t = true → (eff k t).status = .ok) : Completes cmd i pre eff := by
  intro c s rb h hp hs
  obtain ⟨obj, ho⟩ := hb _ _ hp
  rw [he, serve_ok h ho (hr _ _ hp) hs]
  rfl

@[simp] theorem firstFail_nil : firstFail [] = none := rfl

@[simp] theorem firstFail_cons_none (b : Bool) (st : Status) (r : List (Bool × Status)) :
    firstFail ((b, st) :: r) = none ↔ b = false ∧ firstFail r = none := by
  cases b <;> simp [firstFail]

@[simp] theorem firstFail_append_none (l r : List (Bool × Status)) :
    firstFail (l ++ r) = none ↔ firstFail l = none ∧ firstFail r = none := by
  induction l with
  | nil => simp
  | cons x l ih => obtain ⟨b, st⟩ := x; simp [ih, and_assoc]

@[simp] theorem firstFail_timeFail (a acc : Nat) : firstFail (timeFail a acc) = none ↔ badTime a acc = none := by
  unfold timeFail
  cases badTime a acc <;> simp

theorem checked_ok {s : State} {obj : Nat × Nat} {cs : List (Bool × Status)} {r : Result} (h : firstFail cs = none) :
    checked s obj cs r = { r with obj := obj } := by
  simp only [checked, h]

/-- A command whose body is a list of checks and an effect. -/
theorem Completes.of_checks {cmd : Frame → Instr} {i : CmdInfo} {pre : Call → State → Bool} {eff r : Call → State → Result}
    {body : Call → State → Result} {obj : Call → State → Nat × Nat} {cs : Call → State → List (Bool × Status)}
    (he : ∀ c s, exec (cmd c) s = .next (serve i c s body))
    (hb : ∀ k t, body k t = checked t (obj k t) (cs k t) (r k t))
    (hc : ∀ k t, pre k t = true → firstFail (cs k t) = none)
    (hr : ∀ k t, pre k t = true → r k t = eff k t)
    (hs : ∀ k t, pre k t = true → (eff k t).status = .ok) : Completes cmd i pre eff :=
  Completes.of_body he (fun k t h => ⟨obj k t, by rw [hb, checked_ok (hc k t h), hr k t h]⟩) hs

@[simp] theorem firstFail_cons_some (b : Bool) (st st' : Status) (r : List (Bool × Status)) :
    firstFail ((b, st) :: r) = some st' ↔ (b = true ∧ st = st') ∨ (b = false ∧ firstFail r = some st') := by
  cases b <;> simp [firstFail]

theorem firstFail_append {l r : List (Bool × Status)} (h : firstFail l = none) : firstFail (l ++ r) = firstFail r := by
  induction l with
  | nil => rfl
  | cons x l ih =>
    obtain ⟨b, st⟩ := x
    simp only [firstFail_cons_none] at h
    simp [firstFail, h.1, ih h.2]

/-- A command whose body is its checks and its effect. -/
theorem Serves.of_body {cmd : Frame → Instr} {i : CmdInfo} {checks : Call → State → List (Bool × Status)}
    {eff : Call → State → Result} {body : Call → State → Result} {obj : Call → State → Nat × Nat}
    (he : ∀ c s, exec (cmd c) s = .next (serve i c s body))
    (hb : ∀ k t, body k t = checked t (obj k t) (checks k t) (eff k t))
    (hs : ∀ k t, firstFail (checks k t) = none → (eff k t).status = .ok) : Serves cmd i checks eff := by
  intro c s rb h t k
  refine ⟨fun h1 h2 => ?_, fun st h1 h2 h3 => ⟨obj k t, ?_⟩⟩
  · rw [he, serve_ok h ((hb k t).trans (checked_ok h1)) (hs k t h1) h2]
    rfl
  · have ho : body k t = deny t st (obj k t) := by rw [hb]; simp only [checked, h1]
    rw [he, serve_refused h ho h2 h3]

/-- A command whose checks end with those of an MRAM write. -/
theorem CompletesNv.of_checks {cmd : Frame → Instr} {i : CmdInfo} {pre : Call → State → Bool} {eff r : Call → State → Result}
    {body : Call → State → Result} {obj : Call → State → Nat × Nat} {cs : Call → State → List (Bool × Status)}
    (he : ∀ c s, exec (cmd c) s = .next (serve i c s body))
    (hb : ∀ k t, body k t = checked t (obj k t) (cs k t) (r k t))
    (hc : ∀ k t, pre k t = true → firstFail (cs k t) = if Config.nvVerifies t.now then none else some .nvFail)
    (hr : ∀ k t, pre k t = true → r k t = eff k t)
    (hs : ∀ k t, pre k t = true → (eff k t).status = .ok) : CompletesNv cmd i pre eff := by
  intro c s rb h hp hq
  have h1 := hc _ _ hp
  by_cases hv : Config.nvVerifies (acceptState c s).now = true
  · rw [if_pos hv] at h1 ⊢
    have ho := hb (callOf i c (acceptState c s) rb) (acceptState c s)
    rw [checked_ok h1, hr _ _ hp] at ho
    rw [he, serve_ok h ho (hs _ _ hp) hq]
    rfl
  · rw [if_neg hv] at h1 ⊢
    rw [he, serve, admit_of_admits h]
    simp only [hb, checked, h1, finish, finalStatus, deny]
    simp [refusalLogged]
    rfl

/-- A frame of another opcode changes nothing. -/
theorem serve_other {i : CmdInfo} {c : Frame} {s : State} {body : Call → State → Result}
    (h : fld c.header.toNat 0 16 ≠ i.op) : serve i c s body = s := by
  simp [serve, acceptFrame, h]

end Sys2Proof.Machine
end

