-- ==== Sys2Proof/Tests/Slice0.lean ====
section
/-! SUPPORT. Tests: operands that WellFormed refuses, and for every obligation with hypotheses a witness
(`met_<obligation>`): concrete states and operands that meet the hypotheses of each of its clauses together. -/

open Sys2Proof.Machine

namespace Sys2Proof.Tests

set_option Elab.async false

/-! ### Operands that no sender can give -/

theorem test_wf_refuses : [
   Instr.mbFrameWrite 0 .cmd 0xFFC (List.replicate 8 0), .mbFrameWrite 0 .cmd 0 [], .registerWrite 0 0 3 0 .sound,
   .registerWrite 1 0x100000 4 0 .poisoned, .registerWrite 0 0x3FFFFFE 4 0 .ecrc,
   .stNowLoRead ⟨0, 0x4000000, 4⟩, .stNowLoRead ⟨1, 0x100000, 4⟩, .stNowLoRead ⟨0, 0x300, 3⟩, .bar2Read 0 0, .bar2Write 0 [] .sound,
   .msixUnmask 1 ⟨64, 0, 0, false⟩,
   .spoolAppend 256 0 false [], .spoolAppend 256 0 false (List.replicate 257 0), .droop 1, .droop 15,
   .emitTset { tile := 0, kind := .bias, index := 0 }, .emitPlay { tile := 0, kind := .flux, index := 16 },
   .emitFreq { tile := 0, kind := .bias, index := 31 }, .emitPhase { tile := 0, kind := .bias, index := 0 },
   .emitAmp { tile := 0, kind := .flux, index := 31 }, .segmentEnd { tile := 0, kind := .bias, index := 0 },
   .underrunFill { tile := 0, kind := .flux, index := 16 }].all (fun i => !i.wf) = true := by decide +kernel

theorem test_wf_takes : [
   Instr.mbFrameWrite 0 .cmd 0xFF8 (List.replicate 8 0), .registerWrite 0 0x3FFFFFC 4 0 .sound, .registerWrite 1 0xFFFFC 4 0 .sound,
   .stNowLoRead ⟨0, 0x3FFFFFC, 4⟩, .stNowLoRead ⟨1, 0xFFFF8, 8⟩, .bar2Read 0 1, .bar2Write 0 [0] .sound,
   .msixUnmask 1 ⟨63, 0, 0, false⟩, .msixUnmask 0 ⟨2047, 0, 0, true⟩, .spoolAppend 256 0 false (List.replicate 256 0),
   .droop 0, .droop 7, .droop 14, .emitFreq { tile := 11, kind := .readout, index := 31 },
   .segmentEnd { tile := 0, kind := .flux, index := 15 }].all (fun i => i.wf) = true := by decide +kernel

theorem test_frame_wf : ({ func := 0, header := 0, payload := List.replicate 241 0, refBytes := none } : Frame).wf = false
    ∧ ({ func := 0, header := 0, payload := List.replicate 240 0, refBytes := none } : Frame).wf = true := by decide +kernel

/-! ### States and frames -/

/-- A firmware image whose manifest lists its own versions (13 R356). -/
def image : Image where
  major := 3
  minor := 2
  patch := 0
  ucode := 5
  svn := 3
  build := 77
  manHash := 0
  manifest := [0xB0 + 3 * 2 ^ 8 + 2 * 2 ^ 16 + 5 * 2 ^ 24 + 0x20 * 2 ^ 40 + 4 * 2 ^ 56 + 8 * 2 ^ 72]

/-- The point that the scalar 7 gives on P-384: the key of every signature below. -/
def keyX : Nat := 0x283c1d7365ce4788f29f8ebf234edffead6fe997fbea5ffa2d58cc9dfa7b1c508b05526f55b9ebb2040f05b48fb6d0e1
def keyY : Nat := 0x9475c99061e41b88ba52efdb8c1690471a61d867ed799729d9c92cd01dbd225630d84ede32a78f9e64664cdac512ef8c

/-- The Gaffer READY, every quadrant and tile ACTIVE, no supply of the bias channels lost. -/
def ready : State := { State.reset with
  gaf := { state := .ready, running := some image, imageKey := (keyX, keyY) }
  power := { State.reset.power with
    biasBad := false
    quads := (List.range 4).map (fun k => (k, { state := .active, pll := true, conv := true }))
    tiles := (List.range 12).map (fun k => (k, { state := .active, everActive := true, wasOff := false })) } }

/-- PF0 may read host memory, and key slot 0 is INSTALLED. -/
def hosted : State := { ready with fns := [(0, { busMaster := true })], keys := [(0, keyX + 2 ^ 384 * keyY)] }

/-- `k` ticks after time 0. -/
def later (k : Nat) (s : State) : State := { s with time := { s.time with tick := k, st := 32 * k } }

/-- A valid record ring of 16 entries in ring memory. -/
def onChip : Spool := { valid := true, base := 0x800041000000, target := 2, log2n := 4, cls := 1 }
def withSpool (p : Spool) : State := { ready with spools := [(256, p)] }

/-- DRAM channel 0 of 1 GiB, its line 0 valid. -/
def dram : State := { ready with mem := { chans := [(0, { capacity := 2 ^ 30 })], l1 := [(0, true)], ddr := [(2 ^ 30 - 2 ^ 20, 1)] } }

def emission (op kind index param : Nat) : Emission :=
  { tick := 0, loom := 0, slot := 0, op := op, kind := kind, index := index, param := param, ts := none, start := 0, shot := 0, meas := 0 }
def emitting (l : List Emission) : State := { ready with emits := l }

/-- A readout window of two samples at tick 0 with destination `dest`. -/
def window (dest : Nat) : Window :=
  { k := 0, prof := 2 ^ 20 + dest * 2 ^ 21 + 2 ^ 30 + 2 * 2 ^ 64, num := 0, loom := 0, shot := 0, start := 0, meas := 0, resv := .arrival, latched := some (0, 0, {}, false) }
def windowed (w : Window) : State := later 4096 { ready with rts := [(0, { windows := [w] })] }
def mvWindow : MvWindow := { rt := 0, k := 0, prof := 2 ^ 64, num := 0, loom := 0, shot := 0, start := 0, meas := 0, cfg := 2 ^ 16 }

/-- The armed decisions of decision bit 5. -/
def withDec (l : List Decision) : State := { ready with warp := { bits := [(5, { armed := l })] } }

/-- Core 23 in RUNNING with `w` at its program address. -/
def coreAt (w : Nat) (x : Core) : State := { ready with cores := [(23, { x with state := .running, prog := [(0, w)] })] }

/-- A bias queue of channel 0 with one visible entry, one byte of which is 1. -/
def queued (e : Nat) : State := { ready with bias := [(0, { state := .run, qspool := 256 })], spools := [(256, { onChip with pi := 1, seen := 1, cls := 2 })], ringMem := [(e, 1)] }

/-- A frame of PF0 with `len` bytes of `blk`, tag 0 and no references. -/
def frame (op len blk : Nat) : Frame :=
  { func := 0, header := BitVec.ofNat 128 (op + len * 2 ^ 32), payload := leBytes len blk, refBytes := none }

/-- A frame of PF0 with an input reference to host memory, which holds `data`, and 16 inline bytes of `blk`. -/
def refFrame (op blk : Nat) (data : List Byte) : Frame :=
  { func := 0, header := BitVec.ofNat 128 (op + 32 * 2 ^ 32 + 2 ^ 48)
    payload := leBytes 16 (8 + data.length * 2 ^ 64) ++ leBytes 16 blk, refBytes := some data }

/-- A KEY_INSTALL block with the base point of P-384. -/
def keyPoint : Nat := 0xb70a7672385e543a6c2955bf5df20255382a5482e041f759989ba78b623b1d6e74ad20f31ec7b18e37058bbe22ca87aa * 2 ^ 64 + 0x5f0eea907c1d437a9d817e1dceb1600ac0b8f0b51331dae97c149a28bd1df4f829dc9292bf989e5d6f2c26964ade1736 * 2 ^ 448

/-- Signed images: firmware (13 R354), a draft of one END word (08 R230), a program of one NOP (06 R174). -/
def fw : List Byte := leBytes 242 0x5a65a71a01c1f70c924743660aa595432c3e935134b2afef083e3e10bd26b3750d5a08d76c2c977fd2c132a6884aeeff1b8ba8fd899a173bcb3cb0516904908dc35a2acb1d2e976ccda10088582f68b4cdcdd8d5b7a6952a314d0e355e996be8000000000000080004002000050203b00005000000000000000000000000000000000000000000000000000000000000000000000000000000000000000000000000000000000000000000000000000000000000000000000000000000000000000000000000000000000000000000000000000000000000004d000000000000001000000002000000000003000002030001
def draft : List Byte := leBytes 200 0xf5efcf5949dcc4d7d4d070e0e5a03c39831866b2dc88b91d0a2091f91706c66cafba3c4ea606910ae94c0e14b1254edd1b8ba8fd899a173bcb3cb0516904908dc35a2acb1d2e976ccda10088582f68b4cdcdd8d5b7a6952a314d0e355e996be80000000000000000000000000000000000000000000000000100000000000000000000000000000000000000000000000000000000000000000000000000000000000000000000000000000000000000000000000000000000000000000000000000000100000005
def program : List Byte := leBytes 168 0x7263de2035df460c1235f41b96cd95ed00a9b6d85b69c181e4510ca400fa628f78e72379c0968c5bf0cb44a20bc2525d1b8ba8fd899a173bcb3cb0516904908dc35a2acb1d2e976ccda10088582f68b4cdcdd8d5b7a6952a314d0e355e996be8000000000000000000000000000000000000000000000000000000000000000000000000000000000000000000000000000000000000000000000000000000000000000100000002

/-- The frame is admitted, no check of the command stops it, and its result can be sent. -/
def runs (i : CmdInfo) (c : Frame) (s : State) (body : Call → State → Result) (rb : List Byte := []) : Bool :=
  let t := acceptState c s
  let r := body (callOf i c t rb) t
  admits i c s rb && (r.status == .ok && sendable c t r)

/-- The frame is admitted, a check of the command stops it, and the Ledger takes entries. -/
def turned (i : CmdInfo) (c : Frame) (s : State) (body : Call → State → Result) : Bool :=
  let t := acceptState c s
  admits i c s [] && ((body (callOf i c t []) t).status != .ok && !ledgerBlocked t)

/-- The frame is admitted and meets `pre`, and the Ledger takes entries: a command that writes MRAM. -/
def writesNv (i : CmdInfo) (c : Frame) (s : State) (pre : Call → State → Bool) : Bool :=
  let t := acceptState c s
  admits i c s [] && (pre (callOf i c t []) t && (outRefOf c == none && !ledgerBlocked t))

/-! ### Witnesses -/

theorem met_CommandsRunInOrder : [
   decide (State.reset.pending = []) && decide ({ ready with pending := [.hotReset, .hotReset] }.pending = [.hotReset, .hotReset])].all id = true := by decide +kernel

theorem met_AcceptedFrames : [
   (let c := frame 0x0201 32 0
   let h := c.header.toNat
   let x := ready.fn 0
   decide (fld h 0 16 = 0x0201 ∧ barOpen ready c.func = true ∧ ready.gaf.state = .ready ∧ x.cmdPi = x.cmdCi ∧ x.cmdPi < 65536
     ∧ x.outst.length < 16 ∧ badHeader h (fld h 32 8) = false ∧ x.outst.any (fun e => e.tag == fld h 16 16) = false
     ∧ fnPart ready c.func = some { part := 0, secure := true } ∧ fld h 40 4 = 0 ∧ bit h 48 = false ∧ bit h 50 = false))].all id = true := by decide +kernel

theorem met_TagsInUse : [
   (let c := frame 0x0201 32 0
   let s := ready.modFn 0 (fun x => { x with outst := [{ tag := 0, opcode := 1, part := 0, accept := 0, outRef := none, resp := none }] })
   let t := (offer s c).1
   decide (barOpen s c.func = true ∧ (offer s c).2 = true ∧ badHeader c.header.toNat (fld c.header.toNat 32 8) = false
     ∧ (t.fn c.func).outst.any (fun e => e.tag == fld c.header.toNat 16 16) = true))].all id = true := by decide +kernel

theorem met_Responses : [
   (let out : List Byte := List.replicate 224 0
   decide (out.length ≤ 224)),
   decide (outRefOf (frame 0x0201 32 0) = none ∧ (report ready []).items = [] ∧ (report ready []).waits = false ∧ (waiting ready).items = [] ∧ (waiting ready).waits = true),
   decide (Status.badParam ≠ .nvTempInhibit ∧ Status.badParam ≠ .partDenied ∧ Status.badParam ≠ .sigFail ∧ Status.badParam ≠ .rollback ∧ Status.badParam ≠ .incompatible)].all id = true := by decide +kernel

theorem met_Confidence : [
   (let d : Disc := { l3 := true, thA := 0, thB := 10 }
   decide (({ } : Disc).l3 = false ∧ d.l3 = true ∧ ((5 : Int) - d.thA).natAbs ≤ (5 - d.thB).natAbs ∧ ((6 : Int) - d.thB).natAbs < (6 - d.thA).natAbs))].all id = true := by decide +kernel

theorem met_InvalidLines : [
   (List.range 2).all (fun i => lineValid dram (8 * i + 128) == false),
   decide (lineValid dram (2 ^ 39) = false ∧ 2 ^ 39 < 2 ^ 40)].all id = true := by decide +kernel

theorem met_DdrWrites : [
   (let d : List Byte := [1, 2]
   decide (d ≠ [] ∧ 126 % 128 + d.length ≤ 128 ∧ lineValid dram 126 = true ∧ maskOf dram.mem ((l2Pos dram 126).1 / 8 * 8) = 0
     ∧ (List.range 16).all (fun j => maskOf dram.mem (126 / 128 * 128 + 8 * j) == 0) = true)),
   decide (lineValid dram 128 = false ∧ tget false dram.mem.l1 (128 / 2 ^ 20) = true ∧ maskOf dram.mem ((l2Pos dram 128).1 / 8 * 8) = 0
     ∧ 256 ≤ (l2Pos dram 128).1),
   decide (lineValid dram 8 = true ∧ maskOf dram.mem 8 = 0)].all id = true := by decide +kernel

theorem met_IdentityBindingsAndCauses_commands : [
   runs { op := 1, inSealed := true, inRec := true, unbound := true } (frame 1 8 0) ready (fun k s => report s (identifyOut s k.func)),
   runs { op := 2, inSealed := true, inRec := true, unbound := true } (frame 2 8 0) ready (fun _ s => report s (versionOut s)),
   runs { op := 0x0B01, pf0 := true } (frame 0x0B01 8 97) ready vfBindBody,
   runs { op := 0x0B01, pf0 := true } (frame 0x0B01 8 1) { ready with fns := [(1, { bound := true, part := 1 })] } vfUnbindBody,
   runs { op := 0x0B02 } (frame 0x0B02 8 (64 + 65536)) ready icCfgBody].all id = true := by decide +kernel

theorem met_FirmwareUpdates_commands : [
   runs { op := 4, inSealed := true, inRec := true, pf0 := true, inlineF := true } (refFrame 4 0 fw) hosted fwStageBody fw,
   runs { op := 4, inSealed := true, inRec := true, pf0 := true, inlineF := true } (frame 4 16 1) { ready with gaf := { ready.gaf with staged := true } } fwActivateBody,
   runs { op := 4, inSealed := true, inRec := true, pf0 := true, inlineF := true } (refFrame 4 2 fw) { hosted with gaf := { hosted.gaf with state := .recovery } } fwRunRamBody fw,
   runs { op := 4, inSealed := true, inRec := true, pf0 := true, inlineF := true } (frame 4 16 3) ready fwCommitFloorBody].all id = true := by decide +kernel

theorem met_FirmwareUpdates : [
   (let s : State := { ready with gaf := { ready.gaf with staging := some (0, 0, image) } }
   decide (s.gaf.staging = some (0, 0, image) ∧ s.gaf.state ≠ .halted ∧ { s.gaf with state := .halted }.state = .halted))].all id = true := by decide +kernel

theorem met_GafferHalts : [
   decide (ready.gaf.state ≠ .halted ∧ ready.power.core = true ∧ { ready with gaf := { state := .halted } }.gaf.state = .halted)].all id = true := by decide +kernel

theorem met_MailboxIndexWrites : [
   (let s := ready.modFn 0 (fun x => { x with rspPi := 1, evtPi := 1, audPi := 1 })
   let x := s.fn 0
   decide (barOpen s 0 = true ∧ ringOcc x.cmdPi x.cmdCi + ringOcc 16 x.cmdPi ≤ 16 ∧ 16 < ringOcc x.cmdPi x.cmdCi + ringOcc 17 x.cmdPi
     ∧ ringOcc 1 x.rspCi ≤ ringOcc x.rspPi x.rspCi ∧ ringOcc x.rspPi x.rspCi < ringOcc 2 x.rspCi
     ∧ ringOcc 1 x.evtCi ≤ ringOcc x.evtPi x.evtCi ∧ ringOcc x.evtPi x.evtCi < ringOcc 2 x.evtCi
     ∧ ringOcc 1 x.audCi ≤ ringOcc x.audPi x.audCi ∧ ringOcc x.audPi x.audCi < ringOcc 2 x.audCi))].all id = true := by decide +kernel

theorem met_FrameWrites : [
   (let s := ready.modFn 0 (fun x => { x with cmdPi := 1 })
   let x := s.fn 0
   decide (barOpen s 0 = true ∧ [0, 0, 0, 0].length = 4 ∧ 0xFF8 % 8 = 0 ∧ 0xFF8 + 8 ≤ 0x1000 ∧ [0, 0].length ≠ 4 ∧ [0, 0].length ≠ 8
     ∧ 0xFFC % 4 = 0 ∧ 0xFFC + 4 ≤ 0x1000 ∧ ringOcc x.cmdPi x.cmdCi ≤ (0xFFC / 256 + 16 - x.cmdCi % 16) % 16
     ∧ (0 / 256 + 16 - x.cmdCi % 16) % 16 < ringOcc x.cmdPi x.cmdCi ∧ 0x3FF8 + 8 ≤ mbRingBytes .evt))].all id = true := by decide +kernel

theorem met_HostWindows : [
   decide (barOpen ready 0 = true ∧ 0xFFC % 4 = 0 ∧ 0xFFC ≠ 0x300 ∧ 0x80000 ≤ 0xFFFFC ∧ 0xFFFFC < 0x100000 ∧ 0x302 % 8 ≠ 0 ∧ (2 ≠ 4 ∧ 2 ≠ 8)
     ∧ 2 ^ 34 - 8 + 8 ≤ bar2Size dram ∧ (takeHeader dram 0 .pcie 8).2 = false
     ∧ (takeHeader { dram with mem := { dram.mem with hdrs := [1] } } 0 .pcie 8).2 = false
     ∧ (takeHeader { dram with mem := { dram.mem with hdrs := [2] } } 0 .pcie 8).2 = true),
   decide ((inDdr dram (dram.bar2 + 8) 8 && chanActive dram (chanOf (dram.bar2 + 8))) = true ∧ ddrMayChange dram { part := 0, secure := true } (dram.bar2 + 8) 8 = true),
   (let s : State := { dram with owners := [(oDdr * 2 ^ 32, { part := 1, secure := false })] }
   decide (barOpen s 0 = true ∧ (inDdr s 8 8 && chanActive s (chanOf 8)) = true ∧ ddrMayChange s { part := 0, secure := true } 8 8 = false)),
   decide ((inDdr ready (ready.bar2 + 8) 8 && chanActive ready (chanOf (ready.bar2 + 8))) = false)].all id = true := by decide +kernel

theorem met_Doorbells : [
   (let s := withSpool { onChip with cls := 0 }
   let r := readDesc s 256
   decide (barOpen s 0 = true ∧ doorbellFault r 0 256 true 1 = none ∧ doorbellSide r 256 (bit 1 27) = some true ∧ bit 1 25 = false ∧ bit 1 26 = false
     ∧ doorbellFault r 0 256 true (2 ^ 25 + 2 ^ 26) = none ∧ doorbellFault r 0 256 false 1 = some 2)),
   (let s := withSpool { onChip with pi := 1 }
   let r := readDesc s 256
   decide (doorbellFault r 0 256 true 1 = none ∧ doorbellSide r 256 (bit 1 27) = some false))].all id = true := by decide +kernel

theorem met_RegisterWrites : [
   decide (barOpen ready 0 = true ∧ (ready.fn 0).ecrcCheck = false
     ∧ ((ready.modFn 0 (fun x => { x with ecrcCheck := true })).fn 0).ecrcCheck = true)].all id = true := by decide +kernel

theorem met_FunctionConfiguration : [
   (let s := ready.modFn 0 (fun x => { x with vfEnable := true })
   decide (barOpen s 16 = true ∧ 63 < vectorCount 16 ∧ 2047 < vectorCount 0 ∧ barOpen s 0 = true ∧ (s.fn 0).vfEnable = true
     ∧ s.gaf.state ≠ .recovery ∧ s.power.perst = false ∧ s.power.core = true ∧ fnPresent s 16 = true ∧ fnPresent s 0 = true
     ∧ { s with power := { s.power with perst := true } }.power.perst = true))].all id = true := by decide +kernel

/-- After the longest wait that R313 allows, and before any. -/
theorem met_FunctionConfiguration_ready : configReady (later 60000000 ready) = true
    ∧ configReady { ready with power := { ready.power with perstAt := 1 } } = false := by
  constructor
  · simp only [configReady, decide_eq_true_eq]
    exact Nat.le_trans (Nat.add_le_add_left (Nat.min_le_right _ _) _) (by decide)
  · simp only [configReady, decide_eq_false_iff_not, Nat.not_le]
    exact Nat.lt_of_lt_of_le (Nat.zero_lt_one) (Nat.le_add_right _ _)

theorem met_LedgerPartitionsAndKeys_commands : [
   runs { op := 0x1202, inSealed := true } (frame 0x1202 32 0) ready ledgerReadBody,
   writesNv { op := 0x1202, inSealed := true } (frame 0x1202 32 (2 ^ 78 + 2 ^ 79)) ready (fun k t => bit k.blk 78 && k.func == 0 && (bit k.blk 79 != t.ledger.retain) && fld k.blk 80 48 == 0 && decide (fld k.blk 64 14 ≤ 8192)
     && decide (oldestSeq t.ledger ≤ fld k.blk 0 64) && decide (fld k.blk 0 64 ≤ headSeq t.ledger)
     && decide (fld k.blk 0 64 + fld k.blk 64 14 ≤ headSeq t.ledger + 1) && !nvInhibit t),
   writesNv { op := 0x1203, pf0 := true } (frame 0x1203 240 0) ready (fun k t => fld k.blk 8 56 == 0 && !nvInhibit t),
   writesNv { op := 0x1205, pf0 := true } (frame 0x1205 104 keyPoint) ready (fun k t => fld k.blk 2 2 == 0 && fld k.blk 4 60 == 0 && tget 0 t.keys (fld k.blk 0 2) == 0 && onCurve (octets k.blk 64) (octets k.blk 448) && !nvInhibit t),
   writesNv { op := 0x1205, pf0 := true } (frame 0x1205 8 4) { ready with keys := [(0, 1)] } (fun k t => fld k.blk 2 2 == 1 && fld k.blk 4 60 == 0 && tget 0 t.keys (fld k.blk 0 2) != 0 && !nvInhibit t),
   runs { op := 0x1206 } (frame 0x1206 240 0) ready (fun k s => checked s (0, 0) [(k.blk != 0, .badParam)] (report s (keyStatusOut s)))].all id = true := by decide +kernel

theorem met_RepairAndOwners_commands : [
   runs { op := 0x1201 } (frame 0x1201 240 0) ready (fun k s => checked s (0, 0) [(k.blk != 0, .badParam)] (report s (leBytes 64 (repairImage s)))),
   writesNv { op := 0x1204, pf0 := true } (frame 0x1204 16 (1 + 2 ^ 16)) ready (fun k t => decide (1 ≤ fld k.blk 0 8) && decide (fld k.blk 0 8 ≤ 0x11) && decide (1 ≤ fld k.blk 16 16) && decide (fld k.blk 16 16 ≤ 1024)
     && fld k.blk 9 7 == 0 && fld k.blk 69 59 == 0 && !nvInhibit t && (List.range (fld k.blk 16 16)).all (fun i =>
       objIdOk (fld k.blk 0 8) (fld k.blk 32 32 + i) && (objPair (fld k.blk 0 8) (fld k.blk 32 32 + i)).all (fun o => !objBusy t o.1 o.2))
     && (let u := (((List.range (fld k.blk 16 16)).flatMap
            (fun i => objPair (fld k.blk 0 8) (fld k.blk 32 32 + i))).foldl (setOwner false (fld k.blk 64 4) (bit k.blk 68)) (t, [])).1
         (List.range 12).all (fun j => !tileLineUsed t j || tileOwner u j == tileOwner t j)))].all id = true := by decide +kernel

theorem met_RepairAndOwners : [
   (let s : State := { ready with repair := { marks := [{ kind := .loom, store := 0, addr := 95 }] } }
   decide (s.gaf.state ≠ .halted ∧ { s.gaf with state := .halted }.state = .halted ∧ s.repair.marks.contains { kind := .loom, store := 0, addr := 95 } = true ∧ (s.loom 95).state = .empty
     ∧ tget false s.repair.loomSpare (95 / 8) = false ∧ tget false { s.repair with loomSpare := [(11, true)] }.loomSpare (95 / 8) = true)),
   (let s : State := { ready with repair := { marks := [{ kind := .core, store := 0, addr := 23 }], mvSpare := [(11, true)] } }
   decide (s.repair.marks.contains { kind := .core, store := 0, addr := 23 } = true ∧ (s.core 23).state = .empty
     ∧ tget false s.repair.mvSpare (23 / 2) = true ∧ tget false s.repair.mvSpare (22 / 2 - 1) = false
     ∧ tget false { s.repair with mvSpare := [] }.mvSpare (23 / 2) = false)),
   (let m (row : Bool) : Mark := { kind := if row then .row else .column, store := 4, addr := 0x800030000000 }
   let s : State := { ready with repair := { marks := [m true, m false] } }
   decide (s.gaf.state ≠ .halted ∧ s.repair.marks.contains (m true) = true ∧ s.repair.marks.contains (m false) = true
     ∧ arrayQuiet s false (m true).store 0x800030000000 = true ∧ arrayQuiet s false 9 0 = false ∧ ready.repair.marks.contains (m true) = false))].all id = true := by decide +kernel

theorem met_WarmAndPerstResets : [
   decide (barOpen ready 0 = true),
   (let c := frame 0x0003 16 0
   let k := callOf { op := 3, inSealed := true, inRec := true, pf0 := true } c (acceptState c ready) []
   admits { op := 3, inSealed := true, inRec := true, pf0 := true } c ready [] &&
   decide ((ready.fn 0).outst.any (fun o => o.tag == fld c.header.toNat 16 16) = false ∧ fld k.blk 0 2 = 0 ∧ fld k.blk 2 4 = 0
     ∧ resetRsv k.blk = false ∧ outRefOf c = none)),
   (let s : State := { ready with power := { ready.power with good := true }, gaf := { ready.gaf with slotA := some image } }
   let p : State := { s with power := { s.power with perst := true } }
   decide (s.power.good = true ∧ s.power.core = true ∧ s.power.perst = false ∧ s.gaf.recBall = false ∧ (bootPick s.gaf).isSome = true
     ∧ { s.gaf with recBall := true }.recBall = true ∧ p.power.perst = true ∧ p.power.good = true ∧ p.power.core = true
     ∧ (bootPick p.gaf).isSome = true ∧ ({ p with power := { p.power with good := false } }.power.good && p.power.core) = false))].all id = true := by decide +kernel

theorem met_PowerOnBootAndCoreRails : [
   (let s : State := { ready with gaf := { ready.gaf with slotA := some image } }
   decide (s.power.good = false ∧ s.power.aon = true ∧ s.power.core = true ∧ s.power.perst = false ∧ s.time.refclk = true
     ∧ (bootPick s.gaf).isSome = true)),
   (let g : Gaffer := { booting := true, slotA := some image }
   let u : Gaffer := { booting := true, slotA := some { image with ucode := 6 } }
   decide (g.booting = true ∧ ready.power.core = true ∧ g.fromRam = false ∧ bootPick g = some (false, false) ∧ bootPick u = some (false, true)
     ∧ { g with fromRam := true }.fromRam = true ∧ { g with bootStep := 6 }.bootStep < 7
     ∧ { g with bootStep := 6 }.stepAt + stepMax 6 ≤ (later 37500000 { ready with gaf := { g with bootStep := 6 } }).now)),
   decide ({ ready with power := { core := false } }.power.core = false)].all id = true := by decide +kernel

theorem met_StagedBlocks : [
   decide (ready.staged.all (fun x => decide (ready.st < x.at_)) = true ∧ (List.range 4).all (fun q => (ready.quad q).pend == none) = true ∧ (List.range 12).all (fun t => (ready.tile t).pend == none) = true),
   (let p : PowerCmd := { target := 2, force := false, at_ := 0, func := 0, tag := 0 }
   let s : State := { State.reset with power := { quads := [(3, { pend := some p })], tiles := [(11, { pend := some p })] } }
   decide ((s.quad 3).pend = some p ∧ p.begun = false ∧ p.at_ ≤ s.st ∧ p.target = 2 ∧ (s.quad 3).state = .off
     ∧ (s.tile 11).pend = some p ∧ (s.tile 11).state ≠ .active))].all id = true := by decide +kernel

theorem met_PowerAndLehrCommands_commands : [
   runs { op := 0x0F01, pf0 := true } (frame 0x0F01 240 0) ready quadPowerBody,
   runs { op := 0x0F02 } (frame 0x0F02 16 16) ready tilePowerBody,
   runs { op := 0x0003 } (frame 0x0003 16 2) ready resetTileBody,
   runs { op := 0x0003 } (frame 0x0003 16 1) ready resetQuadrantBody,
   runs { op := 0x0F03 } (frame 0x0F03 240 0) ready powerStatusBody,
   runs { op := 0x1002 } (frame 0x1002 240 0) ready lehrStatusBody,
   runs { op := 0x1001, pf0 := true } (frame 0x1001 32 lehrDefault) ready (lehrCfgBody 0 [] id),
   runs { op := 0x1001, pf0 := true } (frame 0x1001 32 (lehrDefault + 2 ^ 96)) ready (lehrCfgBody 1 [] releaseHolds),
   runs { op := 0x1001, pf0 := true } (frame 0x1001 32 (lehrDefault + 2 ^ 97)) { ready with lehr := { suspects := [(0, true)] } } (fun k s => lehrCfgBody 2 [(!isSuspect s (fld k.blk 98 5), .badParam)] id k s)].all id = true := by decide +kernel

theorem met_PowerTransitions : [
   (let p : PowerCmd := { target := 2, force := false, at_ := 0, func := 0, tag := 0, begun := true }
   let s : State := { State.reset with power := { quads := [(0, { pend := some p, fromOff := true })] } }
   decide ((s.quad 0).pend = some p ∧ p.begun = true ∧ (s.quad 0).fromOff = true ∧ p.entry = none)),
   (let p : PowerCmd := { target := 2, force := false, at_ := 0, func := 0, tag := 0, begun := true, entry := some 0 }
   let s : State := { State.reset with power := { quads := [(0, { pend := some p, resetAt := some 0 })], tiles := [(0, { state := .waking, entry := some 0, resetAt := some 0 })] } }
   decide ((s.quad 0).pend = some p ∧ p.entry = some 0 ∧ 0 ≤ s.st ∧ wakeAt (s.tile 0) = some 0 ∧ (s.tile 0).state = .waking ∧ s.time.mode ≠ .lost
     ∧ (s.tile 0).resetAt = some 0 ∧ (s.quad 0).resetAt = some 0))].all id = true := by decide +kernel

theorem met_SupplyEvents : [
   decide ({ ready with power := { biasLoad := true } }.power.biasLoad = true),
   decide (droopRail 0 = true ∧ droopRail 7 = true ∧ droopRail 14 = true)].all id = true := by decide +kernel

theorem met_StopsAndTrips : [
   (let r : StopRun := { begin_ := 0, st := 0, causes := [5] }
   let s := later 3750000 { ready with lehr := { quads := [(3, some r)] } }
   decide (quadStop s 3 = some r ∧ r.step = 0 ∧ graceOver s (some 3) r = true)),
   (let r : StopRun := { begin_ := 0, st := 0, causes := [5], grace := some 8, step := 2, safe := true }
   let s := later 40 { ready with lehr := { dev := some r } }
   decide (s.lehr.dev = some r ∧ r.step = 2 ∧ r.safe = true ∧ r.grace = some 8 ∧ 8 + 32 ≤ s.now)),
   decide (ready.lehr.tripped = false ∧ { ready with lehr := { tripped := true } }.lehr.tripped = true),
   decide ((ready.quad 0).pll = true ∧ quadOff ready 0 = false ∧ nirdinRuns ready = true ∧ ready.lehr.dev = none ∧ stopOf ready (some 3) = none),
   (let s := ready.modQuad 0 (fun x => { x with pllStop := true })
   let run (n : Nat) : StopRun := { begin_ := 0, st := 0, causes := [8], step := n }
   let at_ (n : Nat) : State := { s with lehr := { quads := [(0, some (run n))] } }
   decide ((s.quad 0).pllStop = true ∧ quadStop s 0 = none ∧ quadStop (at_ 1) 0 = some (run 1) ∧ (run 1).step ≠ 3
     ∧ (s.quad 0).state ≠ .off ∧ quadStop (at_ 3) 0 = some (run 3) ∧ (run 3).step = 3 ∧ (at_ 3).lehr.dev = none
     ∧ (at_ 3).lehr.tripped = false ∧ (run 3).causes = [8] ∧ nirdinRuns (at_ 3) = true))].all id = true := by decide +kernel

theorem met_LehrRounds : [
   (let s := later 750000 { ready with hk := { units := [(1, { refok := true })] } }
   decide (slowNow s = true ∧ counting s = true ∧ s.st % 24000000 = 0 ∧ (tget ({} : HkUnit) s.hk.units 1).refok = true ∧ s.lehr.round = none)),
   (let s := later 54000 { ready with lehr := { round := some 0, taken := 68 } }
   decide (s.lehr.round = some 0 ∧ 68 ≤ s.lehr.taken ∧ 0 + 54000 ≤ s.now))].all id = true := by decide +kernel

theorem met_EpochAndReference_commands : [
   runs { op := 0x0101, pf0 := true } (frame 0x0101 240 0) ready timeEpochBody,
   runs { op := 0x0102, pf0 := true } (frame 0x0102 16 0) { ready with time := { mode := .set } } timeReleaseBody].all id = true := by decide +kernel

theorem met_EpochAndReference : [
   (let s : State := { ready with time := { epochAt := some 0 } }
   decide (s.weave.admission = none ∧ slowNow (later 1 s) = false ∧ (State.reset.quad 0).pll = false ∧ slowNow s = true ∧ s.time.epochAt = some 0 ∧ 0 ≤ s.now ∧ s.time.refclk = true ∧ { s.time with refclk := false }.refclk = false ∧ (s.quad 0).pll = true))].all id = true := by decide +kernel

theorem met_PortThreadAndFluxSetup_commands : [
   runs { op := 0x0201 } (frame 0x0201 240 0) ready portCfgBody,
   turned { op := 0x0201 } (frame 0x0201 240 (2 ^ 1920 - 1)) ready portCfgBody,
   runs { op := 0x0202 } (frame 0x0202 240 0) ready threadCfgBody,
   turned { op := 0x0202 } (frame 0x0202 240 (2 ^ 1920 - 1)) ready threadCfgBody,
   runs { op := 0x0203 } (frame 0x0203 240 0) ready tsetCfgBody,
   turned { op := 0x0203 } (frame 0x0203 240 (2 ^ 1920 - 1)) ready tsetCfgBody,
   runs { op := 0x0204 } (frame 0x0204 240 (2 ^ 40)) ready listWriteBody,
   turned { op := 0x0204 } (frame 0x0204 240 (2 ^ 1920 - 1)) ready listWriteBody,
   runs { op := 0x0205 } (frame 0x0205 240 0) ready pdCoefBody,
   turned { op := 0x0205 } (frame 0x0205 240 (2 ^ 1920 - 1)) ready pdCoefBody,
   runs { op := 0x0206 } (frame 0x0206 240 0) ready (portStatusBody .portCfg portBad),
   turned { op := 0x0206 } (frame 0x0206 240 (2 ^ 1920 - 1)) ready (portStatusBody .portCfg portBad),
   runs { op := 0x0601 } (frame 0x0601 32 0x800) ready fluxCfgBody,
   turned { op := 0x0601 } (frame 0x0601 240 (2 ^ 1920 - 1)) ready fluxCfgBody,
   runs { op := 0x0602 } (frame 0x0602 240 0x800) ready fluxPdBody,
   turned { op := 0x0602 } (frame 0x0602 240 (2 ^ 1920 - 1)) ready fluxPdBody,
   runs { op := 0x0603 } (frame 0x0603 32 0x800) ready (portStatusBody .fluxCfg fluxBad),
   turned { op := 0x0603 } (frame 0x0603 240 (2 ^ 1920 - 1)) ready (portStatusBody .fluxCfg fluxBad)].all id = true := by decide +kernel

theorem met_BobbinAndReadoutSetup_commands : [
   runs { op := 0x0301 } (frame 0x0301 16 (2 ^ 32)) ready bobbinAllocBody,
   turned { op := 0x0301 } (frame 0x0301 240 (2 ^ 1920 - 1)) ready bobbinAllocBody,
   runs { op := 0x0302 } (frame 0x0302 16 0) { ready with bobbins := [(0, { runs := [(0, { blocks := 1 })] })] } bobbinFreeBody,
   turned { op := 0x0302 } (frame 0x0302 240 (2 ^ 1920 - 1)) ready bobbinFreeBody,
   runs { op := 0x0303, inlineF := true } (frame 0x0303 24 (2 ^ 64)) { ready with bobbins := [(0, { runs := [(0, { blocks := 1 })] })] } bobbinWriteBody,
   turned { op := 0x0303, inlineF := true } (frame 0x0303 240 (2 ^ 1920 - 1)) ready bobbinWriteBody,
   runs { op := 0x0304 } (frame 0x0304 32 (1 + 2 ^ 16 + 2 ^ 64)) { ready with bobbins := [(0, { runs := [(0, { blocks := 1 })] })] } segmentDescBody,
   turned { op := 0x0304 } (frame 0x0304 240 (2 ^ 1920 - 1)) ready segmentDescBody,
   runs { op := 0x0304 } (frame 0x0304 32 1) ready segmentDeleteBody,
   turned { op := 0x0304 } (frame 0x0304 240 (2 ^ 1920 - 1)) ready segmentDeleteBody,
   runs { op := 0x0305 } (frame 0x0305 240 0) ready jumpCfgBody,
   turned { op := 0x0305 } (frame 0x0305 240 (2 ^ 1920 - 1)) ready jumpCfgBody,
   runs { op := 0x0306 } (frame 0x0306 240 0) ready bobbinStatusBody,
   turned { op := 0x0306 } (frame 0x0306 240 (2 ^ 1920 - 1)) ready bobbinStatusBody,
   runs { op := 0x0401 } (frame 0x0401 32 (0x400 + 2 ^ 64)) ready windowProfileBody,
   turned { op := 0x0401 } (frame 0x0401 240 (2 ^ 1920 - 1)) ready windowProfileBody,
   runs { op := 0x0402 } (frame 0x0402 32 (0x400 + 2 ^ 32)) ready weightWriteBody,
   turned { op := 0x0402 } (frame 0x0402 240 (2 ^ 1920 - 1)) ready weightWriteBody,
   runs { op := 0x0403 } (frame 0x0403 16 0x400) ready weightSwapBody,
   turned { op := 0x0403 } (frame 0x0403 240 (2 ^ 1920 - 1)) ready weightSwapBody,
   runs { op := 0x0404 } (frame 0x0404 32 (0x400 + 2 ^ 20)) ready readpairCfgBody,
   turned { op := 0x0404 } (frame 0x0404 240 (2 ^ 1920 - 1)) ready readpairCfgBody,
   runs { op := 0x0405 } (frame 0x0405 240 0x400) ready rdFirCoefBody,
   turned { op := 0x0405 } (frame 0x0405 240 (2 ^ 1920 - 1)) ready rdFirCoefBody,
   runs { op := 0x0406 } (frame 0x0406 32 0x400) ready readStatusBody,
   turned { op := 0x0406 } (frame 0x0406 240 (2 ^ 1920 - 1)) ready readStatusBody].all id = true := by decide +kernel

theorem met_ReadoutWindows : [
   (let e := emission 5 1 0 3
   let s := (emitting [e]).modThread (tidOfRt 0) (fun x => { x with en := true })
   let u := dropOps (takeTs s (tidOfRt 0)) (tidOfRt 0) 5
   decide (dueOps s (tidOfRt 0) 5 = [e] ∧ (u.thread (tidOfRt 0)).en = true ∧ wValid (tget 0 (u.rt 0).profiles (e.param % 16)) = false
     ∧ dueOps ready (tidOfRt 383) 5 = [])),
   (let e := emission 5 1 0 3
   let s := ({ emitting [e] with rts := [(0, { profiles := [(3, 2 ^ 20)] })] }).modThread (tidOfRt 0) (fun x => { x with en := true })
   let u := dropOps (takeTs s (tidOfRt 0)) (tidOfRt 0) 5
   decide (dueOps s (tidOfRt 0) 5 = [e] ∧ (u.thread (tidOfRt 0)).en = true ∧ wValid (tget 0 (u.rt 0).profiles (e.param % 16)) = true)),
   (let e := emission 5 1 0 3
   let u := dropOps (takeTs (emitting [e]) (tidOfRt 0)) (tidOfRt 0) 5
   decide (dueOps (emitting [e]) (tidOfRt 0) 5 = [e] ∧ (u.thread (tidOfRt 0)).en = false)),
   (let w := { window 0 with latched := none }
   let s : State := { ready with rts := [(0, { windows := [w] })] }
   decide ((s.rt 0).windows = [w] ∧ w.dropped = false ∧ w.latched = none ∧ w.t0 = stTick s)),
   (let w := { window 0 with latched := some (0, 0, { ehiEn := true }, false) }
   let s := windowed w
   decide ((s.rt 0).windows = [w] ∧ wDest w.prof = 0 ∧ openNow w = true ∧ w.early = none ∧ wEarlyEn w.prof = true
     ∧ w.t0 + 65 ≤ stTick s ∧ (demod s 0 w { first := 0, codes := [] } (min (wLen w.prof) (stTick s - w.t0 - 64))).early = some (1, 0))),
   (let w := { window 0 with early := some (1, 0) }
   decide (((windowed w).rt 0).windows = [w] ∧ wDest w.prof = 0 ∧ openNow w = true ∧ w.early.isSome = true)),
   decide (((windowed (window 0)).rt 0).windows.find? (closeDue (windowed (window 0))) = some (window 0) ∧ (ready.rt 0).windows.find? (closeDue ready) = none),
   (let z : Swap := { at_ := 32, now_ := false, func := 0, tag := 0 }
   let w := { window 0 with k := 0 }
   let s (n : Nat) (l : List Window) : State := later n { ready with rts := [(0, { swap := some z, windows := l })] }
   decide (((s 1 []).rt 0).swap = some z ∧ z.at_ ≤ 32 * stTick (s 1 []) ∧ insideWindow ((s 1 []).rt 0) (stTick (s 1 [])) = false
     ∧ 32 * stTick (s 0 []) < z.at_ ∧ insideWindow ((s 1 [w]).rt 0) (stTick (s 1 [w])) = true))].all id = true := by decide +kernel

theorem met_RawCapturesAndWarp_commands : [
   runs { op := 0x0407 } (frame 0x0407 32 (0x400 + 2 ^ 32 + 2 ^ 20 * 2 ^ 128)) { ready with mem := { chans := [(0, { capacity := 2 ^ 30 })] } } rawCaptureBody,
   turned { op := 0x0407 } (frame 0x0407 240 (2 ^ 1920 - 1)) ready rawCaptureBody,
   runs { op := 0x0407 } (frame 0x0407 32 (0x400 + 2 ^ 20)) ready rawCaptureAbortBody,
   turned { op := 0x0407 } (frame 0x0407 240 (2 ^ 1920 - 1)) ready rawCaptureAbortBody,
   runs { op := 0x0408 } (frame 0x0408 240 0) ready captureStatusBody,
   turned { op := 0x0408 } (frame 0x0408 240 (2 ^ 1920 - 1)) ready captureStatusBody,
   runs { op := 0x0801 } (frame 0x0801 240 0) ready warpBindBody,
   turned { op := 0x0801 } (frame 0x0801 240 (2 ^ 1920 - 1)) ready warpBindBody,
   runs { op := 0x0802 } (frame 0x0802 240 0) ready warpStatusBody,
   turned { op := 0x0802 } (frame 0x0802 240 (2 ^ 1920 - 1)) ready warpStatusBody].all id = true := by decide +kernel

theorem met_RawCapturesAndWarp : [
   (let s : State := later 44 { ready with caps := [(0, { state := .armed })] }
   let u : State := later 43 s
   decide ((s.cap 0).state = .armed ∧ (s.cap 0).trig = false ∧ (s.cap 0).label + 44 * 32 ≤ s.st ∧ u.st < (u.cap 0).label + 44 * 32)),
   (let s : State := { ready with caps := [(0, { state := .running, length := 1 })] }
   let codes : List (BitVec 12) := List.replicate 16 0
   decide ((s.cap 0).state = .running ∧ (s.cap 0).abort = none ∧ (s.cap 0).length ≤ codes.length / 16 ∧ 0 < (s.cap 0).length
     ∧ (codes.drop 1).length / 16 < (s.cap 0).length ∧ (s.cap 1).state ≠ .running ∧ abortDue s (s.cap 1) = false)),
   (let d : Decision := { due := 0, kind := 2, id := 0, tile := 0, loom := 0, start := 0, k := 0 }
   let v := { d with written := some (0, 1), due := 4 }
   decide (((withDec [d]).decBit 5).armed = [d] ∧ d.due = stTick (withDec [d]) ∧ tileActive (withDec [d]) d.tile = true ∧ lateDecision d = true
     ∧ v.due = stTick (later 4 (withDec [v])) ∧ lateDecision v = false
     ∧ ((later 6 (withDec [d, v])).decBit 5).armed = [d, v] ∧ d.due < v.due ∧ v.due + 2 ≤ stTick (later 6 (withDec [d, v]))))].all id = true := by decide +kernel

theorem met_HarnessCommandsAndEvents_commands : [
   runs { op := 0x0901 } (frame 0x0901 240 0) ready harnessCfgBody,
   turned { op := 0x0901 } (frame 0x0901 240 (2 ^ 1920 - 1)) ready harnessCfgBody,
   runs { op := 0x0902 } (frame 0x0902 240 0) ready harnessSinkBody,
   turned { op := 0x0902 } (frame 0x0902 240 (2 ^ 1920 - 1)) ready harnessSinkBody,
   runs { op := 0x0903 } (frame 0x0903 240 0) ready harnessFireBody,
   turned { op := 0x0903 } (frame 0x0903 240 (2 ^ 1920 - 1)) ready harnessFireBody,
   runs { op := 0x0904 } (frame 0x0904 240 0) ready harnessStatusBody,
   turned { op := 0x0904 } (frame 0x0904 240 (2 ^ 1920 - 1)) ready harnessStatusBody].all id = true := by decide +kernel

theorem met_HarnessCommandsAndEvents : [
   (let c : Carry := { chan := 1023, tick := 0, count := 1, hop := 1, async := false }
   let s : State := later 1 { ready with harness := { carried := [c] } }
   let z : State := later 3 { ready with harness := { carried := [{ c with near := true }] } }
   decide (pendingDelivery s 1023 true = some c
     ∧ pendingDelivery (deliverSegment (delivered_ s c true) (segmentOf 1023) c) 1023 false = none
     ∧ pendingDelivery z 1023 true = none ∧ pendingDelivery z 1023 false = some { c with near := true } ∧ pendingDelivery z 0 true = none
     ∧ pendingDelivery z 0 false = none)),
   (let s : State := { ready with harness := { chans := [(7, { pen := 1 })] } }
   decide (slowNow s = true ∧ checkNeeded s = [7] ∧ selsNeeded s = [] ∧ badBytes s 7 = [] ∧ (s.chan 7).stored < 2 ^ 16 ∧ slowNow (later 1 s) = false)),
   (let s : State := { ready with mem := { errs := [(0x800050000072, 3)] } }
   decide (slowNow s = true ∧ checkNeeded s = [7] ∧ selsNeeded s = [] ∧ badBytes s 7 = [2] ∧ (s.chan 7).stored < 2 ^ 16))].all id = true := by decide +kernel

/-- The table of selections has no bad byte, and a bad byte at the place of selection 7. -/
theorem met_HarnessCommandsAndEvents_selections : byteBad (maskOf ready.mem (selAddr 7)) = false
    ∧ byteBad (maskOf { ready.mem with errs := [(selAddr 7, 3)] } (selAddr 7)) = true
    ∧ tget none ready.harness.sels 7 = none ∧ tget none { ready.harness with sels := [(7, some 1)] }.sels 7 = some 1 := by
  refine ⟨by decide +kernel, ?_, rfl, rfl⟩
  have h : maskOf { ready.mem with errs := [(selAddr 7, 3)] } (selAddr 7) = 3 := by simp [maskOf, tget]
  rw [h]; decide +kernel

theorem met_ThreadEmissions : [
   (let t : Nat := 0x1F
   let r : ThreadRef := { tile := 0, kind := .drive, index := 31 }
   [0, 2, 3, 4].all fun op =>
     let e := emission op 0 31 5
     let s := (emitting [e]).modThread t (fun x => { x with en := true })
     let u := dropOps (takeTs s t) t op
     decide (tidOf r = t ∧ s.mem.errs = [] ∧ dueOps s t op = [e] ∧ winner [e] = some e ∧ (u.thread t).en = true ∧ opAccepted (tidKind t) op = true
       ∧ [e].filter (fun e => bit e.param 6) = [] ∧ [emission 3 0 31 64].filter (fun e => bit e.param 6) = [emission 3 0 31 64])),
   (let t := mkTid (0 / 16) 2 (15 % 16)
   let e := emission 6 2 15 5
   let s := (emitting [e]).modThread t (fun x => { x with en := true })
   decide (dueOps s t 6 = [e] ∧ winner [e] = some e ∧ ((dropOps (takeTs s t) t 6).thread t).en = true
     ∧ dueOps (emitting [e]) t 6 = [e] ∧ ((dropOps (takeTs (emitting [e]) t) t 6).thread t).en = false)),
   (let e := { emission 0 0 31 0 with ts := some 3 }
   [0, 2, 3, 4].all fun op =>
     decide (dueOps (emitting [emission op 0 31 0]) 31 op = [emission op 0 31 0]
       ∧ ((dropOps (takeTs (emitting [emission op 0 31 0]) 31) 31 op).thread 31).en = false)
     && decide (winner ((emitting [e]).emits.filter (fun x => reached (emitting [e]) 31 x && x.ts.isSome && opAccepted (tidKind 31) x.op)) = some e
       ∧ ((emitting [e]).thread 31).en = false ∧ (((emitting [e]).modThread 31 (fun x => { x with en := true })).thread 31).en = true))].all id = true := by decide +kernel

theorem met_SegmentsAndJumps : [
   (let e := emission 1 0 0 1
   let s := { (emitting [e]).modThread 0 (fun x => { x with en := true }) with bobbins := [(0, { segs := [(1, 2 ^ 16 + 4 * 2 ^ 64)] })] }
   let u := dropOps (takeTs s 0) 0 1
   decide (dueOps s 0 1 = [e] ∧ (u.thread 0).en = true ∧ opAccepted (tidKind 0) 1 = true ∧ (s.thread 0).play = none ∧ (s.thread 0).gap = none
     ∧ e.param ≠ 0 ∧ segFault u 0 e.param = none ∧ 0 < dLength (segDesc s (tidTile 0) e.param) ∧ (emission 1 0 0 0).param = 0
     ∧ segFault ready 0 1 = some fJmpBad)),
   (let p : Play := { seg := 1, first := 0, final := 3, desc := 2 ^ 16 + 4 * 2 ^ 64 }
   let e := emission 1 0 0 1
   let s := later 1 ((emitting [e]).modThread 0 (fun x => { x with en := true, play := some p }))
   let z := later 4 s
   decide (dueOps s 0 1 = [e] ∧ ((dropOps (takeTs s 0) 0 1).thread 0).en = true ∧ (s.thread 0).play = some p ∧ s.now ≤ p.final ∧ p.first < s.now
     ∧ (s.thread 0).now_ = none ∧ (s.thread 0).next_ = none ∧ s.now + 2 ≤ p.final ∧ p.final < z.now + 2 ∧ p.final < z.now
     ∧ (dChain p.desc && dNext p.desc != 0) = false)),
   (let s := later 1 (ready.modThread 0 (fun x => { x with gap := some 0 }))
   decide ((s.thread 0).play = none ∧ (s.thread 0).gap = some 0 ∧ 0 < s.now ∧ (ready.thread 0).gap = none)),
   (let p : Play := { seg := 1, first := 0, final := 3, desc := 2 ^ 16 + 4 * 2 ^ 64 }
   let j : Jump := { seg := 1, reg := 0, loom := true }
   let s : State := { ready.modThread 0 (fun x => { x with play := some p, now_ := some j }) with bobbins := [(0, { segs := [(1, 2 ^ 16 + 4 * 2 ^ 64)] })] }
   let u := s.modThread 0 (fun x => { x with now_ := x.next_, next_ := none })
   decide ((s.thread 0).play = some p ∧ (s.thread 0).now_ = some j ∧ j.seg ≠ 0 ∧ segFault u 0 j.seg = none ∧ ({ j with seg := 0 } : Jump).seg = 0
     ∧ (u.thread 0).now_ = none)),
   (let d := 2 ^ 16 + 2 ^ 20 + 4 * 2 ^ 64 + 2 ^ 112
   let p : Play := { seg := 1, first := 0, final := 3, desc := d }
   let s : State := { ready.modThread 0 (fun x => { x with en := true, play := some p }) with bobbins := [(0, { segs := [(1, d)] })] }
   let b : State := { s with mem := { errs := (segWords 0 1).map (fun a => (a, 7)) } }
   decide (dChain d = true ∧ dNext d = p.seg ∧ p.seg ≠ 0 ∧ (s.thread 0).en = true ∧ segFault s 0 p.seg = none ∧ portMuted s (portOfTid 0) = true
     ∧ s.mem.errs = [] ∧ segBad b 0 1 = true))].all id = true := by decide +kernel

theorem met_StreamsAndFill : [
   (let s : State := { ready with spools := [(32, { onChip with cls := 0 })], bobbins := [(0, { segs := [(1, 3 * 2 ^ 16 + 4 * 2 ^ 64)] })] }
   decide ((tileActive s 0 && canPut s (s.spool (32 + 0))) = true
     ∧ (List.range 16).find? (fun i => (fetchRoom s 0 i).isSome) = some 0 ∧ (fetchRoom s 0 0).isSome = true
     ∧ (tileActive s 1 && canPut s (s.spool (32 + 1))) = false
     ∧ (List.range 16).find? (fun i => (fetchRoom { s with bobbins := [] } 0 i).isSome) = none)),
   (let s : State := { dram with spools := [(32, { onChip with cls := 0, pi := 1 })], ringMem := [(0, 1), (2, 1)] }
   let u := readDesc s 32
   let e := ringRead u (u.spool 32) (u.spool 32).ci
   let v := leNat e.1
   decide (spoolLive (u.spool 32) = true ∧ occupancy (u.spool 32) ≠ 0 ∧ e.2.1 = false ∧ mOp v = 1 ∧ inDdr u (mSrc v) (mBytes v) = true
     ∧ chanActive u (chanOf (mSrc v)) = true ∧ spoolLive (u.spool 33) = false)),
   (let s (v : Nat) : State := { dram with spools := [(32, { onChip with cls := 0, pi := 1 })], ringMem := [(0, 1), (2, 1), (8, BitVec.ofNat 8 v)] }
   let e (u : State) := ringRead u (u.spool 32) (u.spool 32).ci
   let who : Owner := partWho ready 0
   let z : State := { s 0 with mem := { (s 0).mem with errs := [(0x800041000000, 7)] } }
   let h : State := { s 0 with mem := { (s 0).mem with hdrs := [2] } }
   decide ((e (s 0)).2.1 = false ∧ (e z).2.1 = true ∧ ringSegment ((s 0).bobbin 0) 0 = none ∧ streamFail (s 0) who (leNat (e (s 0)).1) = none
     ∧ (streamFail (s 1) who (leNat (e (s 1)).1)).isSome = true ∧ (takeHeader (s 0) 0 (.tile 0) 0).2 = false
     ∧ (takeHeader h 0 (.tile 0) 0).2 = true)),
   (let u : State := { ready with spools := [(32, { onChip with cls := 0, pi := 1 })] }
   let e := ringRead u (u.spool 32) (u.spool 32).ci
   decide (spoolLive (u.spool 32) = true ∧ occupancy (u.spool 32) ≠ 0 ∧ mOp (leNat e.1) ≠ 1)),
   (let p : Play := { seg := 1, first := 0, final := 3, desc := 2 ^ 16 + 4 * 2 ^ 64 }
   let s := ready.modThread 0 (fun x => { x with play := some p })
   let q := { p with desc := 3 * 2 ^ 16 + 4 * 2 ^ 64, busy := true }
   let z := ready.modThread 0 (fun x => { x with play := some q })
   let l := { q with busy := false }
   let b : State := { ready with bobbins := [(0, { rings := [(0, { bad := [(0, true)] })] })] }
   decide (playAt (ready.thread 0) ready.now = none ∧ playAt (s.thread 0) s.now = some p ∧ playAt (z.thread 0) z.now = some q
       ∧ (z.thread 0).filled ≠ some z.now ∧ { z.thread 0 with filled := some z.now }.filled = some z.now)
     && (match readTick s 0 0 p with | .ok _ => true | .error _ => false)
     && (match readTick z 0 0 q with | .error .busy => true | _ => false) && (match readTick z 0 0 l with | .error .late => true | _ => false)
     && (match readTick b 0 0 l with | .error .fault => true | _ => false))].all id = true := by decide +kernel

theorem met_LoomRuns_commands : [
   runs { op := 0x0701, inlineF := true } (refFrame 0x0701 0 draft) hosted loomLoadBody draft,
   turned { op := 0x0701, inlineF := true } (frame 0x0701 240 (2 ^ 1920 - 1)) ready loomLoadBody,
   runs { op := 0x0702 } (frame 0x0702 240 0) ready loomCfgBody,
   turned { op := 0x0702 } (frame 0x0702 240 (2 ^ 1920 - 1)) ready loomCfgBody,
   runs { op := 0x0703 } (frame 0x0703 32 (2 ^ 20 * 2 ^ 64 + 2 ^ 128)) { ready with time := { mode := .set }, looms := [(0, { state := .loaded })] } loomRunBody,
   turned { op := 0x0703 } (frame 0x0703 240 (2 ^ 1920 - 1)) ready loomRunBody,
   runs { op := 0x0703 } (frame 0x0703 32 256) { ready with looms := [(0, { state := .armed })] } loomStopBody,
   turned { op := 0x0703 } (frame 0x0703 240 (2 ^ 1920 - 1)) ready loomStopBody,
   runs { op := 0x0703 } (frame 0x0703 32 512) { ready with looms := [(0, { state := .armed })] } loomAbortBody,
   turned { op := 0x0703 } (frame 0x0703 240 (2 ^ 1920 - 1)) ready loomAbortBody,
   runs { op := 0x0704 } (frame 0x0704 240 0) ready loomStatusBody,
   turned { op := 0x0704 } (frame 0x0704 240 (2 ^ 1920 - 1)) ready loomStatusBody].all id = true := by decide +kernel

theorem met_LoomRuns : [
   (let r : LoomRun := { first := 0, at_ := 32, shots := 2, period := 1 }
   let s (st : LoomState) : State := later 1 { ready with time := { mode := .set }, looms := [(95, { state := st, run := some r })] }
   let off : State := { s .armed with power := {} }
   decide ((s .armed).time.mode = .set ∧ loomActive ((s .loaded).loom 95) = false ∧ { s .armed with time := { mode := .lost } }.time.mode ≠ .set ∧ ((s .armed).loom 95).run = some r ∧ runOver r = false ∧ (s .armed).st = r.at_ + 32 * r.period * r.next ∧ ((s .armed).loom 95).state = .armed
     ∧ tileActive (s .armed) (tileOfLoom 95) = true ∧ stopCovers (s .armed) (quadOfLoom 95) = false ∧ ((s .running).loom 95).state = .running
     ∧ runOver { r with next := r.next + 1 } = false ∧ tileActive off (tileOfLoom 95) = false ∧ (ready.loom 95).run = none)),
   (let e := { emission 8 0 0 7 with loom := 3 }
   decide ((emitting [e]).emits.filter (fun e => e.op == 8 && decide (e.tick ≤ (emitting [e]).now) && e.param % 8 == 7) = [e]
     ∧ ready.emits.filter (fun e => e.op == 8 && decide (e.tick ≤ ready.now) && e.param % 8 == 7) = []))].all id = true := by decide +kernel

theorem met_Microwords : [
   (let s (j : Nat) : State := { ready with looms := [(0, { state := .running, word := some (0, j) })] }
   let z : State := { s 0 with mem := { errs := [(draftAddr 0 0 4, 7)] } }
   decide (((s 0).loom 0).word = some (0, 0) ∧ ((s 1).loom 0).word = some (0, 1) ∧ ((s 0).loom 0).state = .running ∧ ((s 0).loom 0).last ≠ (s 0).now + 1
     ∧ (List.range 5).any (fun i => badWord (maskOf (s 0).mem (draftAddr 0 0 i))) = false
     ∧ (List.range 5).any (fun i => badWord (maskOf z.mem (draftAddr 0 0 i))) = true ∧ (ready.loom 0).word = none)),
   (let u : Nat := 2 ^ 54 + 5 * 2 ^ 34
   let one : Nat := 2 ^ 30
   decide (uEnd (2 ^ 120) = true ∧ 0 = uHold (2 ^ 120) ∧ 1 ≠ uHold (2 ^ 120) ∧ uEnd u = false ∧ uUntil u = true ∧ 4 ≠ uHold u ∧ uUntil one = false
     ∧ 1 ≠ uHold one ∧ 0 = uHold one ∧ uEnd one = false
     ∧ (testCond ready 0 0 []).true_ = false ∧ (testCond ready 0 one []).true_ = true)),
   decide ([0, 1, 2, 3, 4].map (fun n => uCop (n * 2 ^ 58)) = [0, 1, 2, 3, 4] ∧ uCsel 0 < 8)].all id = true := by decide +kernel

theorem met_MarverCommands_commands : [
   runs { op := 0x0501, inlineF := true } (refFrame 0x0501 0 program) hosted marverLoadBody program,
   turned { op := 0x0501, inlineF := true } (frame 0x0501 240 (2 ^ 1920 - 1)) ready marverLoadBody,
   runs { op := 0x0502 } (frame 0x0502 16 0) { ready with cores := [(0, { state := .stopped })] } (marverCtlBody 0),
   turned { op := 0x0502 } (frame 0x0502 240 (2 ^ 1920 - 1)) ready (marverCtlBody 0),
   runs { op := 0x0502 } (frame 0x0502 16 32) ready (marverCtlBody 1),
   turned { op := 0x0502 } (frame 0x0502 240 (2 ^ 1920 - 1)) ready (marverCtlBody 1),
   runs { op := 0x0503 } (frame 0x0503 16 0x400) ready mvThreadCfgBody,
   turned { op := 0x0503 } (frame 0x0503 240 (2 ^ 1920 - 1)) ready mvThreadCfgBody,
   runs { op := 0x0504 } (frame 0x0504 240 0) ready marverStatusBody,
   turned { op := 0x0504 } (frame 0x0504 240 (2 ^ 1920 - 1)) ready marverStatusBody].all id = true := by decide +kernel

theorem met_MarverEvents : [
   (let t := windowed (window 2)
   let e := windowed { window 2 with fed := 2 }
   let i := windowed (window 1)
   decide ((t.rt 0).windows.find? (fun w => eventDue t w (.trc 0)) = some (window 2)
     ∧ (e.rt 0).windows.find? (fun w => eventDue e w .endw) = some { window 2 with fed := 2 }
     ∧ (i.rt 0).windows.find? (fun w => eventDue i w .int) = some (window 1) ∧ (window 1).latched = some (0, 0, {}, false)
     ∧ (ready.rt 383).windows.find? (fun w => eventDue ready w .endw) = none)),
   (let q : MvQueued := { tick := 0, at_ := 0, kind := 0, lane := 0, slot := 0, rt := 0, k := 0, j := 0, chain := 0, datum := (0, 0) }
   let s (n : Nat) : State := later 1 { ready with cores := [(0, { state := .running, wait := true, queue := List.replicate n q })] }
   decide (mvValid { window 2 with mv := 2 ^ 16 }.mv = true ∧ ((s 1).core (coreOfRt 0)).state = .running
     ∧ (((s 1).core 0).queue.filter (fun e => e.lane == laneOfRt 0 && e.slot == 0 % 2)).length < 16
     ∧ 16 ≤ (((s 16).core 0).queue.filter (fun e => e.lane == laneOfRt 0 && e.slot == 0 % 2)).length
     ∧ ((s 1).core 0).queue = [q] ∧ readyGroup (s 1) 0 = some (groupKey q) ∧ readyGroup ready 0 = none)),
   (let s : State := later 87 { ready with cores := [(0, { wins := [mvWindow] })] }
   decide ((s.core (coreOfRt 0)).wins.filter (fun w => w.rt == 0 && overBudget (stTick s) w) = [mvWindow]
     ∧ (s.core (coreOfRt 1)).wins.filter (fun w => w.rt == 1 && overBudget (stTick s) w) = []))].all id = true := by decide +kernel

theorem met_MarverScalars : [
   [0x00, 0x01, 0x02, 0x03, 0x04, 0x05, 0x06, 0x07, 0x08, 0x09, 0x0A, 0x2A, 0x2B].all (fun o => fetches (coreAt (o * 2 ^ 58) {}) 23 (o * 2 ^ 58) && iOp (o * 2 ^ 58) == o),
   (let s (n : Nat) := (coreAt 0 { a := [(0, n)] }).core 23
   decide (tget 0 (s 0).a (iXa 0) = 0 ∧ tget 0 (s 1).a (iXa 0) ≠ 0 ∧ (tget 0 (s 1).a (iXa 0) + 65535) % 65536 = 0
     ∧ (tget 0 (s 0).a (iXa 0) + 65535) % 65536 ≠ 0)),
   (let bad : State := { coreAt 0 {} with mem := { errs := [(progAddr 23 0, 7)] } }
   decide ((0x33, Instr.mvNop 23) ∉ marverInstrs 23 ∧ (0x00, Instr.mvNop 23) ∈ marverInstrs 23 ∧ coreRuns ready 23 = false
     ∧ ((coreAt 0 { wait := true }).core 23).wait = true ∧ 2 * (coreAt 0 {}).now + 1 < ((coreAt 0 { cycle := 2 }).core 23).cycle
     ∧ coreRuns bad 23 = true ∧ (bad.core 23).wait = false ∧ (bad.core 23).cycle ≤ 2 * bad.now + 1
     ∧ badWord (maskOf bad.mem (progAddr 23 (bad.core 23).pc)) = true
     ∧ badWord (maskOf (coreAt 0 {}).mem (progAddr 23 0)) = false ∧ iOp (delivered (tget 0 ((coreAt 0 {}).core 23).prog 0) 0) ≠ 0x31
     ∧ [0, 1, 2].map (fun n => ((coreAt 0 { rpt := n }).core 23).rpt) = [0, 1, 2] ∧ ((coreAt 0 {}).core 23).stop = false))].all id = true := by decide +kernel

theorem met_MarverVectors : [
   [0x10, 0x11, 0x12, 0x13, 0x14, 0x15, 0x16, 0x17, 0x18, 0x26].all (fun o => fetches (coreAt (o * 2 ^ 58) {}) 23 (o * 2 ^ 58) && iOp (o * 2 ^ 58) == o),
   ((List.range 8).all (fun l => !bit ((coreAt 0 { lp := 2, datum := [(1, some (3, 4))] }).core 23).lp l
     || tget none ((coreAt 0 { lp := 2, datum := [(1, some (3, 4))] }).core 23).datum l == some (3, 4))),
   cleanReads (coreAt 0 {}) (xReads (coreAt 0 {}) 23 0) && cleanReads (coreAt 0 {}) (yReads (coreAt 0 {}) 23 0)].all id = true := by decide +kernel

theorem met_MarverAccumulators : [
   [0x20, 0x21, 0x22, 0x23, 0x24, 0x25, 0x28, 0x29].all (fun o => fetches (coreAt (o * 2 ^ 58) {}) 23 (o * 2 ^ 58) && iOp (o * 2 ^ 58) == o),
   cleanReads (coreAt 0 {}) (yReads (coreAt 0 {}) 23 0)
   && cleanReads (coreAt 0 {}) (xReads (coreAt 0 {}) 23 0 ++ yReads (coreAt 0 {}) 23 0)].all id = true := by decide +kernel

theorem met_MarverOutputs : [
   [0x30, 0x31].all (fun o => fetches (coreAt (o * 2 ^ 58) {}) 23 (o * 2 ^ 58) && iOp (o * 2 ^ 58) == o),
   (let x : Core := { wins := [mvWindow], cur := [(0, some (0, 0))] }
   decide (curWin ({} : Core) 0 = none ∧ curWin x 0 = some mvWindow ∧ mvWindow.pub = none ∧ wDest mvWindow.prof ≠ 2 ∧ mvDbEn mvWindow.cfg = false
     ∧ mvEvtMask mvWindow.cfg = 0 ∧ mvRecEn mvWindow.cfg = false ∧ mvRecEn { mvWindow with cfg := 2 ^ 18 }.cfg = true
     ∧ ({ mvWindow with pub := some (0, 0) } : MvWindow).pub.isSome = true ∧ mvWindow.lost = false
     ∧ ({ mvWindow with lost := true } : MvWindow).lost = true))].all id = true := by decide +kernel

theorem met_BiasCommands_commands : [
   runs { op := 0x0610 } (frame 0x0610 16 (32 * 2 ^ 32)) ready biasGroupCfgBody,
   turned { op := 0x0610 } (frame 0x0610 240 (2 ^ 1920 - 1)) ready biasGroupCfgBody,
   runs { op := 0x0611 } (frame 0x0611 32 (0xC00 + 2 ^ 88)) ready biasCfgBody,
   turned { op := 0x0611 } (frame 0x0611 240 (2 ^ 1920 - 1)) ready biasCfgBody,
   runs { op := 0x0612 } (frame 0x0612 16 0xC00) ready (biasCtlBody 0),
   turned { op := 0x0612 } (frame 0x0612 240 (2 ^ 1920 - 1)) ready (biasCtlBody 0),
   runs { op := 0x0612 } (frame 0x0612 16 (0xC00 + 2 ^ 16)) { ready with bias := [(0, { state := .run })] } (biasCtlBody 1),
   turned { op := 0x0612 } (frame 0x0612 240 (2 ^ 1920 - 1)) ready (biasCtlBody 1),
   runs { op := 0x0612 } (frame 0x0612 16 (0xC00 + 2 ^ 17)) { ready with bias := [(0, { state := .run })] } (biasCtlBody 2),
   turned { op := 0x0612 } (frame 0x0612 240 (2 ^ 1920 - 1)) ready (biasCtlBody 2),
   writesNv { op := 0x0613 } (frame 0x0613 16 (0xC00 + 2 ^ 96)) ready (fun k s => tidOk (fld k.blk 0 16) && tidKind (fld k.blk 0 16) == 3 && rsvOk k.blk [(18, 14), (52, 12), (84, 12), (116, 12)] && fld k.blk 96 20 != 0
     && mayChange k.who (bcOwner s (bcOfTid (fld k.blk 0 16))) && !nvInhibit s),
   runs { op := 0x0614 } (frame 0x0614 32 0xC00) ready biasStatusBody,
   turned { op := 0x0614 } (frame 0x0614 240 (2 ^ 1920 - 1)) ready biasStatusBody].all id = true := by decide +kernel

theorem met_BiasLimiter : [
   (let x : Bias := { target := 3, dgWin := 0 }
   decide (slowNow ready = true ∧ slowNow (later 1 ready) = false ∧ 0 ≤ rateOf x ∧ x.accum ≤ x.target * 256 ∧ 0 ≤ rateOf { x with target := -3 }
     ∧ ({ x with target := -3 } : Bias).target * 256 ≤ x.accum ∧ x.accum ≠ x.target * 256 ∧ x.dgWin = 0 ∧ (1 : Int) ≠ x.present
     ∧ ({} : Bias).dgWin ≠ 0 ∧ majorBits (2 ^ 14) ≠ majorBits ({} : Bias).present)),
   (let s (x : Bias) : State := { ready with bias := [(383, x)] }
   let h := s { holdEnd := some 1 }
   let c := s { clampAt := some 1, ranging := some (2, none, none) }
   let r := s { ranging := some (2, some 5, some 1) }
   decide ((h.bc 383).holdEnd = some 1 ∧ 1 ≤ (later 1 h).now ∧ h.now < 1 ∧ (h.bc 0).holdEnd = none ∧ (c.bc 383).clampAt = some 1
     ∧ (c.bc 383).ranging = some (2, none, none) ∧ ((s { clampAt := some 1 }).bc 383).ranging = none ∧ (c.bc 0).clampAt = none
     ∧ (r.bc 383).ranging = some (2, some 5, some 1)))].all id = true := by decide +kernel

theorem met_BiasQueues : [
   (let s (x : Bias) : State := later 768 { ready with bias := [(383, x)] }
   let a := s { state := .run }
   decide (slowNow a = true ∧ a.st / slowSamples % groupN a (bcTile 383) = 0 ∧ (a.bc 383).updated ≠ a.now + 1 ∧ (a.bc 383).state = .run
     ∧ (a.bc 383).clamping = false ∧ (a.bc 383).repcnt = 0 ∧ 0 < ((s { state := .run, repcnt := 1 }).bc 383).repcnt
     ∧ (a.bc 0).state ≠ .run ∧ slowNow (later 1 a) = false)),
   (let u := readDesc (queued 4) 256
   let q := u.spool 256
   let e := ringRead u q q.ci
   let v := leNat e.1
   let z := readDesc (queued 9) 256
   decide (((queued 4).bc 0).qspool ≠ 0 ∧ ((queued 4).bc 0).trig = false ∧ ((queued 4).bc 0).qspool = 256 ∧ spoolLive q = true ∧ queueVisible q = true
     ∧ fld v 64 64 ≤ (queued 4).st ∧ e.2.1 = false ∧ rsvOk v queueRsv = true ∧ (queued 9).st < fld (leNat (ringRead z (z.spool 256) 0).1) 64 64)),
   (let e := emission 7 3 0 5
   let s : State := { queued 4 with emits := [e] }
   let f : State := { s with spools := [(256, { onChip with cls := 2, pi := 16 })] }
   let u := dropOps s (tidOfBc 0) 7
   decide (dueOps s (tidOfBc 0) 7 = [e] ∧ (s.bc 0).qspool ≠ 0 ∧ canPut u (s.spool 256) = true ∧ (f.spool 256).valid = true
     ∧ (f.spool 256).resize = none ∧ canPut (dropOps f (tidOfBc 0) 7) (f.spool 256) = false ∧ dueOps (emitting [e]) (tidOfBc 0) 7 = [e]
     ∧ ((emitting [e]).bc 0).qspool = 0))].all id = true := by decide +kernel

theorem met_SpoolCommands_commands : [
   runs { op := 0x0A01 } (frame 0x0A01 40 (256 + (2 + 4 * 2 ^ 2 + 2 ^ 10) * 2 ^ 128)) ready spoolCreateBody,
   turned { op := 0x0A01 } (frame 0x0A01 240 (2 ^ 1920 - 1)) ready spoolCreateBody,
   runs { op := 0x0A02 } (frame 0x0A02 32 (256 + 4 * 2 ^ 19)) { ready with spools := [(256, onChip)] } spoolResizeEmptyBody,
   turned { op := 0x0A02 } (frame 0x0A02 240 (2 ^ 1920 - 1)) ready spoolResizeEmptyBody,
   runs { op := 0x0A02 } (frame 0x0A02 32 (256 + 2 ^ 16 + 4 * 2 ^ 19)) { ready with spools := [(256, onChip)] } spoolResizeDrainBody,
   turned { op := 0x0A02 } (frame 0x0A02 240 (2 ^ 1920 - 1)) ready spoolResizeDrainBody,
   runs { op := 0x0A02 } (frame 0x0A02 32 (256 + 2 * 2 ^ 16 + 4 * 2 ^ 19)) { ready with spools := [(256, onChip)] } spoolResizeDiscardBody,
   turned { op := 0x0A02 } (frame 0x0A02 240 (2 ^ 1920 - 1)) ready spoolResizeDiscardBody,
   runs { op := 0x0A03 } (frame 0x0A03 8 256) { ready with spools := [(256, onChip)] } spoolDeleteBody,
   runs { op := 0x0A04 } (frame 0x0A04 240 0) ready spoolStatusBody,
   turned { op := 0x0A04 } (frame 0x0A04 240 (2 ^ 1920 - 1)) ready spoolStatusBody].all id = true := by decide +kernel

theorem met_SpoolMovement : [
   (let s := withSpool onChip
   let f := withSpool { onChip with pi := 16, full := true }
   decide ((s.spool 256).valid = true ∧ (s.spool 256).cls ≠ 0 ∧ (s.spool 256).cls ≠ 3 ∧ (s.spool 256).order = false ∧ (s.spool 257).valid = false
     ∧ spoolLive (s.spool 256) = true ∧ (s.spool 256).resize = none ∧ (s.spool 256).waiting = [] ∧ canPut s (s.spool 256) = true
     ∧ canPut f (f.spool 256) = false ∧ (f.spool 256).full = true ∧ ringReady f (f.spool 256) = true ∧ (s.spool 256).target = 2
     ∧ (s.spool 256).notify = 0 ∧ (s.spool 256).resv = [] ∧ occupancy (s.spool 256) = 0 ∧ occupancy (f.spool 256) ≠ 0
     ∧ spoolLive (f.spool 256) = true ∧ (f.spool 256).notify = 0)),
   (let r : Resv := { tag := 0, tile := none, entry := some [1] }
   let s := withSpool { onChip with order := true, resv := [r], waiting := [(0, [1])] }
   let u := s.modSpool 256 (fun q => { q with resv := [] })
   let f := withSpool { onChip with pi := 16, resv := [r], waiting := [(0, [1])] }
   decide ((s.spool 256).resize = none ∧ spoolLive (s.spool 256) = true ∧ (s.spool 256).resv = [r] ∧ r.cancelled = false ∧ r.entry = some [1]
     ∧ canPut u (u.spool 256) = true ∧ (s.spool 256).target ≠ 1 ∧ (f.spool 256).resv = [r]
     ∧ canPut (f.modSpool 256 (fun q => { q with resv := [] })) ((f.modSpool 256 (fun q => { q with resv := [] })).spool 256) = false
     ∧ (s.spool 256).waiting = [(0, [1])] ∧ canPut s (s.spool 256) = true ∧ canPut f (f.spool 256) = false
     ∧ (s.dmaEngine 0).run = none ∧ (f.spool 256).fault = false)),
   (let r : DmaRun := { spool := 0, desc := 2 ^ 200, status := .ok, resv := .arrival, hop := 0, noRecord := false, waits := true }
   let s (b : Bool) : State := { withSpool { onChip with waiting := [(0, [1])], fault := b } with dma := [(0, { run := some r })] }
   let u := putRecorded ((s false).modSpool 256 (fun q => { q with waiting := [] })) 256 [1]
   decide (((s false).spool 256).waiting = [(0, [1])] ∧ canPut (s false) ((s false).spool 256) = true ∧ ((s false).spool 256).resize = none
     ∧ (u.dmaEngine 0).run = some r ∧ engineWaits u 256 0 = true ∧ ((s true).spool 256).fault = true
     ∧ ({ s true with dma := [] }.dmaEngine 0).run = none)),
   (let r : Resize := { log2n := 5, target := 2, base := 0x800041000000, func := 0, tag := 0, deadline := 1 }
   let s := withSpool { onChip with resize := some r }
   let z := withSpool { onChip with resize := some r, pi := 1 }
   decide ((s.spool 256).resize = some r ∧ occupancy (s.spool 256) = 0 ∧ occupancy (z.spool 256) ≠ 0 ∧ r.deadline ≤ (later 1 z).now ∧ z.now < r.deadline))].all id = true := by decide +kernel

theorem met_DmaTransfers : [
   (let s := withSpool { onChip with cls := 0, engine := 31, pi := 1 }
   let r := ringRead s (s.spool 256) (s.spool 256).ci
   let h : State := { withSpool { onChip with cls := 0, engine := 31, pi := 1, target := 0 } with fns := [(0, { busMaster := true })] }
   decide ((h.dmaEngine 31).run = none ∧ h.spools.map (fun x => x.1) = [256] ∧ dmaReady h 31 256 = true ∧ (h.spool 256).target = 0
     ∧ (s.dmaEngine 31).run = none ∧ s.spools.map (fun x => x.1) = [256] ∧ dmaReady s 31 256 = true ∧ (s.spool 256).target ≠ 0 ∧ r.2.1 = false)),
   (let r : DmaRun := { spool := 256, desc := 1 + 2 ^ 16, status := .ok, resv := .arrival, hop := 0, noRecord := true }
   let s : State := { dram with dma := [(0, { run := some r })] }
   decide ((s.dmaEngine 0).run.isSome = true ∧ (s.dmaEngine 0).run = some r ∧ mHook r.desc = false ∧ mHook (r.desc + 2 ^ 11) = true
     ∧ mOp r.desc = 1 ∧ mSrcHost r.desc = false ∧ mDstHost r.desc = false ∧ asleep s (mEnds r.desc) = false ∧ s.mem.hdrs = []
     ∧ r.gone = false ∧ { r with gone := true }.gone = true)),
   (let host : HostReply := { bytes := [], poisoned := [], failAt := some 0, error := .timeout }
   let r : DmaRun := { spool := 256, desc := 1 + 2 ^ 16 + 2 ^ 200, status := .ok, resv := .arrival, hop := 0, noRecord := false }
   let s (b : Spool) : State := { dram with spools := [(256, b)], dma := [(0, { run := some r })] }
   let waits (s : State) : Bool :=
     let m : Moved := transfer s (spoolWho (s.spool r.spool)) r.desc .dma host
     let u := handOn m.next (mCpl r.desc) 0 true r.resv (cplRecord 0 s.st r m)
     decide ((m.next.spool (mCpl r.desc)).waiting.length < (u.spool (mCpl r.desc)).waiting.length)
   let h : State := { s onChip with fns := [(0, { busMaster := true, timeoutOff := true })] }
   decide (r.waits = false ∧ { r with waits := true }.waits = true ∧ stalls (s onChip) r host = false
     ∧ stalls h { r with desc := r.desc + 2 ^ 8 } host = true ∧ r.noRecord = false ∧ waits (s onChip) = false
     ∧ waits (s { onChip with pi := 16, full := true }) = true))].all id = true := by decide +kernel

theorem met_LinkAndWeaveCommands_commands : [
   runs { op := 0x0D01, pf0 := true } (frame 0x0D01 32 (2 ^ 32)) ready linkCfgBody,
   turned { op := 0x0D01, pf0 := true } (frame 0x0D01 240 (2 ^ 1920 - 1)) ready linkCfgBody,
   runs { op := 0x0D02, pf0 := true } (frame 0x0D02 16 0) { ready with links := [(0, { en := true, tx := .up, rx := .up, spareEn := true })] } (linkCtlBody 0 (fun s k _ => [(!(s.link k).en || !s.time.refclk, .linkDown)]) (fun s k _ => startLink s k)),
   turned { op := 0x0D02, pf0 := true } (frame 0x0D02 240 (2 ^ 1920 - 1)) ready (linkCtlBody 0 (fun s k _ => [(!(s.link k).en || !s.time.refclk, .linkDown)]) (fun s k _ => startLink s k)),
   runs { op := 0x0D02, pf0 := true } (frame 0x0D02 16 4) { ready with links := [(0, { en := true, tx := .up, rx := .up, spareEn := true })] } (linkCtlBody 1 sleepChecks (fun s k _ => beginSleep s k false false)),
   turned { op := 0x0D02, pf0 := true } (frame 0x0D02 240 (2 ^ 1920 - 1)) ready (linkCtlBody 1 sleepChecks (fun s k _ => beginSleep s k false false)),
   runs { op := 0x0D02, pf0 := true } (frame 0x0D02 16 8) { ready with links := [(0, { en := true, tx := .up, rx := .up, spareEn := true })] } (linkCtlBody 2 sleepChecks (fun s k _ => beginSleep s k true false)),
   turned { op := 0x0D02, pf0 := true } (frame 0x0D02 240 (2 ^ 1920 - 1)) ready (linkCtlBody 2 sleepChecks (fun s k _ => beginSleep s k true false)),
   runs { op := 0x0D02, pf0 := true } (frame 0x0D02 16 12) { ready with links := [(0, { tx := .sleepLight })] } (linkCtlBody 3 (fun s k _ => [((s.link k).tx != .sleepLight && (s.link k).tx != .sleepDeep, .busy)]) (fun s k _ => wakeLink s k)),
   turned { op := 0x0D02, pf0 := true } (frame 0x0D02 240 (2 ^ 1920 - 1)) ready (linkCtlBody 3 (fun s k _ => [((s.link k).tx != .sleepLight && (s.link k).tx != .sleepDeep, .busy)]) (fun s k _ => wakeLink s k)),
   runs { op := 0x0D02, pf0 := true } (frame 0x0D02 16 16) ready (linkCtlBody 4 (fun _ _ _ => []) (fun s k _ => (List.range 5).foldl (fun s l => s.modLane k l (fun y => { y with frozen := false })) s)),
   turned { op := 0x0D02, pf0 := true } (frame 0x0D02 240 (2 ^ 1920 - 1)) ready (linkCtlBody 4 (fun _ _ _ => []) (fun s k _ => (List.range 5).foldl (fun s l => s.modLane k l (fun y => { y with frozen := false })) s)),
   runs { op := 0x0D02, pf0 := true } (frame 0x0D02 16 20) { ready with links := [(0, { en := true, tx := .up, rx := .up, spareEn := true })] } (linkCtlBody 5 (fun s k _ => [(!(s.link k).spareEn || (s.link k).sparePos.isSome, .busy), ((s.link k).tx != .up, .linkDown)])
    (fun s k pos => s.modLink k (fun x => { x with spareReq := some (pos, false) }))),
   turned { op := 0x0D02, pf0 := true } (frame 0x0D02 240 (2 ^ 1920 - 1)) ready (linkCtlBody 5 (fun s k _ => [(!(s.link k).spareEn || (s.link k).sparePos.isSome, .busy), ((s.link k).tx != .up, .linkDown)])
    (fun s k pos => s.modLink k (fun x => { x with spareReq := some (pos, false) }))),
   runs { op := 0x0D02, pf0 := true } (frame 0x0D02 16 24) { ready with links := [(0, { en := true, tx := .up, rx := .up, spareEn := true })] } (linkCtlBody 6 (fun s k _ => [((s.link k).tx != .up, .linkDown)]) (fun s _ _ => s)),
   turned { op := 0x0D02, pf0 := true } (frame 0x0D02 240 (2 ^ 1920 - 1)) ready (linkCtlBody 6 (fun s k _ => [((s.link k).tx != .up, .linkDown)]) (fun s _ _ => s)),
   runs { op := 0x0D03 } (frame 0x0D03 240 0) ready linkStatusBody,
   turned { op := 0x0D03 } (frame 0x0D03 240 (2 ^ 1920 - 1)) ready linkStatusBody,
   runs { op := 0x0D04, pf0 := true } (frame 0x0D04 16 (2 ^ 10 + 2 ^ 64)) { ready with time := { mode := .set, root := true } } admitRootBody,
   turned { op := 0x0D04, pf0 := true } (frame 0x0D04 240 (2 ^ 1920 - 1)) ready admitRootBody,
   runs { op := 0x0D04, pf0 := true } (frame 0x0D04 8 2) ready admitLeaveBody,
   turned { op := 0x0D04, pf0 := true } (frame 0x0D04 240 (2 ^ 1920 - 1)) ready admitLeaveBody,
   runs { op := 0x0D05 } (frame 0x0D05 240 0) ready weaveStatusBody,
   turned { op := 0x0D05 } (frame 0x0D05 240 (2 ^ 1920 - 1)) ready weaveStatusBody,
   runs { op := 0x0D04, pf0 := true } (frame 0x0D04 16 (1 + 2 ^ 10 + 2 ^ 64)) { State.reset with gaf := ready.gaf, links := [(0, { tx := .up, rx := .up, peerDev := 1, peerLink := 1, peerProto := 3, peerAdm := true })] } admitMemberBody].all id = true := by decide +kernel

theorem met_LinkAndWeaveCommands : [
   (let c := frame 0x0D04 16 (1 + 2 ^ 10 + 2 ^ 64)
   let k := callOf { op := 0x0D04, pf0 := true } c (acceptState c ready) []
   admits { op := 0x0D04, pf0 := true } c ready [] &&
   decide (fld k.blk 0 2 = 1 ∧ admitForm k.blk = false ∧ (acceptState c ready).weave.admission = none ∧ (acceptState c ready).time.refclk = true
     ∧ ledgerBlocked (acceptState c ready) = false ∧ memberFail (acceptState c ready) k.blk = some (6, .busy)))].all id = true := by decide +kernel

theorem met_LinkFrames : [
   (let s (r : RxState) : State := { ready with links := [(3, { rx := r, rxok := r == .up })] }
   decide (((s .off).link 3).rx = .off ∧ ((s .deskew).link 3).rx = .deskew ∧ ((s .deskew).link 3).rxok = false ∧ ((s .up).link 3).rx = .up)
   && !isTraining 0 && isTraining ((List.range 4).map (spreadBits tMark)).sum
   && (descramble ((s .up).link 3) 0).1 == 0 && (descramble ((s .up).link 3) 1).1 == 1
   && (descramble ((s .up).link 3) (0x101877 * 2 ^ 560)).1 == 0x101877 * 2 ^ 560
   && !isTraining 1 && !isTraining (0x101877 * 2 ^ 560)),
   (let s (t : TxState) : State := { ready with links := [(3, { tx := t, wakeAt := 1, unacked := [(0, 0)] })] }
   decide ([TxState.train, .wake, .up, .off, .sleepLight, .sleepDeep].map (fun t => ((s t).link 3).tx) = [.train, .wake, .up, .off, .sleepLight, .sleepDeep]
     ∧ (s .wake).now < ((s .wake).link 3).wakeAt ∧ ((s .wake).link 3).wakeAt ≤ (later 1 (s .wake)).now ∧ ((s .up).link 3).unacked ≠ []
     ∧ ((s .up).link 3).rx ≠ .sleep ∧ ((s .up).link 3).progress + 256 ≤ (later 256 (s .up)).now ∧ (s .up).now < ((s .up).link 3).progress + 256))].all id = true := by decide +kernel

theorem met_LinkMessagesAndLanes : [
   (let s (x : Link) : State := { ready with links := [(3, x)] }
   let v : View := { tick := 0, mask := 1, refdep := false, hops := 1 }
   decide (((s { rx := .up }).link 3).rx = .up ∧ ((s { spareEn := true }).link 3).spareEn = true ∧ ((s { spareEn := true }).link 3).spareAt = none
     ∧ ((s { spareEn := true }).link 3).txSpare = none ∧ ((s { spareEn := true, txSpare := some 2 }).link 3).txSpare = some 2
     ∧ (1 : BitVec 64).toNat ≠ 0 ∧ (1 : BitVec 6).toNat ≠ 0 ∧ (ready.link 3).stamped = none ∧ ((s { stamped := some (7, 9) }).link 3).stamped = some (7, 9) ∧ ready.weave.admission = none
     ∧ ready.weave.role = .none ∧ ready.weave.role ≠ .member ∧ ((s { view := some v }).link 3).view = some v
     ∧ (∀ e ∈ (s { view := some v }).links, (s { view := some v }).link e.1 = e.2)
     ∧ viewAged (later 3000001 (s { view := some v })) { view := some v } = true
     ∧ viewAged (later 3000000 (s { view := some v })) { view := some v } = false
     ∧ ((later 3000001 (s { view := some v })).link 3).rx ≠ .aligned)),
   (let s (x : Link) : State := { ready with links := [(3, x)] }
   let a := s { rx := .align }
   let z := s { rx := .align, lanes := [(0, { slips := 149 })] }
   let one := s { rx := .align, lanes := [(0, { found := true }), (1, { found := true }), (2, { found := true })] }
   decide (((s { rx := .acquire }).link 3).rx = .acquire ∧ (ready.link 3).rx ≠ .acquire ∧ (a.link 3).rx = .align
     ∧ (searched (a.link 3)).contains 0 = true ∧ (a.lane 3 0).found = false ∧ (a.lane 3 0).slips < 149 ∧ 149 ≤ (z.lane 3 0).slips
     ∧ (searched (a.link 3)).all (fun l => ((a.modLane 3 0 (fun y => { y with found := true })).lane 3 l).found) = false
     ∧ (one.lane 3 3).found = false
     ∧ (searched (one.link 3)).all (fun l => ((one.modLane 3 3 (fun y => { y with found := true })).lane 3 l).found) = true)),
   (let s (x : Link) : State := { ready with links := [(3, x)] }
   let e := s { en := true, tx := .train }
   let u := s { rx := .up, tx := .up, spareEn := true, lanes := [(0, { window := 1001 })] }
   decide ((e.link 3).en = true ∧ comingUp (e.link 3) = true ∧ comingUp (u.link 3) = false ∧ (s { en := true, tx := .up, rx := .deskew }).link 3 = { en := true, tx := .up, rx := .deskew }
     ∧ comingUp { en := true, tx := .up, rx := .deskew } = true ∧ (e.link 3).startAt + 75000000 ≤ (later 75000000 e).now
     ∧ e.now < (e.link 3).startAt + 75000000 ∧ (u.link 3).rx = .up ∧ spareFree (u.link 3) = true ∧ spareFree ((s { rx := .up }).link 3) = false
     ∧ ((s { rx := .up, sparePos := some 0 }).link 3).sparePos.isSome = true ∧ (u.link 3).sparePos = none
     ∧ (u.link 3).laneErr < (u.lane 3 0).window ∧ (u.lane 3 1).window ≤ (u.link 3).laneErr ∧ (u.link 3).eyeMin ≤ 15 ∧ 14 < (u.link 3).eyeMin
     ∧ (u.link 3).adapt = true ∧ (u.lane 3 (rxLane (u.link 3) 0)).frozen = false)),
   (let s (n : Nat) : State := { ready with weave := { role := .member, config := 2 ^ 14, refTrim := n } }
   let o (n : Nat) (th : Int) : State := { ready with weave := { role := .member, config := 2 ^ 14, refTrim := n, offset := th } }
   decide (0 < (o 1 3).weave.offset ∧ 0 < (o 1 3).weave.refTrim ∧ (o 0 3).weave.refTrim = 0 ∧ (o 1 (-3)).weave.offset < 0
     ∧ (o 6143 (-3)).weave.refTrim = 6143 ∧ (s 1).weave.offset = 0 ∧ (s 1).weave.role = .member ∧ wTrack (s 1).weave.config = true ∧ 0 < (s 1).weave.refTrim ∧ (s 6143).weave.refTrim ≤ 6143
     ∧ (s 0).weave.refTrim = 0 ∧ (s 1).weave.refTrim < 6143 ∧ (s 6143).weave.refTrim = 6143))].all id = true := by decide +kernel

theorem met_Shuttles : [
   (let s (m : Nat) (l : Link) : State := { ready with spools := [(256, { onChip with cls := 3, pi := 1 })], ringMem := [(0, 1)], links := [(0, l)], weave := { role := .root, config := 2 * 2, members := m } }
   let v : View := { tick := 0, mask := 3, refdep := false, hops := 1 }
   let x : Link := { tx := .up, peerAdm := true, view := some v }
   let p := (s 3 x).spool 256
   let e := leNat (ringRead (s 3 x) p p.ci).1
   let host : State := { s 3 x with spools := [(256, { onChip with cls := 3, pi := 1, target := 0 })], fns := [(0, { busMaster := true })] }
   decide (ringReady (s 3 x) p = true ∧ ringReady host (host.spool 256) = true ∧ (host.spool 256).target = 0
     ∧ ((1 : BitVec 512).toNat = 1) ∧ (host.spool 257).cls ≠ 3 ∧ ((s 3 { x with peerAdm := false }).link 0).peerAdm = false
     ∧ [TxState.off, .sleepLight, .sleepDeep, .wake].map (fun t => ((s 3 { x with tx := t }).link 0).tx) = [.off, .sleepLight, .sleepDeep, .wake]
     ∧ p.cls = 3 ∧ p.target ≠ 0 ∧ spoolLive p = true ∧ occupancy p ≠ 0 ∧ (ringRead (s 3 x) p p.ci).2.1 = false ∧ fld e 0 6 = 1
     ∧ bit (view (s 3 x)) 1 = true ∧ bit (view (s 0 x)) 1 = false ∧ route (s 3 x) 1 = some 0 ∧ ((s 3 x).link 0).tx = .up
     ∧ ((s 3 x).link 0).sleepReq = none ∧ ((s 3 x).link 0).local_ = none ∧ ((s 3 x).link 0).peerAdm = true
     ∧ ((s 3 { x with local_ := some 0 }).link 0).local_.isSome = true ∧ (ringRead { s 3 x with mem := { errs := [(0x800041000000, 7)] } } p p.ci).2.1 = true
     ∧ bit (view { s 3 x with ringMem := [] }) 0 = true ∧ route (s 3 x) 0 = none))].all id = true := by decide +kernel

theorem met_ScrubCommandsAndPasses_commands : [
   runs { op := 0x0C01 } (frame 0x0C01 240 0) ready memInfoBody,
   turned { op := 0x0C01 } (frame 0x0C01 240 (2 ^ 1920 - 1)) ready memInfoBody,
   runs { op := 0x0C02 } (frame 0x0C02 32 (2 ^ 128)) { ready with mem := { chans := [(0, { capacity := 2 ^ 30 })] } } scrubStartBody,
   turned { op := 0x0C02 } (frame 0x0C02 240 (2 ^ 1920 - 1)) ready scrubStartBody,
   runs { op := 0x0C02 } (frame 0x0C02 32 4) { ready with mem := { scrubs := [(0, { run := some { func := 0, tag := 9, part := 0, mode := 0, rate := 8, start := 0, lines := 1, accept := 0 } })] } } scrubAbortBody,
   turned { op := 0x0C02 } (frame 0x0C02 240 (2 ^ 1920 - 1)) ready scrubAbortBody,
   runs { op := 0x0C03 } (frame 0x0C03 240 0) ready scrubStatusBody,
   turned { op := 0x0C03 } (frame 0x0C03 240 (2 ^ 1920 - 1)) ready scrubStatusBody,
   runs { op := 0x0C04 } (frame 0x0C04 240 0) ready hotwordReadBody,
   turned { op := 0x0C04 } (frame 0x0C04 240 (2 ^ 1920 - 1)) ready hotwordReadBody].all id = true := by decide +kernel

theorem met_ScrubCommandsAndPasses : [
   (let r : ScrubRun := { func := 0, tag := 9, part := 0, mode := 0, rate := 8, start := 0, lines := 1, accept := 0 }
   let s : State := { ready with mem := { scrubs := [(4, { run := some r })], errs := [(0, 1), (8, poisonSyn)] } }
   decide ((s.scrub 4).run = some r ∧ r.aborted = false ∧ { r with aborted := true }.aborted = true ∧ (s.scrub 0).run = none)
   && ((storedClass s 16).1 == .clean) && ((storedClass s 8).1 == .poisoned) && (match (storedClass s 0).1 with | .corrected _ => true | _ => false))].all id = true := by decide +kernel

theorem met_WallCommandsAndActiveSet_commands : [
   runs { op := 0x0E01, pf0 := true } (frame 0x0E01 240 0) ready wallCfgPortBody,
   turned { op := 0x0E01, pf0 := true } (frame 0x0E01 240 (2 ^ 1920 - 1)) ready wallCfgPortBody,
   runs { op := 0x0E01, pf0 := true } (frame 0x0E01 64 (1 + 1000 * 2 ^ 32 + 1000 * 2 ^ 96)) ready wallCfgDomainBody,
   turned { op := 0x0E01, pf0 := true } (frame 0x0E01 240 (2 ^ 1920 - 1)) ready wallCfgDomainBody,
   runs { op := 0x0E02, pf0 := true } (frame 0x0E02 240 0) ready wallSwitchBody,
   turned { op := 0x0E02, pf0 := true } (frame 0x0E02 240 (2 ^ 1920 - 1)) ready wallSwitchBody,
   runs { op := 0x0E03 } (frame 0x0E03 240 0) ready wallStatusBody,
   turned { op := 0x0E03 } (frame 0x0E03 240 (2 ^ 1920 - 1)) ready wallStatusBody].all id = true := by decide +kernel

theorem met_WallCommandsAndActiveSet : [
   (let s (x : WallTime) : State := { ready with wallTime := x }
   decide (slowNow (later 1 ready) = false ∧ slowNow ready = true ∧ ready.wallTime.update = false ∧ ready.wallTime.step = false
     ∧ ready.wallTime.switch = none ∧ (s { update := true }).wallTime.update = true ∧ (s { step := true }).wallTime.step = true
     ∧ validNow ready = ready.wall.valid ∧ validNow (s { update := true }) = false
     ∧ validNow (s { update := true, doms := [(0, { state := .locked })] }) = true))].all id = true := by decide +kernel

theorem met_WallMessages : [
   (let a : Announce := { priority1 := 0, clockClass := 0, accuracy := 0, variance := 0, priority2 := 0, identity := 0, steps := 254, utcOffset := 0, ptpScale := false }
   let s : State := { ready with wallTime := { ports := [(1, { en := true, ipv4 := 5, ipv6 := 6 })], doms := [(1, { en := true, port := 1, master := some a, state := .acquire, syncs := 16, delays := 16 })] } }
   decide ((s.dom 1).en = true ∧ (s.tport (s.dom 1).port).en = true ∧ s.power.core = true ∧ a.steps.toNat < 255
     ∧ ({ a with steps := 255 } : Announce).steps.toNat = 255 ∧ (s.dom 1).master.isSome = true ∧ (ready.dom 0).en = false
     ∧ (s.dom 1).state = .acquire ∧ 16 ≤ (s.dom 1).syncs ∧ 16 ≤ (s.dom 1).delays ∧ (ready.dom 0).state ≠ .locked
     ∧ nirdinRuns s = true ∧ { s with gaf := { s.gaf with state := .halted } }.gaf.state = .halted ∧ (s.dom 1).reqAt = none
     ∧ ((s.modDom 1 (fun x => { x with reqAt := some 0, peer := true })).dom 1).reqAt.isSome = true
     ∧ ((s.modDom 1 (fun x => { x with reqAt := some 0, peer := true })).dom 1).peer = true ∧ (s.dom 1).peer = false
     ∧ (s.tport 1).ipv4 = 5 ∧ (s.tport 1).ipv4 ≠ 7 ∧ (s.tport 1).ipv6 = 6 ∧ (s.tport 1).ipv6 ≠ 7 ∧ (5 : BitVec 32) ≠ 0)),
   (let s : State := { ready with wallTime := { doms := [(0, { state := .acquire, syncs := 15 }), (1, { state := .locked })] } }
   decide ((s.dom 0).state = .acquire ∧ (s.dom 0).syncs < 16 ∧ (s.dom 1).state = .locked))].all id = true := by decide +kernel

theorem met_Housekeeping_commands : [
   runs { op := 0x1101 } (frame 0x1101 48 (2 ^ 8 + 2 ^ 32)) ready hkCfgBody,
   turned { op := 0x1101 } (frame 0x1101 240 (2 ^ 1920 - 1)) ready hkCfgBody,
   runs { op := 0x1102 } (frame 0x1102 8 0) { ready with hk := { units := [(0, { refok := true })] } } hkCalBody,
   turned { op := 0x1102 } (frame 0x1102 240 (2 ^ 1920 - 1)) ready hkCalBody,
   runs { op := 0x1102 } (frame 0x1102 8 4) { ready with hk := { units := [(0, { refok := true })] } } hkCalRestoreBody,
   turned { op := 0x1102 } (frame 0x1102 240 (2 ^ 1920 - 1)) ready hkCalRestoreBody,
   runs { op := 0x1103 } (frame 0x1103 240 0) ready hkStatusBody,
   turned { op := 0x1103 } (frame 0x1103 240 (2 ^ 1920 - 1)) ready hkStatusBody,
   runs { op := 0x1104 } (frame 0x1104 16 0xC00) { ready with hk := { units := [(0, { refok := true })] }, bias := [(0, { state := .test })] } openWireBody,
   turned { op := 0x1104 } (frame 0x1104 240 (2 ^ 1920 - 1)) ready openWireBody].all id = true := by decide +kernel

theorem met_Housekeeping : [
   (let c : Conv := { kind := .reg, chan := 0, tick := 0, st := 0, refnok := false }
   let s (x : HkUnit) : State := { ready with hk := { units := [(1, x)] } }
   let r := s { running := some c, refok := false }
   let i := s { injNext := some 32, cfg := 2 ^ 8 + 2 ^ 32 + 2 ^ 13 }
   decide (slotNow ready = true ∧ slotNow (later 1 ready) = false ∧ (r.hku 1).running = some c ∧ c.tick + 750 ≤ (later 750 r).now
     ∧ r.now < c.tick + 750 ∧ (ready.hku 0).running = none ∧ (ready.hku 0).calRun ≠ some 192 ∧ (i.hku 1).injNext = some 32 ∧ i.st < 32
     ∧ 32 ≤ (later 1 i).st ∧ (i.hku 1).inj = none ∧ cInjLen (i.hku 1).cfg ≠ 0 ∧ fld (i.hku 1).cfg 352 32 = 0 ∧ (r.hku 1).refok = false
     ∧ slotNow (later 750000 r) = true ∧ (r.hku 1).refAt + 750000 ≤ (later 750000 r).now ∧ r.now < (r.hku 1).refAt + 750000 ∧ (ready.hku 0).cal = none)),
   (let s (p : Int) : State := later 1 { ready with hk := { units := [(1, { cal := some (0, 9, false), calRun := some 192, sumP := p, sumM := -p })] } }
   decide (((s 0).hku 1).cal = some (0, 9, false) ∧ ((s 0).hku 1).calRun = some 192 ∧ slotNow (s 0) = false ∧ calGood (calValues ((s 0).hku 1)) = false
     ∧ calGood (calValues ((s 7549747).hku 1)) = true))].all id = true := by decide +kernel

/-- The hypotheses on the Spool's descriptor and on every Spool: it is intact; no Spool of engine 0 is ready. -/
theorem met_spools_intact : readDesc (withSpool onChip) 256 = withSpool onChip
    ∧ readDesc (withSpool { onChip with cls := 0, engine := 31, pi := 1 }) 256 = withSpool { onChip with cls := 0, engine := 31, pi := 1 }
    ∧ readDesc (withSpool { onChip with cls := 3, pi := 1 }) 256 = withSpool { onChip with cls := 3, pi := 1 }
    ∧ readDesc (withSpool { onChip with cls := 3, pi := 1, target := 0 }) 256 = withSpool { onChip with cls := 3, pi := 1, target := 0 }
    ∧ readDesc (withSpool { onChip with cls := 0, engine := 31, pi := 1, target := 0 }) 256
      = withSpool { onChip with cls := 0, engine := 31, pi := 1, target := 0 }
    ∧ (ready.dmaEngine 0).run = none ∧ ∀ n, dmaReady ready 0 n = false :=
  ⟨rfl, rfl, rfl, rfl, rfl, rfl, fun _ => rfl⟩

/-- A well-kept state from which a step answers a next state. -/
theorem met_WellKeptByEveryStep : Kept ready ∧ ∃ t, step { ready with pending := [.perstDeassert] } = .next t :=
  ⟨⟨⟨by decide, by decide⟩, by decide, by decide⟩, _, rfl⟩

/-! ### The classes of received frames (15 R397): folds that evaluate step by step -/

/-- A left fold that looks at the key of each value before it goes on. -/
def strict {β : Type} (key : β → Nat) (f : β → Nat → β) : β → List Nat → β
  | r, [] => r
  | r, i :: l => if key (f r i) = 0 then strict key f (f r i) l else strict key f (f r i) l

theorem strict_eq {β : Type} (key : β → Nat) (f : β → Nat → β) (l : List Nat) :
    ∀ r, l.foldl f r = strict key f r l := by
  induction l with
  | nil => intro r; rfl
  | cons i l ih => intro r; simp [strict, ih]

theorem gfPow_eq (a n : Nat) : gfPow a n = (List.range n).foldl (fun r _ => gfMul r a) 1 := by
  induction n with
  | zero => rfl
  | succ n ih => simp [List.range_succ, gfPow, ih]

/-- `bchClass` with its folds strict. -/
def classOf (f : Nat) : WordClass :=
  let v := bchPoly f
  let syn := (List.range 8).map (fun j =>
    strict id (fun r i => gfMul r (gfPow 2 (j + 1)) ^^^ (v / 2 ^ i % 2)) 0 (List.range 600).reverse)
  if syn.all (fun x => x == 0) then .clean
  else
    let r := locator syn
    let inv := strict id (fun r _ => gfMul r 2) 1 (List.range 1022)
    let roots := (strict (fun p : Nat × List Nat => p.1) (fun p i =>
      let e := r.1.foldr (fun c a => gfMul a p.1 ^^^ c) 0
      (gfMul p.1 inv, if e = 0 then i :: p.2 else p.2)) (1, []) (List.range 600)).2
    if r.2 > 4 || roots.length != r.2 then .ue
    else .corrected (roots.map (fun i => 2 ^ (if 40 ≤ i then i - 40 else 560 + i))).sum

theorem bchClass_eq (f : Nat) : bchClass f = classOf f := by
  simp only [bchClass, classOf, gfEval, ← strict_eq, gfPow_eq]

theorem gfEval_zero (x : Nat) : gfEval 0 x = 0 := by
  have h (l : List Nat) : l.foldl (fun r i => gfMul r x ^^^ (0 / 2 ^ i % 2)) 0 = 0 := by
    induction l with
    | nil => rfl
    | cons i l ih =>
      have z : gfMul 0 x = 0 := by
        have h (l : List Nat) : l.foldl (fun r i => if x / 2 ^ i % 2 = 1 then gfDouble r ^^^ 0 else gfDouble r) 0 = 0 := by
          induction l with
          | nil => rfl
          | cons i l ih => simpa [gfDouble] using ih
        exact h _
      simpa [z] using ih
  exact h _

/-! Frames of the three classes: no error, one wrong bit, and a word of the code that corrects two bits but not
of the one that corrects four. -/

theorem met_LinkFrames_clean : bchClass 0 = .clean := by
  have h : bchPoly 0 = 0 := by decide +kernel
  simp only [bchClass, h, gfEval_zero]
  rfl

theorem met_LinkFrames_corrected : bchClass 1 = .corrected 1 := by rw [bchClass_eq]; decide +kernel

theorem met_LinkFrames_uncorrectable : bchClass (0x101877 * 2 ^ 560) = .ue := by rw [bchClass_eq]; decide +kernel

end Sys2Proof.Tests
end

section
/-! SUPPORT. The power-on reset (R38, R41, R45, R334, R452, R522): O2. -/
namespace Sys2Proof.Machine

/-! ### Every table is empty at reset, so every numbered object reads as its default -/

@[simp] theorem reset_fn (f : Nat) : State.reset.fn f = {} := rfl
@[simp] theorem reset_quad (q : Nat) : State.reset.quad q = {} := rfl
@[simp] theorem reset_tile (t : Nat) : State.reset.tile t = {} := rfl
@[simp] theorem reset_link (k : Nat) : State.reset.link k = {} := rfl
@[simp] theorem reset_bc (b : Nat) : State.reset.bc b = {} := rfl
@[simp] theorem reset_loom (l : Nat) : State.reset.loom l = {} := rfl
@[simp] theorem reset_core (c : Nat) : State.reset.core c = {} := rfl

/-- Settles O2: every numbered object reads as its default, and the default has the values of the spec. -/
theorem resetState : Obligations.ResetState := by
  refine ⟨rfl, rfl, rfl, rfl, rfl, fun f => ?mailboxes, rfl, rfl, rfl, fun q => ?quadrants, fun t => ?tiles, fun k => ?links, rfl,
    fun b => ?bias, fun t => rfl, fun k => rfl, rfl, fun l => ?looms, fun c => ?cores, fun a => rfl, rfl, rfl, rfl, rfl, rfl, rfl⟩
  case mailboxes => simp
  case quadrants => simp
  case tiles => simp [tileActive]
  case links => simp
  case bias => simp
  case looms => simp
  case cores => simp

end Sys2Proof.Machine
end

section
/-! SUPPORT. The host's reads of BAR0 and its accesses through BAR2 (02 R45, 12 R319, R320): O16. -/

namespace Sys2Proof.Machine

/-! ### Reads of BAR0 (R45, R319) -/

theorem exec_stNowLoRead_of_open {s : State} {r : BarRead} (h : barOpen s r.func = true) :
    exec (.stNowLoRead r) s = .next (bar0Read s r.func r.offset r.width) :=
  congrArg Host.Outcome.next (if_pos h)

theorem bar0Read_stNowLo (s : State) (f : Nat) :
    bar0Read s f 0x300 4 = (stLatch s f).send (.readData f (leBytes 4 (readSt s % 2 ^ 32)) []) := by
  have hv : bar0Value (stLatch s f) f 0x300 4 = some (readSt s % 2 ^ 32) := by
    simp [bar0Value, bar0Word, fld, stLatch, readSt, coarse, State.quad, State.st]
  simp [bar0Read, hv]

theorem bar0Read_served {s : State} {f off w v : Nat} (h : off ≠ 0x300) (hv : bar0Value s f off w = some v) :
    bar0Read s f off w = s.send (.readData f (leBytes w v) []) := by
  simp [bar0Read, h, hv]

theorem bar0Read_unsupported {s : State} {f off w : Nat} (h : off ≠ 0x300) (hv : bar0Value s f off w = none) :
    bar0Read s f off w = s.send (.readUr f) := by
  simp [bar0Read, h, hv]

/-- The two 64-bit registers of BAR0 have no 32-bit word, so an aligned word access needs no case for them. -/
theorem bar0Value_word (s : State) (f : Nat) {off : Nat} (h : off % 4 = 0) :
    bar0Value s f off 4 = bar0Word s f off := by
  by_cases hr : f = 0 ∧ (off = 0x408 ∨ off = 0x410)
  · obtain ⟨rfl, rfl | rfl⟩ := hr <;> simp [bar0Value, bar0Word]
  · simp [bar0Value, h, hr]

theorem bar0Value_of_bad_access (s : State) (f : Nat) {off w : Nat} (h : (w ≠ 4 ∧ w ≠ 8) ∨ off % w ≠ 0) :
    bar0Value s f off w = none := by
  simp [bar0Value, h]

theorem bar0Word_doorbells (s : State) (f : Nat) {off : Nat} (h1 : 0x80000 ≤ off) (h2 : off < 0x100000) :
    bar0Word s f off = some 0 := by
  have lower (k : Nat) (hk : k < 0x80000) : off ≠ k := by omega
  have registers : ¬ off < 0x280 := by omega
  have mailbox : ¬ off < 0x12000 ∧ ¬ off < 0x1C000 := by omega
  simp [bar0Word, lower, registers, mailbox, h1, h2]

theorem intStatus_eq (x : Fn) : intStatus x = b2n (x.rspPi != x.rspCi) + 2 * b2n (x.evtPi != x.evtCi)
    + 4 * b2n (x.audPi != x.audCi) + 8 * b2n x.deny.on + 65536 * x.deny.cnt := by
  have hb (b : Bool) : b2n b % 2 = b2n b := by cases b <;> rfl
  simp only [intStatus, pack, flagAt, pow_one, hb]
  omega

/-! ### BAR2 (R28, R320, R321) -/

/-- Poisoned words read back with the poison syndrome, whichever of them is asked. -/
theorem maskOf_poisonWords (s : State) (ws : List Nat) (w : Nat) (h : w ∈ ws ∨ maskOf s.mem w = poisonSyn) :
    maskOf (poisonWords s ws).mem w = poisonSyn := by
  unfold poisonWords
  induction ws generalizing s with
  | nil => simpa using h
  | cons x r ih =>
    refine ih _ ?_
    by_cases hx : x = w
    · subst hx
      right
      simp [maskOf, poisonSyn]
    · rcases h with h | h
      · left
        simpa [Ne.symm hx] using h
      · right
        simpa [maskOf, tget_tset, hx] using h

theorem exec_bar2Read_of_open {s : State} {o n : Nat} (h : barOpen s 0 = true) (hn : o + n ≤ bar2Size s) :
    exec (.bar2Read o n) s = .next (bar2Read s o n) :=
  congrArg Host.Outcome.next (if_pos (by simp [h, hn]))

theorem exec_bar2Write_of_open {s : State} {o : Nat} {d : List Byte} (tlp : Tlp) (h : barOpen s 0 = true)
    (hn : o + d.length ≤ bar2Size s) : exec (.bar2Write o d tlp) s = .next (bar2Write s o d tlp) :=
  congrArg Host.Outcome.next (if_pos (by simp [h, hn]))

theorem bar2Read_outside {s : State} {o n : Nat} (h : bar2Ok s o n = false) : bar2Read s o n = s.send (.readUr 0) := by
  simp [bar2Read, h]

theorem bar2Read_denied {s : State} {o n : Nat} (h : bar2Ok s o n = true)
    (hm : ddrMayChange s { part := 0, secure := true } (bar2Addr s o) n = false) :
    bar2Read s o n = (denyHit s).send (.readData 0 (List.replicate n 0) []) := by
  simp [bar2Read, h, hm]

theorem bar2Read_allowed {s : State} {o n : Nat} (h : bar2Ok s o n = true)
    (hm : ddrMayChange s { part := 0, secure := true } (bar2Addr s o) n = true) :
    let a := bar2Addr s o
    let h := takeHeader s 0 .pcie a
    let x := bitmapFixAll h.1 a n
    bar2Read s o n = if h.2 then h.1.send (.readData 0 (List.replicate n 0) (wordsOf a n))
      else (memEvents x.1 0 .pcie (x.2 ++ (ddrRead x.1 a n).2.2)).send
        (.readData 0 (ddrRead x.1 a n).1 (ddrRead x.1 a n).2.1) := by
  simp [bar2Read, h, hm]

theorem bar2Write_outside {s : State} {o : Nat} {d : List Byte} (h : bar2Ok s o d.length = false) :
    bar2Write s o d .sound = s.send (.aer 0 .unsupported) := by
  simp [bar2Write, tlpFault, h, unsupported, aer]

theorem bar2Write_denied {s : State} {o : Nat} {d : List Byte} (h : bar2Ok s o d.length = true)
    (hm : ddrMayChange s { part := 0, secure := true } (bar2Addr s o) d.length = false) :
    bar2Write s o d .sound = denyHit s := by
  simp [bar2Write, tlpFault, h, hm]

theorem bar2Write_allowed {s : State} {o : Nat} {d : List Byte} (h : bar2Ok s o d.length = true)
    (hm : ddrMayChange s { part := 0, secure := true } (bar2Addr s o) d.length = true) :
    let h := takeHeader s 0 .pcie (bar2Addr s o)
    let w := ddrWrite h.1 (bar2Addr s o) d
    bar2Write s o d .sound = if h.2 then h.1 else memEvents w.1 0 .pcie w.2 := by
  simp [bar2Write, tlpFault, h, hm]

/-- A poisoned write that is not lost ends with the poison pattern in every word it touches. -/
theorem bar2Write_poisoned {s : State} {o : Nat} {d : List Byte} (h : bar2Ok s o d.length = true)
    (hm : ddrMayChange s { part := 0, secure := true } (bar2Addr s o) d.length = true)
    (hl : (takeHeader s 0 .pcie (bar2Addr s o)).2 = false) :
    ∃ u, bar2Write s o d .poisoned = poisonWords u (wordsOf (bar2Addr s o) d.length) := by
  simp only [bar2Write, tlpFault, h, hm, hl]
  exact ⟨_, rfl⟩

/-- Settles O16: each access is one equation of the read or write it performs. -/
theorem hostWindows : Obligations.HostWindows := by
  refine ⟨fun s f ho => ?stNowLo, fun s f off ho ha hne => ?word, fun s f off w ho hbad hne => ?badAccess,
    fun s v ho => ?base, fun s o n ho hn => ?read, fun s o d ho hn => ?write⟩
  case stNowLo =>
    refine ⟨(stLatch s f).send (.readData f (leBytes 4 (readSt s % 2 ^ 32)) []), ?_, rfl, ?_, ?_, ?_, fun g hg => ?_, rfl⟩
    · rw [exec_stNowLoRead_of_open ho, bar0Read_stNowLo]
    · simp [stLatch, fld]
    · simp [stLatch, fld]
    · simp [stLatch, fld]
    · simp [stLatch, Ne.symm hg]
  case word =>
    refine ⟨?_, bar0Word_doorbells s f, rfl, rfl, rfl, rfl, congrArg some (intStatus_eq (s.fn f))⟩
    rw [exec_stNowLoRead_of_open ho]
    have hv := bar0Value_word s f ha
    cases hw : bar0Word s f off with
    | some v => rw [bar0Read_served hne (hv.trans hw)]
    | none => rw [bar0Read_unsupported hne (hv.trans hw)]
  case badAccess =>
    rw [exec_stNowLoRead_of_open ho, bar0Read_unsupported hne (bar0Value_of_bad_access s f hbad)]
  case base => exact congrArg Host.Outcome.next (if_pos ho)
  case read =>
    rw [exec_bar2Read_of_open ho hn]
    refine ⟨fun hok hm => ⟨fun hl => ?_, fun hl => ?_⟩, fun hok hm => ?_, fun hok => ?_⟩
    · exact congrArg Host.Outcome.next ((bar2Read_allowed hok hm).trans (if_neg (ne_true_of_eq_false hl)))
    · exact congrArg Host.Outcome.next ((bar2Read_allowed hok hm).trans (if_pos hl))
    · exact congrArg Host.Outcome.next (bar2Read_denied hok hm)
    · exact congrArg Host.Outcome.next (bar2Read_outside hok)
  case write =>
    simp only [exec_bar2Write_of_open _ ho hn]
    refine ⟨fun hok hm => ⟨?_, fun hl => ?_⟩, fun hok hm => ?_, fun hok => ?_⟩
    · exact congrArg Host.Outcome.next (bar2Write_allowed hok hm)
    · obtain ⟨u, hu⟩ := bar2Write_poisoned hok hm hl
      exact ⟨_, congrArg Host.Outcome.next hu, fun x hx => maskOf_poisonWords u _ x (.inl hx)⟩
    · exact congrArg Host.Outcome.next (bar2Write_denied hok hm)
    · exact congrArg Host.Outcome.next (bar2Write_outside hok)

end Sys2Proof.Machine
end

section
/-! SUPPORT. Epochs, the loss and the return of REFCLK, and the count check (02 R39 to R44): O30. -/

namespace Sys2Proof.Machine

/-! ### Who leaves time and the Weave alone

Sample Time with its state, and the device's place in the Weave, are written by few functions of the machine. `timeWeave`
reads both at once, and each function that writes neither has one frame rule about it. -/

def timeWeave (s : State) : TimeSt × Weave := (s.time, s.weave)

theorem timeWeave_foldl {α : Type} {f : State → α → State} (h : ∀ s a, timeWeave (f s a) = timeWeave s) (l : List α) (s : State) :
    timeWeave (l.foldl f s) = timeWeave s := by
  induction l generalizing s with
  | nil => rfl
  | cons a r ih => rw [List.foldl_cons, ih, h]

section Fields
variable (s : State)

@[simp] theorem timeWeave_with_ledger (x : Ledger) : timeWeave { s with ledger := x } = timeWeave s := rfl
@[simp] theorem timeWeave_with_mem (x : Mem) : timeWeave { s with mem := x } = timeWeave s := rfl
@[simp] theorem timeWeave_with_ringMem (x : List Host.Cell) : timeWeave { s with ringMem := x } = timeWeave s := rfl
@[simp] theorem timeWeave_with_wall (x : WallSet) : timeWeave { s with wall := x } = timeWeave s := rfl
@[simp] theorem timeWeave_with_power (x : Power) : timeWeave { s with power := x } = timeWeave s := rfl
@[simp] theorem timeWeave_with_lehr (x : Lehr) : timeWeave { s with lehr := x } = timeWeave s := rfl
@[simp] theorem timeWeave_with_warp (x : Warp) : timeWeave { s with warp := x } = timeWeave s := rfl

@[simp] theorem timeWeave_setFn (f : Nat) (x : Fn) : timeWeave (s.setFn f x) = timeWeave s := rfl
@[simp] theorem timeWeave_modFn (f : Nat) (g : Fn → Fn) : timeWeave (s.modFn f g) = timeWeave s := rfl
@[simp] theorem timeWeave_modThread (t : Nat) (g : Thread → Thread) : timeWeave (s.modThread t g) = timeWeave s := rfl
@[simp] theorem timeWeave_modBobbin (t : Nat) (g : Bobbin → Bobbin) : timeWeave (s.modBobbin t g) = timeWeave s := rfl
@[simp] theorem timeWeave_modSpool (n : Nat) (g : Spool → Spool) : timeWeave (s.modSpool n g) = timeWeave s := rfl
@[simp] theorem timeWeave_modTile (t : Nat) (g : Tile → Tile) : timeWeave (s.modTile t g) = timeWeave s := rfl
@[simp] theorem timeWeave_modRt (r : Nat) (g : RThread → RThread) : timeWeave (s.modRt r g) = timeWeave s := rfl
@[simp] theorem timeWeave_modPair (p : Nat) (g : Pair → Pair) : timeWeave (s.modPair p g) = timeWeave s := rfl
@[simp] theorem timeWeave_modLoom (l : Nat) (g : Loom → Loom) : timeWeave (s.modLoom l g) = timeWeave s := rfl
@[simp] theorem timeWeave_modBc (b : Nat) (g : Bias → Bias) : timeWeave (s.modBc b g) = timeWeave s := rfl
@[simp] theorem timeWeave_modCore (c : Nat) (g : Core → Core) : timeWeave (s.modCore c g) = timeWeave s := rfl
@[simp] theorem timeWeave_modLink (k : Nat) (g : Link → Link) : timeWeave (s.modLink k g) = timeWeave s := rfl
@[simp] theorem timeWeave_modDom (d : Nat) (g : Domain → Domain) : timeWeave (s.modDom d g) = timeWeave s := rfl
@[simp] theorem timeWeave_send (x : Sent) : timeWeave (s.send x) = timeWeave s := rfl
@[simp] theorem timeWeave_assertLine (l : Line) : timeWeave (assertLine s l) = timeWeave s := rfl
@[simp] theorem timeWeave_uncore (n : Nat) : timeWeave (uncore s n) = timeWeave s := rfl
@[simp] theorem timeWeave_clearErrs (a n : Nat) : timeWeave (clearErrs s a n) = timeWeave s := rfl
@[simp] theorem timeWeave_setLine (a : Nat) (v : Bool) : timeWeave (setLine s a v) = timeWeave s := rfl
@[simp] theorem timeWeave_killDecisions (t : Nat) : timeWeave (killDecisions s t) = timeWeave s := rfl
@[simp] theorem timeWeave_dropAsserts (t : Nat) : timeWeave (dropAsserts s t) = timeWeave s := rfl
@[simp] theorem timeWeave_taintLoom (l : Nat) : timeWeave (taintLoom s l) = timeWeave s := rfl
@[simp] theorem timeWeave_wallHit (b : Nat) : timeWeave (wallHit s b) = timeWeave s := rfl
@[simp] theorem timeWeave_setLehr (f : Lehr → Lehr) : timeWeave (setLehr s f) = timeWeave s := rfl

end Fields

/-! ### Interrupts, notices and host writes -/

@[simp] theorem timeWeave_msix (s : State) (f v : Nat) : timeWeave (msix s f v) = timeWeave s := by
  simp [msix, sendVector, apply_ite timeWeave]

@[simp] theorem timeWeave_notice (s : State) (f : Nat) (aud : Bool) (kind : Nat) (p : List Byte) :
    timeWeave (notice s f aud kind p) = timeWeave s := by
  simp [notice, apply_ite timeWeave]

@[simp] theorem timeWeave_event (s : State) (owner kind : Nat) (p : List Byte) :
    timeWeave (event s owner kind p) = timeWeave s := by
  simp only [event]
  split <;> simp

@[simp] theorem timeWeave_postRsp (s : State) (f : Nat) (o : Outst) (dup : Bool) (st : Status) (ap : Nat) (out : List Byte) :
    timeWeave (postRsp s f o dup st ap out) = timeWeave s := by
  simp [postRsp]

@[simp] theorem timeWeave_hostWrites (u : Nat) (relaxed : Bool) (k : Nat) (s : State) (f a : Nat) (d : List Byte)
    (bad : List Nat) (off : Nat) : timeWeave (hostWrites u relaxed k s f a d bad off) = timeWeave s := by
  induction k generalizing s a d off with
  | zero => rfl
  | succ k ih => simp [hostWrites, apply_ite timeWeave, ih]

@[simp] theorem timeWeave_hostStore (s : State) (f a : Nat) (d : List Byte) : timeWeave (hostStore s f a d) = timeWeave s := by
  simp [hostStore]

/-! ### Writes of DDR -/

@[simp] theorem timeWeave_bitmapFix (s : State) (a : Nat) : timeWeave (bitmapFix s a).1 = timeWeave s := by
  unfold bitmapFix
  split
  · dsimp only
    split <;> rfl
  · rfl

@[simp] theorem timeWeave_openRegion (s : State) (a : Nat) : timeWeave (openRegion s a) = timeWeave s := by
  simp [openRegion, apply_ite timeWeave]

@[simp] theorem timeWeave_writeLine (s : State) (a : Nat) (d : List Byte) : timeWeave (writeLine s a d).1 = timeWeave s := by
  simp [writeLine, apply_ite Prod.fst, apply_ite timeWeave]

@[simp] theorem timeWeave_ddrWrite (s : State) (a : Nat) (d : List Byte) : timeWeave (ddrWrite s a d).1 = timeWeave s := by
  have aux (k : Nat) : ∀ s a d, timeWeave (ddrWriteAux k s a d).1 = timeWeave s := by
    induction k with
    | zero => intros; rfl
    | succ k ih => intros; simp [ddrWriteAux, apply_ite Prod.fst, apply_ite timeWeave, ih]
  exact aux _ s a d

/-! ### Spools -/

@[simp] theorem timeWeave_ringWrite (s : State) (p : Spool) (i : Nat) (e : List Byte) :
    timeWeave (ringWrite s p i e).1 = timeWeave s := by
  simp only [ringWrite]
  split <;> simp

@[simp] theorem timeWeave_notify (s : State) (n o : Nat) : timeWeave (notify s n o) = timeWeave s := by
  have vector (u : State) (p : Spool) : timeWeave (spoolVector u p) = timeWeave u := by
    simp only [spoolVector]
    split <;> simp
  simp [notify, apply_ite timeWeave, vector]

@[simp] theorem timeWeave_putEntry (s : State) (n : Nat) (e : List Byte) : timeWeave (putEntry s n e) = timeWeave s := by
  simp [putEntry, putEntryE]

@[simp] theorem timeWeave_faultSpool (s : State) (n : Nat) : timeWeave (faultSpool s n) = timeWeave s := rfl

@[simp] theorem timeWeave_overflow (s : State) (n k : Nat) : timeWeave (overflow s n k) = timeWeave s := rfl

@[simp] theorem timeWeave_errRecord (s : State) (part : Nat) (r : List Byte) :
    timeWeave (errRecord s part r) = timeWeave s := by
  simp [errRecord, apply_ite timeWeave]

@[simp] theorem timeWeave_readDesc (s : State) (n : Nat) : timeWeave (readDesc s n) = timeWeave s := by
  simp only [readDesc]
  split
  · rfl
  · split <;> simp

/-! ### The Ledger -/

theorem timeWeave_spillEntry {s t : State} {e : List Byte} (h : spillEntry s e = some t) : timeWeave t = timeWeave s := by
  simp only [spillEntry] at h
  split at h
  · cases h
    simp
  · cases h

@[simp] theorem timeWeave_spillAux (k : Nat) (s : State) : timeWeave (spillAux k s) = timeWeave s := by
  induction k generalizing s with
  | zero => rfl
  | succ k ih =>
    unfold spillAux
    split
    · split
      · rw [ih, timeWeave_with_ledger]
      · split
        next t ht => rw [ih, timeWeave_with_ledger, timeWeave_spillEntry ht]
        next => rfl
    · rfl

@[simp] theorem timeWeave_appendOne (s : State) (o : Origin) (st : Nat) (x : LedgerItem) :
    timeWeave (appendOne s o st x) = timeWeave s := by
  simp [appendOne, nvInhibited, apply_ite timeWeave]

@[simp] theorem timeWeave_auditNotices (s : State) (o : Origin) (e : Entry) : timeWeave (auditNotices s o e) = timeWeave s := by
  simp [auditNotices, timeWeave_foldl, apply_ite timeWeave]

@[simp] theorem timeWeave_ledgerAppend (s : State) (o : Origin) (st : Nat) (x : LedgerItem) :
    timeWeave (ledgerAppend s o st x) = timeWeave s := by
  simp only [ledgerAppend]
  repeat' split
  all_goals simp [spill]

@[simp] theorem timeWeave_ledgerNote (s : State) (o : Origin) (ty id action dig : Nat) :
    timeWeave (ledgerNote s o ty id action dig) = timeWeave s := by
  simp [ledgerNote]

/-- The late answer of a refusal: it has no output to store. -/
theorem timeWeave_answer_refusal (s : State) (f tag : Nat) {st : Status} (ap : Nat) (out : List Byte) (items : List LedgerItem)
    (h : st ≠ .ok) : timeWeave (answer s f tag st ap out items) = timeWeave s := by
  simp only [answer, h, if_false, ne_eq, not_false_eq_true, if_true]
  split
  · rfl
  · split
    · rfl
    · split <;> simp [apply_ite timeWeave]

/-! ### Looms, threads and tiles -/

@[simp] theorem timeWeave_markRunning (s : State) (l cause : Nat) : timeWeave (markRunning s l cause) = timeWeave s := by
  simp [markRunning, markShot, apply_ite timeWeave]

@[simp] theorem timeWeave_markLooms (s : State) (p : Nat → Bool) (cause : Nat) :
    timeWeave (markLooms s p cause) = timeWeave s := by
  simp [markLooms, timeWeave_foldl]

@[simp] theorem timeWeave_cutRun (s : State) (l : Nat) (mark : Bool) (flag : Nat) :
    timeWeave (cutRun s l mark flag) = timeWeave s := by
  simp [cutRun, shotEnded, apply_ite timeWeave]

@[simp] theorem timeWeave_stopPlayer (s : State) (t : Nat) : timeWeave (stopPlayer s t) = timeWeave s := by
  simp only [stopPlayer, releaseRing]
  split <;> simp [apply_ite timeWeave]

@[simp] theorem timeWeave_cancelResv (s : State) (n : Nat) (r : Reserved) : timeWeave (cancelResv s n r) = timeWeave s := by
  unfold cancelResv
  split <;> simp

@[simp] theorem timeWeave_abandonWindows (s : State) (t : Nat) : timeWeave (abandonWindows s t) = timeWeave s := by
  simp [abandonWindows, pairHit, timeWeave_foldl, apply_ite timeWeave]

@[simp] theorem timeWeave_dropMvRecords (s : State) (t : Nat) : timeWeave (dropMvRecords s t) = timeWeave s := by
  simp [dropMvRecords, timeWeave_foldl]

@[simp] theorem timeWeave_setTile (s : State) (t : Nat) (x : TState) : timeWeave (setTile s t x) = timeWeave s := by
  simp [setTile, stateChanged, apply_ite timeWeave]

@[simp] theorem timeWeave_endActivity (s : State) (t : Nat) : timeWeave (endActivity s t) = timeWeave s := by
  simp [endActivity, timeWeave_foldl]

@[simp] theorem timeWeave_holdTiles (s : State) : timeWeave (holdTiles s) = timeWeave s := by
  simp [holdTiles, leaveActive, timeWeave_foldl, apply_ite timeWeave]

/-! ### Stops, bias and wall time -/

@[simp] theorem timeWeave_stopLogged (s : State) (scope : Option Nat) (cause : Nat) :
    timeWeave (stopLogged s scope cause) = timeWeave s := by
  simp [stopLogged]

@[simp] theorem timeWeave_biasHold (s : State) : timeWeave (biasHold s) = timeWeave s := by
  rw [biasHold, allBias]
  apply timeWeave_foldl
  intro u b
  exact timeWeave_modBc u b _

@[simp] theorem timeWeave_refreshValid (s : State) : timeWeave (refreshValid s) = timeWeave s := by
  simp [refreshValid, wallEvt, apply_ite timeWeave]

@[simp] theorem timeWeave_wallEpoch (s : State) (old new : Nat) : timeWeave (wallEpoch s old new) = timeWeave s := by
  simp [wallEpoch, restartServo]

@[simp] theorem timeWeave_reanchor (s : State) (old new : Nat) : timeWeave (reanchor s old new) = timeWeave s := rfl

@[simp] theorem timeWeave_wakeHeld (s : State) (new : Nat) : timeWeave (wakeHeld s new) = timeWeave s := by
  simp [wakeHeld, timeWeave_foldl, apply_ite timeWeave]

@[simp] theorem timeWeave_linkChanged (s : State) (k : Nat) : timeWeave (linkChanged s k) = timeWeave s := by
  simp [linkChanged, linkNote, linkEvt, apply_ite timeWeave]

@[simp] theorem timeWeave_setTx (s : State) (k : Nat) (x : TxState) : timeWeave (setTx s k x) = timeWeave s := by
  simp [setTx, apply_ite timeWeave]

theorem time_eq_of_timeWeave {s t : State} (h : timeWeave t = timeWeave s) : t.time = s.time := congrArg Prod.fst h

/-! ### Links and admissions: who may move the slow-tick phase (R419, R425)

An admission in progress that fails takes back its slow-tick phase; nothing else about time changes when links start and stop. -/

def KeepsEpoch (s t : State) : Prop :=
  t.time = { s.time with slowPhase := t.time.slowPhase }
    ∧ (s.weave.admission = none → t.weave.admission = none ∧ t.time = s.time)

theorem KeepsEpoch.of_timeWeave {s t : State} (h : timeWeave t = timeWeave s) : KeepsEpoch s t := by
  obtain ⟨ht, hw⟩ := Prod.mk.inj h
  exact ⟨by rw [ht], fun ha => ⟨by rw [hw, ha], ht⟩⟩

theorem KeepsEpoch.trans {s t u : State} (h : KeepsEpoch s t) (h' : KeepsEpoch t u) : KeepsEpoch s u := by
  obtain ⟨ht, ha⟩ := h
  obtain ⟨ht', ha'⟩ := h'
  refine ⟨ht'.trans (by rw [ht]), fun hn => ?_⟩
  obtain ⟨htn, hte⟩ := ha hn
  obtain ⟨hun, hue⟩ := ha' htn
  exact ⟨hun, hue.trans hte⟩

theorem KeepsEpoch.refl (s : State) : KeepsEpoch s s := .of_timeWeave rfl

theorem KeepsEpoch.foldl {α : Type} {f : State → α → State} (h : ∀ s a, KeepsEpoch s (f s a)) (l : List α) (s : State) :
    KeepsEpoch s (l.foldl f s) := by
  induction l generalizing s with
  | nil => exact .refl s
  | cons a r ih => exact (h s a).trans (ih _)

theorem KeepsEpoch.ite {c : Prop} [Decidable c] {s t u : State} (ht : KeepsEpoch s t) (hu : KeepsEpoch s u) :
    KeepsEpoch s (if c then t else u) := by
  split
  · exact ht
  · exact hu

/-- A change of the Weave that leaves the admission. -/
theorem KeepsEpoch.with_weave (s : State) {w : Weave} (h : w.admission = s.weave.admission) :
    KeepsEpoch s { s with weave := w } :=
  ⟨rfl, fun hn => ⟨h.trans hn, rfl⟩⟩

theorem keepsEpoch_admitFail (s : State) (reason : Nat) {st : Status} (h : st ≠ .ok) :
    KeepsEpoch s (admitFail s reason st) := by
  unfold admitFail
  split
  next a ha =>
    refine KeepsEpoch.trans ?_ (.of_timeWeave (timeWeave_answer_refusal _ a.func a.tag 0 [] [] h))
    exact ⟨rfl, fun hn => absurd ha (by simp [hn])⟩
  next => exact .refl s

theorem keepsEpoch_admitDown (s : State) (k : Nat) : KeepsEpoch s (admitDown s k) := by
  unfold admitDown
  split
  · exact .ite (keepsEpoch_admitFail s 1 (by decide)) (.refl s)
  · exact .refl s

theorem keepsEpoch_setRx (s : State) (k : Nat) (r : RxState) : KeepsEpoch s (setRx s k r) := by
  refine .ite (.refl s) ?_
  have hw : KeepsEpoch s (if losesReference s k r then { s with weave := { s.weave with refLoss := some (s.now + 48) } } else s) :=
    .ite (.with_weave s rfl) (.refl s)
  exact hw.trans (.of_timeWeave (by simp [apply_ite timeWeave]))

theorem keepsEpoch_startLink (s : State) (k : Nat) : KeepsEpoch s (startLink s k) := by
  have hs : KeepsEpoch s (if (s.link k).tx = .off then loadScramblers s k else s) :=
    .ite (.of_timeWeave (by simp [loadScramblers])) (.refl s)
  exact ((hs.trans (keepsEpoch_admitDown _ k)).trans (.of_timeWeave (by simp))).trans (keepsEpoch_setRx _ k .acquire)

theorem keepsEpoch_stopLink (s : State) (k : Nat) : KeepsEpoch s (stopLink s k) :=
  ((keepsEpoch_admitDown s k).trans (.of_timeWeave (by simp))).trans (keepsEpoch_setRx _ k .off)

/-! ### The load of ST (R39) -/

theorem loadSt_time (s : State) (new : Nat) (root : Bool) : (loadSt s new root).time = { s.time with
    st := new, mode := .set, root := root, gen := min (s.time.gen + 1) 255, epochAt := none, wait := false
    loadedAt := s.time.tick + 1 } := by
  have h := time_eq_of_timeWeave (s := s) (t := wallEpoch (wakeHeld (reanchor s s.st new) new) s.st new) (by simp)
  simp only [loadSt, setTime, h]

/-! ### The loss of REFCLK (R42) -/

/-- What `loseRefclk` does before it takes ST back: outputs muted, shots ended, tiles held. -/
def quietForLoss (s : State) : State :=
  let u := stopLogged (markLooms (uncore (timeHit s tRefLoss) 24) (fun _ => true) cStop) none 9
  holdTiles ((List.range 96).foldl
    (fun s l => if (s.loom l).state = .running then cutRun s l false lRunLost else s) u)

/-- LOST, with ST taken back to the last slow-tick boundary that an edge of REFCLK gave. -/
def takeBackSt (s : State) : State :=
  setTime s (fun x => { x with
    refclk := false, mode := .lost, root := false, st := (x.st - 2 * slowSamples) / slowSamples * slowSamples, epochAt := none })

/-- Every link of the device stops, and no reference is awaited any more. -/
def linksLost (s : State) : State :=
  let u := (List.range 4).foldl (fun s k => if (s.link k).en then stopLink s k else s) s
  { u with weave := { u.weave with refLoss := none } }

theorem loseRefclk_eq (s : State) : loseRefclk s =
    refreshValid (biasHold (admitFail (linksLost (takeBackSt (quietForLoss s))) 1 .linkDown)) := by
  simp only [loseRefclk, linksLost, quietForLoss, takeBackSt]

theorem quietForLoss_time (s : State) : (quietForLoss s).time = { s.time with flags := hit s.now s.time.flags tRefLoss } :=
  time_eq_of_timeWeave (t := quietForLoss s) (s := timeHit s tRefLoss) (by
    simp [quietForLoss, timeWeave_foldl, apply_ite timeWeave])

theorem keepsEpoch_linksLost (s : State) : KeepsEpoch s (linksLost s) :=
  (KeepsEpoch.foldl (fun u k => .ite (keepsEpoch_stopLink u k) (.refl u)) _ s).trans (.with_weave _ rfl)

theorem keepsEpoch_loseRefclk (s : State) : KeepsEpoch (takeBackSt (quietForLoss s)) (loseRefclk s) := by
  rw [loseRefclk_eq]
  exact ((keepsEpoch_linksLost _).trans (keepsEpoch_admitFail _ 1 (st := .linkDown) (by decide))).trans (.of_timeWeave (by simp))

/-! ### The return of REFCLK (R42, R425) -/

theorem execRefclkReturn_keeps {s : State} (h : s.time.refclk = false) :
    ∃ t, exec .refclkReturn s = .next t ∧ KeepsEpoch (setTime s (fun x => { x with refclk := true })) t :=
  ⟨_, congrArg Host.Outcome.next (if_neg (by simp [h])),
    .foldl (fun v k => .ite (keepsEpoch_startLink v k) (.refl v)) _ _⟩

/-! ### The count check (R44) -/

theorem execTimeCountCheck_running {s : State} {q : Fin 4} (h : slowNow s = true) (hp : (s.quad q).pll = true) :
    exec (.timeCountCheck [q]) s = .next (beginStop (uncore (timeHit s tFault) 24) (some q.val) 7) := by
  refine congrArg Host.Outcome.next ?_
  simp [h, hp]

theorem execTimeCountCheck_idle {s : State} {l : List (Fin 4)} (h : slowNow s = false ∨ ∀ q ∈ l, (s.quad q).pll = false) :
    exec (.timeCountCheck l) s = .next s := by
  refine congrArg Host.Outcome.next ?_
  rcases h with h | h
  · exact if_pos (by simp [h])
  · refine ite_eq_left_iff.2 fun _ => ?_
    refine List.foldlRecOn _ _ (motive := (· = s)) rfl fun u hu n hn => ?_
    obtain ⟨q, hq, rfl⟩ : ∃ q ∈ l, q.val = n := by simpa [eq_comm] using hn
    subst hu
    exact if_pos (by simp [h q hq])

/-- Settles O30: the commands by their checks, the load and the loss of REFCLK by the frame rules of what they call. -/
theorem epochAndReference : Obligations.EpochAndReference := by
  refine ⟨?epoch, ?release, fun s a hn ha hle => ?load, fun s hr => ?loss, fun s hr => ?return_,
    fun s q hn hp => execTimeCountCheck_running hn hp, fun s l h => execTimeCountCheck_idle h⟩
  case epoch =>
    refine Completes.of_checks (fun _ _ => rfl) (fun _ _ => rfl) (fun k t h => ?_) (fun _ _ _ => rfl) (fun _ _ _ => rfl)
    simp only [Bool.and_eq_true, beq_iff_eq, bne_iff_ne, Option.isNone_iff_eq_none] at h
    obtain ⟨⟨⟨⟨hblk, hmode⟩, hat⟩, hadm⟩, hclk⟩ := h
    simp [epochHeld, hblk, hmode, hat, hadm, hclk]
  case release =>
    refine Completes.of_checks (fun _ _ => rfl) (fun _ _ => rfl) (fun k t h => ?_) (fun _ _ _ => rfl) (fun _ _ _ => rfl)
    simp only [Bool.and_eq_true, beq_iff_eq, Bool.not_eq_true'] at h
    obtain ⟨⟨hblk, hmode⟩, hbusy⟩ := h
    simp [hblk, hmode, hbusy]
  case load =>
    refine ⟨epochNote (loadSt s 0 true) (fromFn 0 { part := 0, secure := true }), ?_, ?_⟩
    · refine congrArg Host.Outcome.next ?_
      simp [hn, ha, Nat.not_lt.2 hle]
    · have ht : (epochNote (loadSt s 0 true) (fromFn 0 { part := 0, secure := true })).time = (loadSt s 0 true).time :=
        time_eq_of_timeWeave (by simp [epochNote])
      simp [ht, loadSt_time]
  case loss =>
    have hk := (keepsEpoch_loseRefclk s).1
    refine ⟨loseRefclk s, congrArg Host.Outcome.next (if_pos hr), ?_⟩
    rw [hk]
    simp [takeBackSt, setTime, quietForLoss_time, slowSamples]
  case return_ =>
    obtain ⟨t, ht, hk, ha⟩ := execRefclkReturn_keeps hr
    exact ⟨t, ht, hk, fun hn => (ha hn).2⟩

end Sys2Proof.Machine
end

section
/-! SUPPORT. Emissions that reach a thread (02 R51, 03 R72 to R84): O36. -/

namespace Sys2Proof.Machine

/-! ### Entries of the lists, read without a stored error (R370) -/

theorem byteClass_zero : byteClass 0 = .clean := by decide

@[simp] theorem byteBad_zero : byteBad 0 = false := by simp [byteBad, byteClass_zero]

@[simp] theorem deliveredByte_zero (b : Nat) : deliveredByte b 0 = b := by simp [deliveredByte, byteClass_zero]

theorem maskOf_of_no_errors {m : Mem} (h : m.errs = []) (w : Nat) : maskOf m w = 0 := by simp [maskOf, h]

/-- The bytes of a value, put together again. -/
theorem sum_bytes (v n : Nat) : ((List.range n).map (fun j => fld v (8 * j) 8 * 2 ^ (8 * j))).sum = v % 2 ^ (8 * n) := by
  induction n with
  | zero => simp [Nat.mod_one]
  | succ n ih =>
    rw [List.range_succ, List.map_append, List.sum_append, ih, pow_mul, pow_mul, Nat.mod_pow_succ, ← pow_mul]
    simp [fld, Nat.mul_comm]

theorem slicedValue_of_no_errors {m : Mem} (h : m.errs = []) (n a v : Nat) :
    slicedValue m n a v = some (v % 2 ^ (8 * n)) := by
  simp [slicedValue, maskOf_of_no_errors h, sum_bytes]

theorem slicedEvents_of_no_errors {m : Mem} (h : m.errs = []) (n a : Nat) : slicedEvents m n a = [] := by
  simp [slicedEvents, maskOf_of_no_errors h]

theorem entryRead_of_no_errors {s : State} (h : s.mem.errs = []) (t list i n w : Nat) (v : Int) :
    entryRead s t list i n w v = v := by
  have hlt : (v % 2 ^ (8 * n)).toNat < 2 ^ (8 * n) := by
    have hp : (0 : Int) < 2 ^ (8 * n) := by positivity
    have := Int.emod_nonneg v hp.ne'
    have := Int.emod_lt_of_pos v hp
    zify
    omega
  simp only [entryRead, slicedValue_of_no_errors h, Nat.mod_eq_of_lt hlt, if_pos]

theorem noteEntryRead_of_no_errors {s : State} (h : s.mem.errs = []) (t list i n : Nat) : noteEntryRead s t list i n = s := by
  simp [noteEntryRead, slicedValue_of_no_errors h, slicedEvents_of_no_errors h, memEvents]

theorem selectFreq_of_no_errors {s : State} (h : s.mem.errs = []) (t i : Nat) (z : BitVec 32) :
    selectFreq s t i z =
      setFrame (s.modThread t (fun x => { x with freqIdx := i })) t (tget 0 (s.thread t).freqs i) z := by
  simp [selectFreq, noteEntryRead_of_no_errors, freqEntry, entryRead_of_no_errors, h]

theorem addPhase_of_no_errors {s : State} (h : s.mem.errs = []) (t i : Nat) (z : BitVec 32) :
    addPhase t (z, s) i = (z + tget 0 (s.thread t).phases i, s) := by
  rw [addPhase, noteEntryRead_of_no_errors h, phaseEntry, entryRead_of_no_errors h, BitVec.ofInt_toInt]

theorem selectAmp_of_no_errors {s : State} (h : s.mem.errs = []) (t i : Nat) :
    selectAmp s t i = s.modThread t (fun x => { x with ampIdx := i, amp := tget 0 (s.thread t).amps i }) := by
  simp [selectAmp, noteEntryRead_of_no_errors, ampEntry, entryRead_of_no_errors, h]

theorem selectLvl_of_no_errors {s : State} (h : s.mem.errs = []) (t i : Nat) :
    selectLvl s t i = s.modThread t (fun x => { x with lvlIdx := i, lvl := tget 0 (s.thread t).lvls i }) := by
  simp [selectLvl, noteEntryRead_of_no_errors, lvlEntry, entryRead_of_no_errors, h]

/-! ### The emissions of one op on a thread (R72, R84) -/

theorem tidKind_mkTid {tile kind index : Nat} (hk : kind < 4) (hi : index < 1024) :
    tidKind (mkTid tile kind index) = kind := by
  simp only [tidKind, fld, mkTid]
  omega

theorem onEmission_taken {s : State} {t op : Nat} {w : Emission} {es : List Emission}
    {act : State → Emission → List Emission → State} (hd : dueOps s t op = es) (hw : winner es = some w)
    (he : ((dropOps (takeTs s t) t op).thread t).en = true) (ho : opAccepted (tidKind t) op = true) :
    onEmission s t op act = act (dropOps (takeTs s t) t op) w es := by
  simp [onEmission, hd, hw, he, ho]

theorem onEmission_discarded {s : State} {t op : Nat} {es : List Emission}
    (act : State → Emission → List Emission → State) (hd : dueOps s t op = es) (hne : es ≠ [])
    (h : ((dropOps (takeTs s t) t op).thread t).en = false ∨ opAccepted (tidKind t) op = false) :
    onEmission s t op act = portFlag (dropOps (takeTs s t) t op) t fEmitDis es.length := by
  obtain ⟨w, hw⟩ : ∃ w, winner es = some w := by
    cases es with
    | nil => exact absurd rfl hne
    | cons e r => exact ⟨_, rfl⟩
  rcases h with h | h <;> simp [onEmission, hd, hw, h]

/-! ### The pending timing set (R74, R75) -/

@[simp] theorem thread_portFlag (s : State) (t b n i : Nat) : (portFlag s t b n).thread i = s.thread i := rfl

theorem thread_with_emits (s : State) (l : List Emission) (i : Nat) : { s with emits := l }.thread i = s.thread i := rfl

/-- The timing-set selections that `takeTs` takes together. -/
def tsDue (s : State) (t : Nat) : List Emission :=
  s.emits.filter (fun e => reached s t e && e.ts.isSome && opAccepted (tidKind t) e.op)

theorem takeTs_pendSet {s : State} {t : Nat} {w : Emission} (hw : winner (tsDue s t) = some w)
    (he : (s.thread t).en = true) : ((takeTs s t).thread t).pendSet = w.ts.getD 0 := by
  rw [tsDue] at hw
  simp only [takeTs, hw, thread_with_emits, he, Bool.not_true, Bool.false_eq_true, if_false]
  split <;> simp

theorem takeTs_disabled {s : State} {t : Nat} {w : Emission} (hw : winner (tsDue s t) = some w)
    (he : (s.thread t).en = false) : (takeTs s t).thread t = s.thread t := by
  rw [tsDue] at hw
  simp only [takeTs, hw, thread_with_emits, he, Bool.not_false, if_true]

/-! ### LOAD and ADDs (R51) -/

theorem ncoConf_false (s : State) : ncoConf s false = s := rfl

/-- Without a LOAD among the emissions, all of them are ADDs. -/
theorem adds_of_no_load {es : List Emission} (h : es.filter (fun e => bit e.param 6) = []) :
    es.filter (fun e => !bit e.param 6) = es := by
  rw [List.filter_eq_self]
  intro e he
  simpa using List.filter_eq_nil_iff.1 h e he

/-- Settles O36: an enabled thread that takes the op runs the op's act on the winner; any other discards with EMITDIS. -/
theorem threadEmissions : Obligations.ThreadEmissions := by
  refine ⟨fun s r w es => ⟨?tset, ?freq, ?phaseLoaded, ?phaseAdded, ?amp⟩, fun s fp w es hd hw => ?flux, fun s r es => ?discarded,
    fun s t w hw => ⟨takeTs_pendSet hw, takeTs_disabled hw⟩, fun s t i z h => ⟨selectFreq_of_no_errors h t i z,
      addPhase_of_no_errors h t i z, selectAmp_of_no_errors h t i, selectLvl_of_no_errors h t i⟩⟩
  case tset =>
    rintro ⟨hd, hw, he, ho⟩
    exact congrArg Host.Outcome.next (onEmission_taken hd hw he ho)
  case freq =>
    rintro ⟨hd, hw, he, ho⟩
    exact congrArg Host.Outcome.next (onEmission_taken hd hw he ho)
  case phaseLoaded =>
    rintro ⟨hd, hw, he, ho⟩ l hl
    refine congrArg Host.Outcome.next ((onEmission_taken hd hw he ho).trans ?_)
    simp only [hl, winner, List.foldl_nil, List.foldl_map]
    exact ncoConf_false _
  case phaseAdded =>
    rintro ⟨hd, hw, he, ho⟩ hl
    refine congrArg Host.Outcome.next ((onEmission_taken hd hw he ho).trans ?_)
    simp only [hl, adds_of_no_load hl, winner, List.foldl_map]
    exact ncoConf_false _
  case amp =>
    rintro ⟨hd, hw, he, ho⟩
    exact congrArg Host.Outcome.next (onEmission_taken hd hw he ho)
  case flux =>
    have ho : opAccepted (tidKind (mkTid (fp / 16) 2 (fp % 16))) 6 = true := by
      rw [tidKind_mkTid (by decide) (by omega)]
      rfl
    exact ⟨fun he => congrArg Host.Outcome.next (onEmission_taken hd hw he ho), fun he =>
      congrArg Host.Outcome.next (onEmission_discarded _ hd (by rintro rfl; cases hw) (.inl he))⟩
  case discarded =>
    exact ⟨fun ⟨hd, hne, h⟩ => congrArg Host.Outcome.next (onEmission_discarded _ hd hne h),
      fun ⟨hd, hne, h⟩ => congrArg Host.Outcome.next (onEmission_discarded _ hd hne h),
      fun ⟨hd, hne, h⟩ => congrArg Host.Outcome.next (onEmission_discarded _ hd hne h),
      fun ⟨hd, hne, h⟩ => congrArg Host.Outcome.next (onEmission_discarded _ hd hne h)⟩

end Sys2Proof.Machine
end

section
/-! SUPPORT. The configuration commands of ports, threads and flux ports (03 R82 to R88, 05 R141, R142, 07 R186 to R188): O31. -/

namespace Sys2Proof.Machine

/-! ### The three results of a configuration command are OK (R343) -/

theorem done_status (s : State) (items : List LedgerItem) : (done s items).status = .ok := rfl

theorem scheduled_status (s : State) (n : Nat) (items : List LedgerItem) : (scheduled s n items).status = .ok := rfl

theorem report_status (s : State) (out : List Byte) : (report s out).status = .ok := rfl

/-- Settles O31: each body is its rule's checks before one result, staged for APPLY_AT, done at once, or a report. -/
theorem portThreadAndFluxSetup : Obligations.PortThreadAndFluxSetup := by
  refine ⟨?portCfg, ?threadCfg, ?tsetCfg, ?listWrite, ?pdCoef, ?portStatus, ?fluxCfg, ?fluxPd, ?fluxStatus⟩
  case portCfg | threadCfg | fluxCfg =>
    exact .of_body (fun _ _ => rfl) (fun _ _ => rfl) (fun _ _ _ => scheduled_status ..)
  case tsetCfg | listWrite | pdCoef | fluxPd =>
    exact .of_body (fun _ _ => rfl) (fun _ _ => rfl) (fun _ _ _ => done_status ..)
  case portStatus | fluxStatus =>
    exact .of_body (fun _ _ => rfl) (fun _ _ => rfl) (fun _ _ _ => report_status ..)

end Sys2Proof.Machine
end

section
/-! SUPPORT. What a report of a memory error leaves alone (11 R293 to R308, 14 R383 to R391, 20 R507 to R516). -/

namespace Sys2Proof.Machine

/-! ### Who writes to the reports only

A memory error is reported through counters, records, Ledger entries, notices, lines and repair marks. `unreported` blanks what
all of these write, so each function that only reports has one frame rule, and every other field follows from it. -/

/-- The state with every field that a report may write at its default. -/
def unreported (s : State) : State :=
  { s with fns := [], ledger := {}, harness := {}, spools := [], ringMem := [], mem := {}, lehr := {}, repair := {}, sent := []
           freeCtr := 0 }

theorem time_eq_of_unreported {s t : State} (h : unreported t = unreported s) : t.time = s.time :=
  (congrArg State.time h : (unreported t).time = (unreported s).time)

theorem bobbins_eq_of_unreported {s t : State} (h : unreported t = unreported s) : t.bobbins = s.bobbins :=
  (congrArg State.bobbins h : (unreported t).bobbins = (unreported s).bobbins)

theorem unreported_foldl {α : Type} {f : State → α → State} (h : ∀ s a, unreported (f s a) = unreported s) (l : List α)
    (s : State) : unreported (l.foldl f s) = unreported s := by
  induction l generalizing s with
  | nil => rfl
  | cons a r ih => rw [List.foldl_cons, ih, h]

section Fields
variable (s : State)

@[simp] theorem unreported_with_ledger (x : Ledger) : unreported { s with ledger := x } = unreported s := rfl
@[simp] theorem unreported_with_mem (x : Mem) : unreported { s with mem := x } = unreported s := rfl
@[simp] theorem unreported_with_ringMem (x : List Host.Cell) : unreported { s with ringMem := x } = unreported s := rfl
@[simp] theorem unreported_with_repair (x : Repair) : unreported { s with repair := x } = unreported s := rfl
@[simp] theorem unreported_with_lehr (x : Lehr) : unreported { s with lehr := x } = unreported s := rfl
@[simp] theorem unreported_with_freeCtr (n : Nat) : unreported { s with freeCtr := n } = unreported s := rfl

@[simp] theorem unreported_setFn (f : Nat) (x : Fn) : unreported (s.setFn f x) = unreported s := rfl
@[simp] theorem unreported_modFn (f : Nat) (g : Fn → Fn) : unreported (s.modFn f g) = unreported s := rfl
@[simp] theorem unreported_modSpool (n : Nat) (g : Spool → Spool) : unreported (s.modSpool n g) = unreported s := rfl
@[simp] theorem unreported_send (x : Sent) : unreported (s.send x) = unreported s := rfl
@[simp] theorem unreported_assertLine (l : Line) : unreported (assertLine s l) = unreported s := rfl
@[simp] theorem unreported_uncore (n : Nat) : unreported (uncore s n) = unreported s := rfl
@[simp] theorem unreported_clearErrs (a n : Nat) : unreported (clearErrs s a n) = unreported s := rfl
@[simp] theorem unreported_setLine (a : Nat) (v : Bool) : unreported (setLine s a v) = unreported s := rfl
@[simp] theorem unreported_setHot (i : Nat) (e : HotEntry) : unreported (setHot s i e) = unreported s := rfl
@[simp] theorem unreported_addMark (m : Mark) : unreported (addMark s m) = unreported s := rfl
@[simp] theorem unreported_nvInhibited : unreported (nvInhibited s) = unreported s := rfl

end Fields

/-! ### Interrupts, notices and host writes -/

@[simp] theorem unreported_msix (s : State) (f v : Nat) : unreported (msix s f v) = unreported s := by
  simp [msix, sendVector, apply_ite unreported]

@[simp] theorem unreported_notice (s : State) (f : Nat) (aud : Bool) (kind : Nat) (p : List Byte) :
    unreported (notice s f aud kind p) = unreported s := by
  simp [notice, apply_ite unreported]

@[simp] theorem unreported_event (s : State) (owner kind : Nat) (p : List Byte) :
    unreported (event s owner kind p) = unreported s := by
  simp only [event]
  split <;> simp

@[simp] theorem unreported_hostWrites (u : Nat) (relaxed : Bool) (k : Nat) (s : State) (f a : Nat) (d : List Byte)
    (bad : List Nat) (off : Nat) : unreported (hostWrites u relaxed k s f a d bad off) = unreported s := by
  induction k generalizing s a d off with
  | zero => rfl
  | succ k ih => simp [hostWrites, apply_ite unreported, ih]

@[simp] theorem unreported_hostStore (s : State) (f a : Nat) (d : List Byte) :
    unreported (hostStore s f a d) = unreported s := by
  simp [hostStore]

/-! ### Writes of DDR -/

@[simp] theorem unreported_bitmapFix (s : State) (a : Nat) : unreported (bitmapFix s a).1 = unreported s := by
  unfold bitmapFix
  split
  · dsimp only
    split <;> rfl
  · rfl

@[simp] theorem unreported_openRegion (s : State) (a : Nat) : unreported (openRegion s a) = unreported s := by
  simp [openRegion, apply_ite unreported]

@[simp] theorem unreported_writeLine (s : State) (a : Nat) (d : List Byte) :
    unreported (writeLine s a d).1 = unreported s := by
  simp [writeLine, apply_ite Prod.fst, apply_ite unreported]

@[simp] theorem unreported_ddrWriteAux (k : Nat) (s : State) (a : Nat) (d : List Byte) :
    unreported (ddrWriteAux k s a d).1 = unreported s := by
  induction k generalizing s a d with
  | zero => rfl
  | succ k ih => simp [ddrWriteAux, apply_ite Prod.fst, apply_ite unreported, ih]

@[simp] theorem unreported_ddrWrite (s : State) (a : Nat) (d : List Byte) : unreported (ddrWrite s a d).1 = unreported s :=
  unreported_ddrWriteAux _ s a d

/-! ### Spools -/

@[simp] theorem unreported_ringWrite (s : State) (p : Spool) (i : Nat) (e : List Byte) :
    unreported (ringWrite s p i e).1 = unreported s := by
  simp only [ringWrite]
  split <;> simp

@[simp] theorem unreported_spoolVector (s : State) (p : Spool) : unreported (spoolVector s p) = unreported s := by
  simp only [spoolVector]
  split <;> simp

@[simp] theorem unreported_notify (s : State) (n o : Nat) : unreported (notify s n o) = unreported s := by
  simp [notify, apply_ite unreported]

@[simp] theorem unreported_putEntry (s : State) (n : Nat) (e : List Byte) : unreported (putEntry s n e) = unreported s := by
  simp [putEntry, putEntryE]

@[simp] theorem unreported_faultSpool (s : State) (n : Nat) : unreported (faultSpool s n) = unreported s := rfl

@[simp] theorem unreported_overflow (s : State) (n k : Nat) : unreported (overflow s n k) = unreported s := rfl

@[simp] theorem unreported_errRecord (s : State) (part : Nat) (r : List Byte) :
    unreported (errRecord s part r) = unreported s := by
  simp [errRecord, apply_ite unreported]

@[simp] theorem unreported_readDesc (s : State) (n : Nat) : unreported (readDesc s n) = unreported s := by
  simp only [readDesc]
  split
  · rfl
  · split <;> simp

/-! ### The Ledger -/

theorem unreported_spillEntry {s t : State} {e : List Byte} (h : spillEntry s e = some t) :
    unreported t = unreported s := by
  simp only [spillEntry] at h
  split at h
  · cases h
    simp
  · cases h

@[simp] theorem unreported_spillAux (k : Nat) (s : State) : unreported (spillAux k s) = unreported s := by
  induction k generalizing s with
  | zero => rfl
  | succ k ih =>
    unfold spillAux
    split
    · split
      · rw [ih, unreported_with_ledger]
      · split
        next t ht => rw [ih, unreported_with_ledger, unreported_spillEntry ht]
        next => rfl
    · rfl

@[simp] theorem unreported_appendOne (s : State) (o : Origin) (st : Nat) (x : LedgerItem) :
    unreported (appendOne s o st x) = unreported s := by
  have h : unreported (if nvInhibit s then nvInhibited s else s) = unreported s := by simp [apply_ite unreported]
  exact h

@[simp] theorem unreported_auditNotices (s : State) (o : Origin) (e : Entry) :
    unreported (auditNotices s o e) = unreported s := by
  simp [auditNotices, unreported_foldl, apply_ite unreported]

@[simp] theorem unreported_ledgerAppend (s : State) (o : Origin) (st : Nat) (x : LedgerItem) :
    unreported (ledgerAppend s o st x) = unreported s := by
  simp only [ledgerAppend]
  repeat' split
  all_goals simp [spill]

@[simp] theorem unreported_ledgerNote (s : State) (o : Origin) (ty id action dig : Nat) :
    unreported (ledgerNote s o ty id action dig) = unreported s := by
  simp [ledgerNote]

/-! ### Repair marks and hot words -/

@[simp] theorem unreported_storeMap (s : State) : unreported (storeMap s) = unreported s := by
  unfold storeMap
  split <;> rfl

@[simp] theorem unreported_repairNote (s : State) (code store a id owner : Nat) :
    unreported (repairNote s code store a id owner) = unreported s := by
  unfold repairNote
  rw [unreported_event, unreported_ledgerNote, unreported_storeMap]

@[simp] theorem unreported_markUnit (s : State) (k : MarkKind) (n : Nat) : unreported (markUnit s k n) = unreported s := by
  simp [markUnit, apply_ite unreported]

@[simp] theorem unreported_markArray (s : State) (row : Bool) (store a : Nat) :
    unreported (markArray s row store a) = unreported s := by
  simp only [markArray]
  repeat' split
  all_goals simp

@[simp] theorem unreported_markUe (s : State) (a : Nat) : unreported (markUe s a) = unreported s := by
  unfold markUe
  split
  · simp [apply_ite unreported]
  · rfl

@[simp] theorem unreported_markColumn (s : State) (a y : Nat) : unreported (markColumn s a y) = unreported s := by
  unfold markColumn
  split
  · simp [apply_ite unreported]
  · rfl

@[simp] theorem unreported_hotCount (s : State) (src : Stop) (a y : Nat) :
    unreported (hotCount s src a y) = unreported s := by
  unfold hotCount
  dsimp only
  split
  · rfl
  · simp [apply_ite unreported]

@[simp] theorem unreported_hotFree (s : State) (a : Nat) : unreported (hotFree s a) = unreported s := by
  unfold hotFree
  split <;> simp

/-! ### Memory events -/

@[simp] theorem unreported_bumpChan (s : State) (a : Nat) (f : Chan → Chan) : unreported (bumpChan s a f) = unreported s := by
  simp [bumpChan, apply_ite unreported]

@[simp] theorem unreported_memEvent (s : State) (req : Nat) (src : Stop) (e : MemEvt) :
    unreported (memEvent s req src e) = unreported s := by
  cases e <;> simp [memEvent]

@[simp] theorem unreported_memEvents (s : State) (req : Nat) (src : Stop) (l : List MemEvt) :
    unreported (memEvents s req src l) = unreported s :=
  unreported_foldl (fun s e => unreported_memEvent s req src e) l s

@[simp] theorem memEvents_now (s : State) (req : Nat) (src : Stop) (l : List MemEvt) :
    (memEvents s req src l).now = s.now :=
  congrArg TimeSt.tick (time_eq_of_unreported (unreported_memEvents s req src l))

@[simp] theorem memEvents_bobbin (s : State) (req : Nat) (src : Stop) (l : List MemEvt) (t : Nat) :
    (memEvents s req src l).bobbin t = s.bobbin t := by
  rw [State.bobbin, bobbins_eq_of_unreported (unreported_memEvents s req src l), State.bobbin]

end Sys2Proof.Machine
end

section
/-! SUPPORT. Segments, jump requests and boundaries (04 R97 to R104, 08 R228): O37. -/

namespace Sys2Proof.Machine

/-! ### Flags of a tile's Bobbin (R111) -/

@[simp] theorem isOn_hit_same (now : Nat) (f : Flags) (b : Nat) : isOn (hit now f b) b = true := by
  simp [isOn, hit, tmod, flagRaise]

theorem isOn_hit_of_isOn {f : Flags} {b : Nat} (h : isOn f b = true) (now c : Nat) : isOn (hit now f c) b = true := by
  unfold isOn at h ⊢
  simp only [hit, tmod, tget_tset]
  split
  · rfl
  · exact h

@[simp] theorem thread_bobFlag (s : State) (t b i : Nat) : (bobFlag s t b).thread i = s.thread i := rfl

theorem isOn_bobFlag (s : State) (t b : Nat) : isOn ((bobFlag s t b).bobbin (tidTile t)).flags b = true := by
  simp [bobFlag]

/-! ### The tick's timing sets and emissions taken off a thread: its play, the time and the Bobbins stay (R74, R75) -/

@[simp] theorem thread_dropOps (s : State) (t op i : Nat) : (dropOps s t op).thread i = s.thread i := rfl
@[simp] theorem bobbin_dropOps (s : State) (t op i : Nat) : (dropOps s t op).bobbin i = s.bobbin i := rfl
@[simp] theorem now_dropOps (s : State) (t op : Nat) : (dropOps s t op).now = s.now := rfl

theorem takeTs_thread (s : State) (t : Nat) : ∃ n, (takeTs s t).thread t = { s.thread t with pendSet := n } := by
  unfold takeTs
  dsimp only
  split
  · exact ⟨_, rfl⟩
  next w _ =>
    split
    · exact ⟨_, rfl⟩
    · refine ⟨w.ts.getD 0, ?_⟩
      split <;> simp [thread_with_emits]

theorem takeTs_play (s : State) (t : Nat) : ((takeTs s t).thread t).play = (s.thread t).play := by
  obtain ⟨n, h⟩ := takeTs_thread s t
  rw [h]

theorem takeTs_gap (s : State) (t : Nat) : ((takeTs s t).thread t).gap = (s.thread t).gap := by
  obtain ⟨n, h⟩ := takeTs_thread s t
  rw [h]

theorem takeTs_time_bobbins (s : State) (t : Nat) : (takeTs s t).time = s.time ∧ (takeTs s t).bobbins = s.bobbins := by
  unfold takeTs
  dsimp only
  split
  · exact ⟨rfl, rfl⟩
  · split
    · exact ⟨rfl, rfl⟩
    · split <;> exact ⟨rfl, rfl⟩

theorem takeTs_now (s : State) (t : Nat) : (takeTs s t).now = s.now := congrArg TimeSt.tick (takeTs_time_bobbins s t).1

theorem takeTs_bobbin (s : State) (t i : Nat) : (takeTs s t).bobbin i = s.bobbin i := by
  rw [State.bobbin, (takeTs_time_bobbins s t).2, State.bobbin]

/-! ### Taking a segment (R97, R98, R103) -/

theorem segFault_eq_jmpBad_iff (s : State) (t seg : Nat) :
    segFault s t seg = some fJmpBad ↔ dValid (segDesc s (tidTile t) seg) = false ∨ segBad s t seg = true := by
  have hne : fSegDeny ≠ fJmpBad := by decide
  unfold segFault
  dsimp only
  split
  next h => simpa using h
  next h =>
    have hok : ¬ (dValid (segDesc s (tidTile t) seg) = false ∨ segBad s t seg = true) := by simpa using h
    simp [hok, hne]

theorem segBad_of_no_errors {s : State} (h : s.mem.errs = []) (t seg : Nat) : segBad s t seg = false := by
  simp [segBad, maskOf_of_no_errors h, show badWord 0 = false by decide]

theorem noteSegRead_of_no_errors {s : State} (h : s.mem.errs = []) (t seg : Nat) : noteSegRead s t seg = s := by
  have hw : ∀ a, wordEvents a (maskOf s.mem a) = [] := fun a => by rw [maskOf_of_no_errors h]; rfl
  simp only [noteSegRead, hw, List.flatMap_eq_nil_iff.2 fun _ _ => rfl]
  rfl

theorem takeSegment_of_fault {s : State} {t seg f : Nat} (h : segFault s t seg = some f) (k src : Nat) :
    takeSegment s t seg k src =
      (noteSegRead s t seg).modBobbin (tidTile t) (fun x => { x with flags := hit s.now x.flags f }) := by
  simp [takeSegment, h, bobFlag, noteSegRead]

theorem startSegment_play (s : State) (t seg k base src : Nat) (fresh : Bool) :
    ∃ busy, ((startSegment s t seg k base src fresh).thread t).play =
      some { seg := seg, first := k, final := k + dLength (segDesc s (tidTile t) seg) - 1
             desc := segDesc s (tidTile t) seg, busy := busy, base := base, src := src } := by
  unfold startSegment
  extract_lets d ring taken u v pulse pl
  exact ⟨taken, by simp; exact ⟨rfl, rfl⟩⟩

theorem segDesc_releaseRing (s : State) (t tile seg : Nat) : segDesc (releaseRing s t) tile seg = segDesc s tile seg := by
  unfold releaseRing
  split
  · split
    · simp only [segDesc, State.bobbin_modBobbin]
      split
      · simp_all
      · rfl
    · rfl
  · rfl

theorem segDesc_noteSegRead (s : State) (t seg tile g : Nat) :
    segDesc (noteSegRead s t seg) tile g = segDesc s tile g := by
  simp [segDesc, noteSegRead]

theorem takeSegment_play {s : State} {t seg : Nat} (h : segFault s t seg = none) (k src : Nat) :
    ∃ busy, ((takeSegment s t seg k src).thread t).play =
      some { seg := seg, first := k, final := k + dLength (segDesc s (tidTile t) seg) - 1
             desc := segDesc s (tidTile t) seg, busy := busy, base := 0, src := src } := by
  simpa only [takeSegment, h, segDesc_releaseRing, segDesc_noteSegRead] using
    startSegment_play (releaseRing (noteSegRead s t seg) t) t seg k 0 src true

/-! ### Boundaries of a thread (R99 to R102) -/

theorem boundary_of_past {s : State} {t : Nat} {p : Play} (hp : (s.thread t).play = some p) (h : p.final < s.now) :
    boundary s t = passBoundary (takeTs s t) t p.final := by
  simp [boundary, hp, h]

theorem boundary_of_playing {s : State} {t : Nat} {p : Play} (hp : (s.thread t).play = some p) (h : s.now ≤ p.final) :
    boundary s t = s := by
  simp [boundary, hp, Nat.not_lt.2 h]

theorem boundary_of_gap {s : State} {t f : Nat} (hp : (s.thread t).play = none) (hg : (s.thread t).gap = some f)
    (h : f < s.now) : boundary s t = passBoundary (takeTs s t) t f := by
  simp [boundary, hp, hg, h]

theorem boundary_of_idle {s : State} {t : Nat} (hp : (s.thread t).play = none) (hg : (s.thread t).gap = none) :
    boundary s t = s := by
  simp [boundary, hp, hg]

/-! ### A play-segment (R98, R100, R228) -/

theorem emitPlay_idle {s : State} {r : ThreadRef} {w : Emission} (hd : dueOps s (tidOf r) 1 = [w])
    (he : ((dropOps (takeTs s (tidOf r)) (tidOf r) 1).thread (tidOf r)).en = true)
    (ho : opAccepted (tidKind (tidOf r)) 1 = true) (hp : (s.thread (tidOf r)).play = none)
    (hg : (s.thread (tidOf r)).gap = none) :
    exec (.emitPlay r) s = .next (
      let u := dropOps (takeTs s (tidOf r)) (tidOf r) 1
      if w.param = 0 then u else takeSegment u (tidOf r) w.param u.now 1) := by
  refine congrArg Host.Outcome.next (?_ : onEmission (boundary s (tidOf r)) (tidOf r) 1 _ = _)
  rw [boundary_of_idle hp hg, onEmission_taken hd rfl he ho]
  simp [takeTs_play, takeTs_gap, hp, hg]

theorem emitPlay_playing {s : State} {r : ThreadRef} {w : Emission} {p : Play} (hd : dueOps s (tidOf r) 1 = [w])
    (he : ((dropOps (takeTs s (tidOf r)) (tidOf r) 1).thread (tidOf r)).en = true)
    (ho : opAccepted (tidKind (tidOf r)) 1 = true) (hp : (s.thread (tidOf r)).play = some p) (hf : s.now ≤ p.final)
    (hs : p.first < s.now) :
    exec (.emitPlay r) s = .next (requestJump (dropOps (takeTs s (tidOf r)) (tidOf r) 1) (tidOf r) w.param p.final true) := by
  refine congrArg Host.Outcome.next (?_ : onEmission (boundary s (tidOf r)) (tidOf r) 1 _ = _)
  rw [boundary_of_playing hp hf, onEmission_taken hd rfl he ho]
  simp [takeTs_play, takeTs_now, hp, hs.ne]

/-! ### Jump requests (R100, R102) -/

theorem requestJump_now {s : State} {t f : Nat} (hn : (s.thread t).now_ = none) (h : s.now + 2 ≤ f) (seg : Nat)
    (loom : Bool) : requestJump s t seg f loom =
      s.modThread t (fun x => { x with now_ := some { seg := seg, reg := s.now, loom := loom } }) := by
  simp [requestJump, h, hn, slotPut]

theorem requestJump_next {s : State} {t f : Nat} (hn : (s.thread t).next_ = none) (h : f < s.now + 2) (seg : Nat)
    (loom : Bool) : requestJump s t seg f loom =
      bobFlag (s.modThread t (fun x => { x with next_ := some { seg := seg, reg := s.now, loom := loom } })) t fJLate := by
  simp [requestJump, Nat.not_le.2 h, hn, slotPut]

/-! ### What a boundary takes (R99 to R102) -/

/-- The thread as the boundary leaves its slots: NEXT becomes NOW. -/
def slotsPassed (s : State) (t : Nat) : State := s.modThread t (fun x => { x with now_ := x.next_, next_ := none })

theorem passBoundary_of_request {s : State} {t : Nat} {j : Jump} (hj : (s.thread t).now_ = some j) (h0 : j.seg ≠ 0)
    (hf : segFault (slotsPassed s t) t j.seg = none) (f : Nat) :
    passBoundary s t f = takeSegment (slotsPassed s t) t j.seg (f + 1) 0 := by
  rw [slotsPassed] at hf ⊢
  simp [passBoundary, hj, h0, hf]

theorem passBoundary_of_stop {s : State} {t : Nat} {j : Jump} (hj : (s.thread t).now_ = some j) (h0 : j.seg = 0)
    (f : Nat) : passBoundary s t f = goIdle (slotsPassed s t) t f := by
  simp [passBoundary, slotsPassed, hj, h0]

theorem passBoundary_of_no_request {s : State} {t : Nat} {p : Play} (hn : (s.thread t).now_ = none)
    (hp : (s.thread t).play = some p) (f : Nat) : passBoundary s t f = chainOrIdle (slotsPassed s t) t := by
  simp [passBoundary, slotsPassed, hn, hp]

theorem chainOrIdle_unchained {s : State} {t : Nat} {p : Play} (hp : (s.thread t).play = some p)
    (h : (dChain p.desc && dNext p.desc != 0) = false) : chainOrIdle s t = goIdle s t p.final := by
  simp only [chainOrIdle, hp, h, Bool.false_eq_true, if_false]

theorem chainOrIdle_muted_loop {s : State} {t : Nat} {p : Play} (hp : (s.thread t).play = some p)
    (hc : dChain p.desc = true) (hn : dNext p.desc = p.seg) (h0 : p.seg ≠ 0) (hf : segFault s t p.seg = none)
    (hm : portMuted s (portOfTid t) = true) : chainOrIdle s t = goIdle s t p.final := by
  simp [chainOrIdle, hp, hc, hn, h0, hf, hm]

/-- Settles O37: an idle thread takes the segment, a playing one registers the request in NOW or NEXT, and a boundary that has
passed takes NOW, then the chain, then leaves the thread idle. -/
theorem segmentsAndJumps : Obligations.SegmentsAndJumps := by
  refine ⟨fun s r w hd he ho => ⟨?start, ?stay, ?request⟩,
    fun s t seg k src => ⟨segFault_eq_jmpBad_iff s t seg, fun f hf => takeSegment_of_fault hf k src, fun h =>
      ⟨segBad_of_no_errors h t seg, noteSegRead_of_no_errors h t seg⟩⟩,
    fun s t seg f hnow hnext => ⟨?now, ?next⟩, fun s r => ⟨?past, ?gap, ?playing, ?idle⟩,
    fun s t f p j hp => ⟨?requested, ?stopped, ?unrequested, ?unchained, ?muted⟩⟩
  case start =>
    intro hp hg hw
    refine ⟨(emitPlay_idle hd he ho hp hg).trans (by rw [if_neg hw]), ?_⟩
    rintro v rfl hf hl
    obtain ⟨busy, h⟩ := takeSegment_play hf (dropOps (takeTs s (tidOf r)) (tidOf r) 1).now 1
    simp only [segDesc, bobbin_dropOps, takeTs_bobbin, now_dropOps, takeTs_now] at h hl ⊢
    exact ⟨_, h, rfl, rfl, rfl, by dsimp only; omega⟩
  case stay => exact fun hp hg hw => (emitPlay_idle hd he ho hp hg).trans (by rw [if_pos hw])
  case request => exact fun p hp hf hs => emitPlay_playing hd he ho hp hf hs
  case now =>
    intro h
    rw [requestJump_now hnow h]
    simp [hnext]
  case next =>
    intro h
    rw [requestJump_next hnext h]
    exact ⟨by simp, by simp [hnow], isOn_bobFlag _ t fJLate⟩
  case past => exact fun p hp h => congrArg Host.Outcome.next (boundary_of_past hp h)
  case gap => exact fun f hp hg h => congrArg Host.Outcome.next (boundary_of_gap hp hg h)
  case playing => exact fun p hp h => congrArg Host.Outcome.next (boundary_of_playing hp h)
  case idle => exact fun hp hg => congrArg Host.Outcome.next (boundary_of_idle hp hg)
  case requested => exact fun hj h0 hf => passBoundary_of_request hj h0 hf f
  case stopped => exact fun hj h0 => passBoundary_of_stop hj h0 f
  case unrequested => exact fun hn => passBoundary_of_no_request hn hp f
  case unchained => exact fun h => chainOrIdle_unchained hp h
  case muted => exact fun hc hn h0 _ hf hm => chainOrIdle_muted_loop hp hc hn h0 hf hm

end Sys2Proof.Machine
end

section
/-! SUPPORT. Stream fetches and filled ticks (04 R105 to R110): O38. -/

namespace Sys2Proof.Machine

/-! ### The stream engine asks (R105) -/

theorem streamFetchIssue_asks {s : State} {tile : Fin 12} (hc : (tileActive s tile && canPut s (s.spool (32 + tile))) = true)
    {i d g w n : Nat} (hi : (List.range 16).find? (fun i => (fetchRoom s tile i).isSome) = some i)
    (hr : fetchRoom s tile i = some (d, g, w, n)) :
    exec (.streamFetchIssue tile) s = .next (appendEntry (s.modBobbin tile (fun b => { b with
      rings := tmod {} b.rings i (fun r => { r with issued := r.issued + (n + 1) / 2 * 2 }) })) (32 + tile) 0 true
      (streamDesc tile i g d w n (tget {} (s.bobbin tile).rings i).issued)) := by
  have hb : ¬ (!tileActive s tile || !canPut s (s.spool (32 + tile))) = true := by
    rw [← Bool.not_and, hc]
    exact Bool.false_ne_true
  refine congrArg Host.Outcome.next ((if_neg hb).trans ?_)
  simp only [hi, hr]

theorem streamFetchIssue_no_room {s : State} {tile : Fin 12}
    (h : (List.range 16).find? (fun i => (fetchRoom s tile i).isSome) = none) :
    exec (.streamFetchIssue tile) s = .next s := by
  refine congrArg Host.Outcome.next ?_
  simp only [h, ite_self]

theorem streamFetchIssue_blocked {s : State} {tile : Fin 12}
    (h : (tileActive s tile && canPut s (s.spool (32 + tile))) = false) : exec (.streamFetchIssue tile) s = .next s := by
  have hb : (!tileActive s tile || !canPut s (s.spool (32 + tile))) = true := by
    rw [← Bool.not_and, h, Bool.not_false]
  exact congrArg Host.Outcome.next (if_pos hb)

/-! ### The mover completes (R105, R106, R109) -/

theorem streamFail_eq_none_iff (s : State) (who : Owner) (v : Nat) : streamFail s who v = none ↔
    mOp v = 1 ∧ mLen v ≠ 0 ∧ mSrc v % 16 = 0 ∧ mDst v % 16 = 0 ∧ inDdr s (mSrc v) (mBytes v) = true
      ∧ ddrMayChange s who (mSrc v) (mBytes v) = true ∧ chanActive s (chanOf (mSrc v)) = true := by
  simp [streamFail, and_assoc]

/-- The mover has a descriptor to serve: its Spool is live and holds an entry. -/
theorem streamSpool_holds {p : Spool} (hl : spoolLive p = true) (ho : occupancy p ≠ 0) :
    ¬ (!spoolLive p || decide (occupancy p = 0)) = true := by
  simp [hl, ho]

/-! ### Filled ticks (R107 to R110) -/

@[simp] theorem bobbin_assertLine (s : State) (l : Line) (t : Nat) : (assertLine s l).bobbin t = s.bobbin t := rfl

theorem bobbin_markRunning (s : State) (l cause t : Nat) : (markRunning s l cause).bobbin t = s.bobbin t := by
  unfold markRunning
  dsimp only
  split <;> rfl

@[simp] theorem bobbin_markLooms (s : State) (p : Nat → Bool) (cause t : Nat) :
    (markLooms s p cause).bobbin t = s.bobbin t :=
  List.foldlRecOn (motive := fun u : State => u.bobbin t = s.bobbin t) _ _ rfl fun _ h l _ =>
    (bobbin_markRunning _ l cause t).trans h

/-- Settles O38: the engine asks for the lowest ring with room, the mover consumes each descriptor with the words it brings or
none, and a missing word sets UNDERRUN once, a faulted one FETCHFAULT too. -/
theorem streamsAndFill : Obligations.StreamsAndFill := by
  refine ⟨fun s tile hc => ⟨fun i d g w n hi hr => streamFetchIssue_asks hc hi hr, streamFetchIssue_no_room⟩,
    fun s tile => streamFetchIssue_blocked, fun s tile => ⟨?empty, ?bad, ?failed, ?discarded, ?moved⟩, streamFail_eq_none_iff,
    fun s r => ⟨?unread, fun p hp => ⟨?delivered, ?filled, ?missing, ?fault⟩⟩⟩
  case empty =>
    intro h
    exact congrArg Host.Outcome.next (if_pos (by simpa using h))
  case bad =>
    intro hl ho he
    exact congrArg Host.Outcome.next ((if_neg (streamSpool_holds hl ho)).trans (congrArg (consume · _) (if_pos he)))
  case failed =>
    intro hl ho he hf
    exact congrArg Host.Outcome.next ((if_neg (streamSpool_holds hl ho)).trans
      (congrArg (consume · _) ((if_neg (ne_true_of_eq_false he)).trans (if_pos hf))))
  case discarded =>
    intro hl ho he hf hh
    exact congrArg Host.Outcome.next ((if_neg (streamSpool_holds hl ho)).trans
      (congrArg (consume · _) ((if_neg (ne_true_of_eq_false he)).trans ((if_neg (Option.not_isSome_iff_eq_none.2 hf)).trans (if_pos hh)))))
  case moved =>
    intro hl ho he hf hh
    exact congrArg Host.Outcome.next ((if_neg (streamSpool_holds hl ho)).trans
      (congrArg (consume · _) ((if_neg (ne_true_of_eq_false he)).trans ((if_neg (Option.not_isSome_iff_eq_none.2 hf)).trans
        (if_neg (ne_true_of_eq_false hh))))))
  case unread =>
    intro h
    refine congrArg Host.Outcome.next ?_
    simp only [h]
  case delivered =>
    intro w hw
    refine congrArg Host.Outcome.next ?_
    simp only [hp, hw]
  case filled =>
    intro why hw hf
    refine congrArg Host.Outcome.next ?_
    simp only [hp, hw, hf, if_true]
  case missing =>
    intro why hwhy hw hf
    have hn : (why == Miss.fault) = false := by rcases hwhy with rfl | rfl <;> rfl
    refine congrArg Host.Outcome.next ?_
    simp only [hp, hw, hf, hn, hitIf, Bool.false_and, Bool.false_eq_true, if_false]
    rfl
  case fault =>
    intro hw hf
    refine ⟨_, rfl, ?_⟩
    simp only [hp, hw, hf, hitIf, beq_self_eq_true, Bool.true_and, if_true, if_false, bobbin_markLooms,
      bobbin_assertLine]
    split <;> simp [isOn_hit_of_isOn]

end Sys2Proof.Machine
end

section
/-! SUPPORT. The configuration commands of Bobbins and of the readout (04 R93 to R111, 05 R143 to R149): O32. -/

namespace Sys2Proof.Machine

theorem waiting_status (s : State) : (waiting s).status = .ok := rfl

/-- Settles O32: each body is its rule's checks before one result; SEGMENT_DELETE of a segment that is not valid changes
nothing. -/
theorem bobbinAndReadoutSetup : Obligations.BobbinAndReadoutSetup := by
  refine ⟨?bobbinAlloc, ?bobbinFree, ?bobbinWrite, ?segmentDesc, ?segmentDelete, ?jumpCfg, ?bobbinStatus, ?windowProfile,
    ?weightWrite, ?weightSwap, ?readpairCfg, ?rdFirCoef, ?readStatus⟩
  case jumpCfg | readpairCfg =>
    exact .of_body (fun _ _ => rfl) (fun _ _ => rfl) (fun _ _ _ => scheduled_status ..)
  case bobbinFree | bobbinWrite | segmentDesc | windowProfile | weightWrite | rdFirCoef =>
    exact .of_body (fun _ _ => rfl) (fun _ _ => rfl) (fun _ _ _ => done_status ..)
  case bobbinStatus | readStatus =>
    exact .of_body (fun _ _ => rfl) (fun _ _ => rfl) (fun _ _ _ => report_status ..)
  case weightSwap =>
    exact .of_body (fun _ _ => rfl) (fun _ _ => rfl) (fun _ _ _ => waiting_status ..)
  case bobbinAlloc =>
    exact .of_body (fun _ _ => rfl) (fun _ _ => rfl) (fun _ _ _ => rfl)
  case segmentDelete =>
    refine .of_body (fun _ _ => rfl) (fun _ _ => rfl) (fun k s _ => ?_)
    dsimp only
    split
    · exact done_status ..
    · exact done_status ..

end Sys2Proof.Machine
end

section
/-! SUPPORT. The confidence of a window's verdict (05 R130): O6. -/

namespace Sys2Proof.Machine

theorem confOf_one_threshold {d : Disc} (h : d.l3 = false) (p : Int) :
    confOf d p = min 255 ((p - d.thA).natAbs / 2 ^ d.confShift) := by
  simp [confOf, h]

theorem confOf_two_thresholds {d : Disc} (h : d.l3 = true) (p : Int) :
    confOf d p = min 255 (min (p - d.thA).natAbs (p - d.thB).natAbs / 2 ^ d.confShift) := by
  simp [confOf, h]

/-- Settles O6: with L3 the distance is the smaller of the two, so the nearer threshold gives it. -/
theorem confidence : Obligations.Confidence := by
  refine fun d p => ⟨fun h => confOf_one_threshold h p, fun h hA => ?nearerA, fun h hB => ?nearerB⟩
  case nearerA => rw [confOf_two_thresholds h, Nat.min_eq_left hA]
  case nearerB => rw [confOf_two_thresholds h, Nat.min_eq_right hB.le]

end Sys2Proof.Machine
end

section
/-! SUPPORT. Raw captures, the Warp commands and due ticks (05 R137 to R140, 09 R245, R249, R257, R264): O34. -/

namespace Sys2Proof.Machine

/-! ### A capture written twice with the same value -/

theorem tput_tput_same {α : Type} (t : Tbl α) (k : Nat) (v : α) : tput (tput t k v) k v = tput t k v := by
  induction t with
  | nil => simp [tput]
  | cons e r ih =>
    obtain ⟨k', v'⟩ := e
    rcases lt_trichotomy k k' with h | rfl | h
    · simp [tput, h]
    · simp [tput]
    · simp [tput, h.not_gt, h.ne', ih]

theorem tset_tset_same {α : Type} [DecidableEq α] (d : α) (t : Tbl α) (k : Nat) (v : α) :
    tset d (tset d t k v) k v = tset d t k v := by
  unfold tset
  split
  · simp [tdel]
  · exact tput_tput_same t k v

theorem State.modCap_modCap_id (s : State) (q : Nat) (g : Capture → Capture) :
    (s.modCap q g).modCap q (fun x => x) = s.modCap q g := by
  simp [State.modCap, tmod, tset_tset_same]

/-! ### When a capture runs and when it ends (R138 to R140) -/

theorem abortDue_of_no_abort {c : Capture} (h : c.abort = none) (s : State) : abortDue s c = false := by
  simp [abortDue, h]

theorem captureStart_due {s : State} {q : Fin 4} (ha : (s.cap q).state = .armed) (ht : (s.cap q).trig = false)
    (h : (s.cap q).label + 44 * 32 ≤ s.st) :
    exec (.captureStart q) s = .next (s.modCap q (fun x => { x with state := .running })) :=
  congrArg Host.Outcome.next (if_pos (by simp [ha, ht, h]))

theorem captureStart_early {s : State} {q : Fin 4} (h : s.st < (s.cap q).label + 44 * 32) :
    exec (.captureStart q) s = .next s :=
  congrArg Host.Outcome.next (if_neg (by simp [h]))

theorem captureDone_complete {s : State} {q : Fin 4} {codes : List (BitVec 12)} (hr : (s.cap q).state = .running)
    (ha : (s.cap q).abort = none) (h : (s.cap q).length ≤ codes.length / 16) :
    exec (.captureDone q codes false) s = .next (captureEnd (writeCapture s q (s.cap q).length codes) q) := by
  have hn : min (s.cap q).length (codes.length / 16) = (s.cap q).length := Nat.min_eq_left h
  refine congrArg Host.Outcome.next ?_
  simp [hr, abortDue_of_no_abort ha, hn, writeCapture, State.modCap_modCap_id]

theorem captureDone_unfinished {s : State} {q : Fin 4} {codes : List (BitVec 12)} (hr : (s.cap q).state = .running)
    (ha : (s.cap q).abort = none) (h : codes.length / 16 < (s.cap q).length) :
    exec (.captureDone q codes false) s = .next s := by
  have hn : min (s.cap q).length (codes.length / 16) = codes.length / 16 := Nat.min_eq_right h.le
  refine congrArg Host.Outcome.next ?_
  simp [hr, abortDue_of_no_abort ha, hn, h.ne]

theorem captureDone_overflow {s : State} {q : Fin 4} {codes : List (BitVec 12)} (hr : (s.cap q).state = .running)
    (ha : (s.cap q).abort = none) (h : codes.length / 16 < (s.cap q).length) :
    exec (.captureDone q codes true) s = .next (captureEnd ((writeCapture s q (codes.length / 16) codes).modCap q
      (fun x => { x with flags := hit s.now x.flags 4 })) q) := by
  have hn : min (s.cap q).length (codes.length / 16) = codes.length / 16 := Nat.min_eq_right h.le
  refine congrArg Host.Outcome.next ?_
  simp [hr, abortDue_of_no_abort ha, hn, h.ne]

theorem captureDone_not_running {s : State} {q : Fin 4} (hr : (s.cap q).state ≠ .running)
    (ha : abortDue s (s.cap q) = false) (codes : List (BitVec 12)) (o : Bool) :
    exec (.captureDone q codes o) s = .next s :=
  congrArg Host.Outcome.next (if_neg (by simp [hr, ha]))

/-! ### Due ticks (R245, R249) -/

theorem currentAt_single (d : Decision) (y : Nat) : currentAt [d] y = if d.due ≤ y then some d else none := rfl

/-- Of two decisions that are both due, the later one is current. -/
theorem currentAt_later {d e : Decision} {y : Nat} (h : d.due < e.due) (he : e.due ≤ y) : currentAt [d, e] y = some e := by
  have hd : d.due ≤ y := h.le.trans he
  simp [currentAt, hd, he, h.le]

/-- In the due tick of the one armed decision no older one is current, so none is dropped. -/
theorem dueTick_single {s : State} {b : Fin 512} {d : Decision} (hb : (s.decBit b).armed = [d]) (hd : d.due = stTick s)
    (ht : tileActive s d.tile = true) :
    exec (.dueTick b) s = .next ((if lateDecision d then assertOnce s (.warpLate d.tile) else s).modBit b
      (fun x => { x with armed := x.armed.filter (fun _ => true) })) := by
  have hkeep : ∀ c, currentAt [d] (stTick s - 2) = some c → c.due = 0 := by
    intro c hc
    obtain ⟨hle, hdc⟩ := Option.ite_none_right_eq_some.1 hc
    cases hdc
    omega
  refine congrArg Host.Outcome.next ?_
  cases hl : lateDecision d <;> cases hc : currentAt [d] (stTick s - 2) with
  | none => simp [hb, hd, ht, hl, hc]
  | some c => simp [hb, hd, ht, hl, hc, hkeep c hc]

/-- Two ticks after the due tick of the younger decision, no tick presents the older one. -/
theorem dueTick_superseded {s : State} {b : Fin 512} {d e : Decision} (hb : (s.decBit b).armed = [d, e])
    (h : d.due < e.due) (he : e.due + 2 ≤ stTick s) :
    exec (.dueTick b) s =
      .next (s.modBit b (fun x => { x with armed := x.armed.filter (fun x => decide (e.due ≤ x.due)) })) := by
  have hcur : currentAt [d, e] (stTick s - 2) = some e := currentAt_later h (by omega)
  have hd : d.due ≠ stTick s := by omega
  have he' : e.due ≠ stTick s := by omega
  refine congrArg Host.Outcome.next ?_
  simp [hb, hcur, hd, he']

/-- Settles O34: each command is its rule's checks before one result, a capture ends when its codes are complete or its buffer
is full, and a due tick names the late decision and drops what a younger one has replaced. -/
theorem rawCapturesAndWarp : Obligations.RawCapturesAndWarp := by
  refine ⟨?rawCapture, ?abort, ?captureStatus, fun s q ha ht => ⟨captureStart_due ha ht, captureStart_early⟩,
    fun s q codes hr ha hc h0 => ?complete, fun s q codes hr ha hc =>
      ⟨captureDone_unfinished hr ha hc, captureDone_overflow hr ha hc⟩,
    fun s q codes o hr ha => captureDone_not_running hr ha codes o, ?warpBind, ?warpStatus,
    fun s b d hb hd ht => ⟨fun hl => ?late, fun hl => ?inTime⟩, fun s b d e hb h he => dueTick_superseded hb h he⟩
  case rawCapture | abort =>
    exact .of_body (fun _ _ => rfl) (fun _ _ => rfl) (fun _ _ _ => rfl)
  case captureStatus | warpStatus =>
    exact .of_body (fun _ _ => rfl) (fun _ _ => rfl) (fun _ _ _ => report_status ..)
  case warpBind =>
    exact .of_body (fun _ _ => rfl) (fun _ _ => rfl) (fun _ _ _ => scheduled_status ..)
  case complete =>
    rw [captureDone_complete hr ha hc, writeCapture, if_neg h0.ne']
  case late => rw [dueTick_single hb hd ht, if_pos hl]
  case inTime => rw [dueTick_single hb hd ht, if_neg (ne_true_of_eq_false hl)]

end Sys2Proof.Machine
end

section
/-! SUPPORT. A core of the Marver array, and one instruction of it (06 R152, R158, R161, R170): O43. -/

namespace Sys2Proof.Machine

/-! ### A core after a change -/

@[simp] theorem State.core_modCore (s : State) (c d : Nat) (g : Core → Core) :
    (s.modCore c g).core d = if c = d then g (s.core c) else s.core d := by
  simp [State.modCore, State.core, tmod, tget_tset]

@[simp] theorem State.modCore_now (s : State) (c : Nat) (g : Core → Core) : (s.modCore c g).now = s.now := rfl

theorem State.modCore_congr {s : State} {c : Nat} {f g : Core → Core} (h : f (s.core c) = g (s.core c)) :
    s.modCore c f = s.modCore c g :=
  congrArg (fun x => { s with cores := tset {} s.cores c x }) h

theorem tdel_tput_same {α : Type} (t : Tbl α) (k : Nat) (v : α) : tdel (tput t k v) k = tdel t k := by
  induction t with
  | nil => simp [tput, tdel]
  | cons e r ih =>
    obtain ⟨k', v'⟩ := e
    rcases lt_trichotomy k k' with h | rfl | h
    · simp [tput, tdel, h]
    · simp [tput, tdel]
    · have hc (r : Tbl α) : tdel ((k', v') :: r) k = (k', v') :: tdel r k := by simp [tdel, h.ne]
      rw [tput, if_neg h.not_gt, if_neg h.ne', hc, hc, ih]

theorem tput_tput {α : Type} (t : Tbl α) (k : Nat) (v w : α) : tput (tput t k v) k w = tput t k w := by
  induction t with
  | nil => simp [tput]
  | cons e r ih =>
    obtain ⟨k', v'⟩ := e
    rcases lt_trichotomy k k' with h | rfl | h
    · simp [tput, h]
    · simp [tput]
    · simp [tput, h.not_gt, h.ne', ih]

/-- The second of two writes under a key stands, unless the first was of the default, which takes out every entry of the key. -/
theorem tset_tset {α : Type} [DecidableEq α] {d : α} {v : α} (h : v ≠ d) (t : Tbl α) (k : Nat) (w : α) :
    tset d (tset d t k v) k w = tset d t k w := by
  rw [tset, tset, if_neg h, tset, tput_tput, tdel_tput_same]

/-- A core in RUNNING is no default, so two changes of it are one. -/
theorem State.modCore_modCore {s : State} {c : Nat} {f : Core → Core} (h : (f (s.core c)).state = .running) (g : Core → Core) :
    (s.modCore c f).modCore c g = s.modCore c (fun x => g (f x)) := by
  have hd : f (s.core c) ≠ {} := fun hf => by simp [hf] at h
  have h2 : g ((s.modCore c f).core c) = g (f (s.core c)) := by simp
  simp only [State.modCore, State.core, tmod] at h2 hd ⊢
  rw [h2, tset_tset hd]

/-! ### When an instruction runs (R161, R170) -/

theorem badWord_zero : badWord 0 = false := by simp [badWord, readClass]

theorem delivered_zero (d : Nat) : delivered d 0 = d := by simp [delivered, readClass]

theorem fetches_iff {s : State} {c w : Nat} : fetches s c w = true ↔ coreRuns s c = true ∧ (s.core c).wait = false
    ∧ (s.core c).cycle ≤ 2 * s.now + 1 ∧ maskOf s.mem (progAddr c (s.core c).pc) = 0
    ∧ tget 0 (s.core c).prog (s.core c).pc = w ∧ (s.core c).rpt = 0 := by
  simp [fetches, and_assoc]

theorem fetches_rpt {s : State} {c w : Nat} (h : fetches s c w = true) : (s.core c).rpt = 0 := by
  obtain ⟨_, _, _, _, _, hr⟩ := fetches_iff.1 h
  exact hr

theorem fetches_running {s : State} {c w : Nat} (h : fetches s c w = true) : (s.core c).state = .running := by
  have hr := (fetches_iff.1 h).1
  simp only [coreRuns, Bool.and_eq_true, beq_iff_eq] at hr
  exact hr.1

/-- With no repeat in progress the instruction's end counts its cycles and goes to its jump, or to the next address. -/
theorem retire_single {t : State} {c : Nat} (hr : (t.core c).rpt = 0) (n : Nat) (j : Option Nat) :
    retire t c n j = t.modCore c (fun x => { stepped t x n with pc := j.getD ((x.pc + 1) % 16384) }) :=
  State.modCore_congr (by simp [hr, stepped])

section
variable {c : Fin 24} {op : Nat} {s : State} {act : State → Nat → Nat → State × Nat × Option Nat} {after : Core → Nat → Core}

theorem mvRun_held (h : coreRuns s c = false ∨ (s.core c).wait = true ∨ 2 * s.now + 1 < (s.core c).cycle) :
    mvRun c op s act after = .next s := by
  refine congrArg Host.Outcome.next (if_pos ?_)
  simpa [or_assoc] using h

theorem mvRun_free (hr : coreRuns s c = true) (hw : (s.core c).wait = false) (hc : (s.core c).cycle ≤ 2 * s.now + 1) :
    ¬ (!coreRuns s c || (s.core c).wait || decide (2 * s.now + 1 < (s.core c).cycle)) = true := by
  simp [hr, hw, hc]

theorem mvRun_fault (hr : coreRuns s c = true) (hw : (s.core c).wait = false) (hc : (s.core c).cycle ≤ 2 * s.now + 1)
    (hb : badWord (maskOf s.mem (progAddr c (s.core c).pc)) = true) :
    mvRun c op s act after = .next (coreFault (memEvents s (coreOwner s c).part (.tile (tileOfCore c))
      (wordEvents (progAddr c (s.core c).pc) (maskOf s.mem (progAddr c (s.core c).pc)))) c) :=
  congrArg Host.Outcome.next ((if_neg (mvRun_free hr hw hc)).trans (if_pos hb))

theorem mvRun_other (hr : coreRuns s c = true) (hw : (s.core c).wait = false) (hc : (s.core c).cycle ≤ 2 * s.now + 1)
    (hb : badWord (maskOf s.mem (progAddr c (s.core c).pc)) = false)
    (ho : iOp (delivered (tget 0 (s.core c).prog (s.core c).pc) (maskOf s.mem (progAddr c (s.core c).pc))) ≠ op) :
    mvRun c op s act after = .next s :=
  congrArg Host.Outcome.next ((if_neg (mvRun_free hr hw hc)).trans
    ((if_neg (ne_true_of_eq_false hb)).trans (if_pos ho)))

theorem mvRun_fetched {w : Nat} (h : fetches s c w = true) (ho : iOp w = op) :
    mvRun c op s act after = .next ((retire (act s c w).1 c (act s c w).2.1 (act s c w).2.2).modCore c (fun x => after x w)) := by
  obtain ⟨hr, hw, hc, hm, hp, _⟩ := fetches_iff.1 h
  refine congrArg Host.Outcome.next ((if_neg (mvRun_free hr hw hc)).trans ?_)
  simp [hm, badWord_zero, delivered_zero, hp, ho]

/-- The instruction's end and what follows it are one change of the core. -/
theorem mvRun_step {w n : Nat} {t : State} {j : Option Nat} (h : fetches s c w = true) (ho : iOp w = op)
    (hact : act s c w = (t, n, j)) (hs : (t.core c).state = .running) (hr : (t.core c).rpt = 0) :
    mvRun c op s act after =
      .next (t.modCore c (fun x => after { stepped t x n with pc := j.getD ((x.pc + 1) % 16384) } w)) := by
  rw [mvRun_fetched h ho, hact]
  refine congrArg Host.Outcome.next ?_
  rw [retire_single hr, State.modCore_modCore hs]

/-- An instruction of one cycle that changes shared registers only. -/
theorem mvScalar_step {w : Nat} {f : Core → Nat → Core} (h : fetches s c w = true) (ho : iOp w = op)
    (hs : (f (s.core c) w).state = (s.core c).state) (hr : (f (s.core c) w).rpt = (s.core c).rpt) :
    mvScalar c op s f = .next (s.modCore c (fun x => stepped s (f x w) 1)) := by
  have hs' : (f (s.core c) w).state = .running := hs.trans (fetches_running h)
  rw [mvScalar, mvOne, mvRun_step h ho rfl (by simpa using hs') (by simpa [hr] using fetches_rpt h)]
  exact congrArg Host.Outcome.next (State.modCore_modCore hs' _)

end

/-! ### Repeats, jumps and the gate (R161, R170) -/

theorem retire_repeat (s : State) (c n : Nat) (hs : (s.core c).stop = false) :
    (∀ r, (s.core c).rpt = r + 2 → retire s c n none = s.modCore c (fun x => { x with
      cycle := max x.cycle (2 * s.now) + n, rpt := r + 1 }))
    ∧ ((s.core c).rpt = 1 → retire s c n none = s.modCore c (fun x => { stepped s x n with rpt := 0 })) :=
  ⟨fun r hr => State.modCore_congr (by simp [hr]), fun hr => State.modCore_congr (by simp [hr, hs, stepped])⟩

theorem exec_marverInstr {c : Fin 24} {e : Nat × Instr} (h : e ∈ marverInstrs c) (s : State) :
    ∃ act after, exec e.2 s = mvRun c e.1 s act after := by
  simp only [marverInstrs, List.mem_cons, List.not_mem_nil, or_false] at h
  rcases h with rfl | rfl | rfl | rfl | rfl | rfl | rfl | rfl | rfl | rfl | rfl | rfl | rfl | rfl | rfl | rfl | rfl | rfl | rfl
    | rfl | rfl | rfl | rfl | rfl | rfl | rfl | rfl | rfl | rfl | rfl | rfl | rfl | rfl
  all_goals
    simp only [exec, execMvNop, execMvWait, execMvJmp, execMvBrz, execMvDjnz, execMvRpt, execMvLda, execMvLdm, execMvAdda,
      execMvSetk, execMvSetys, execMvIn, execMvLdi, execMvMov, execMvLdx, execMvLdy, execMvStx, execMvVadd, execMvVsub,
      execMvVshr, execMvCmul, execMvCmac, execMvCmacy, execMvTapm, execMvClra, execMvClrg, execMvMova, execMvCls3, execMvSti,
      execMvPge, execMvPrst, execMvPub, execMvRec, vectorOp, mvScalar, mvOne]
    exact ⟨_, _, rfl⟩

/-- DJNZ counts its register down (R161). -/
def countDown (w : Nat) (x : Core) : Core := { x with a := tset 0 x.a (iXa w) ((tget 0 x.a (iXa w) + 65535) % 65536) }

theorem execMvDjnz_step {s : State} {c : Fin 24} {w : Nat} (h : fetches s c w = true) (ho : iOp w = 0x04)
    {n : Nat} {j : Option Nat}
    (hj : (n, j) = if (tget 0 (s.core c).a (iXa w) + 65535) % 65536 = 0 then (1, none) else (2, some (iImm w 14))) :
    exec (.mvDjnz c) s =
      .next (s.modCore c (fun x => { stepped s (countDown w x) n with pc := j.getD ((x.pc + 1) % 16384) })) := by
  have hs : ((s.modCore c (countDown w)).core c).state = .running := by simpa [countDown] using fetches_running h
  have hr : ((s.modCore c (countDown w)).core c).rpt = 0 := by simpa [countDown] using fetches_rpt h
  simp only [exec, execMvDjnz]
  rw [mvRun_step (t := s.modCore c (countDown w)) (n := n) (j := j) h ho ?act hs hr]
  · rw [State.modCore_modCore (by simpa using hs)]
    exact congrArg Host.Outcome.next (State.modCore_congr (by simp [countDown, stepped]))
  case act =>
    have hc : s.modCore c (fun x => { x with a := tset 0 x.a (iXa w) ((tget 0 (s.core c).a (iXa w) + 65535) % 65536) })
        = s.modCore c (countDown w) := State.modCore_congr rfl
    rw [hc, hj]
    split <;> simp [*]

/-- Settles O43: each instruction is one change of its core; the gate of R161 and the fault of R170 come first. -/
theorem marverScalars : Obligations.MarverScalars := by
  refine ⟨?nop, ?wait, ?jmp, ?brz, ?brzNot, ?djnz, ?djnzNot, ?rpt, ?lda, ?ldm, ?adda, ?setk, ?setys, ?pge, ?prst,
    fun s c e he => ?gate, fun s c n hs => ?retires⟩
  case nop | wait | lda | ldm | adda | setk | setys | pge | prst =>
    intro s c w h ho
    simp only [exec, execMvNop, execMvWait, execMvLda, execMvLdm, execMvAdda, execMvSetk, execMvSetys, execMvPge, execMvPrst]
    exact mvScalar_step h ho rfl rfl
  case jmp =>
    intro s c w h ho
    simp only [exec, execMvJmp]
    exact mvRun_step (j := some (iImm w 14)) h ho rfl (fetches_running h) (fetches_rpt h)
  case rpt =>
    intro s c w h ho
    simp only [exec, execMvRpt]
    exact mvRun_step (j := none) h ho rfl (fetches_running h) (fetches_rpt h)
  case brz =>
    intro s c w h ho ha
    simp only [exec, execMvBrz]
    exact mvRun_step (j := some (iImm w 14)) h ho (if_pos ha) (fetches_running h) (fetches_rpt h)
  case brzNot =>
    intro s c w h ho ha
    simp only [exec, execMvBrz]
    exact mvRun_step (j := none) h ho (if_neg ha) (fetches_running h) (fetches_rpt h)
  case djnz =>
    intro s c w h ho ha
    rw [execMvDjnz_step h ho (if_neg ha).symm]
    exact congrArg Host.Outcome.next (State.modCore_congr (by simp [countDown, stepped]))
  case djnzNot =>
    intro s c w h ho ha
    rw [execMvDjnz_step h ho (if_pos ha).symm]
    exact congrArg Host.Outcome.next (State.modCore_congr (by simp [countDown, stepped, ha]))
  case gate =>
    obtain ⟨act, after, hx⟩ := exec_marverInstr he s
    rw [hx]
    exact ⟨mvRun_held, fun hr hw hc => ⟨mvRun_fault hr hw hc, mvRun_other hr hw hc⟩⟩
  case retires =>
    exact ⟨(retire_repeat s c n hs).1, (retire_repeat s c n hs).2, fun hr => (retire_single hr n none).trans (State.modCore_congr rfl)⟩

end Sys2Proof.Machine
end

section
/-! SUPPORT. The commands of the Marver cores (06 R173 to R176): O41. -/

namespace Sys2Proof.Machine

/-- Settles O41: each body is its rule's checks before one result, done at once, staged for APPLY_AT, or a report. -/
theorem marverCommands : Obligations.MarverCommands := by
  refine ⟨?load, ?start, ?stop, ?threadCfg, ?status⟩
  case load | threadCfg =>
    exact .of_body (fun _ _ => rfl) (fun _ _ => rfl) (fun _ _ _ => done_status ..)
  case start | stop =>
    exact .of_body (fun _ _ => rfl) (fun _ _ => rfl) (fun _ _ _ => scheduled_status ..)
  case status =>
    exact .of_body (fun _ _ => rfl) (fun _ _ => rfl) (fun _ _ _ => report_status ..)

end Sys2Proof.Machine
end

section
/-! SUPPORT. Events of the Marver cores, their dispatch and the time budget (06 R164, R165, R168): O42. -/

namespace Sys2Proof.Machine

theorem OnlyCore.modCore (s : State) (c : Nat) (g : Core → Core) : OnlyCore s (s.modCore c g) c :=
  ⟨fun d hd => by simp [Ne.symm hd], rfl⟩

theorem OnlyCore.trans {s t u : State} {c : Nat} (h : OnlyCore s t c) (h' : OnlyCore t u c) : OnlyCore s u c := by
  obtain ⟨hst, het⟩ := h
  obtain ⟨htu, heu⟩ := h'
  refine ⟨fun d hd => (htu d hd).trans (hst d hd), ?_⟩
  rw [← het, ← heu]

/-! ### Arrival (R164, R165) -/

theorem execMvEventArrival_none {s : State} {r : Fin 384} {k : MvEvent}
    (h : (s.rt r).windows.find? (fun w => eventDue s w k) = none) (adc : AdcTrace) :
    exec (.mvEventArrival r k adc) s = .next s := by
  simp only [exec, execMvEventArrival, h]

theorem deliver_running {s : State} {w : Window} {r : Nat} (hv : mvValid w.mv = true)
    (hr : (s.core (coreOfRt r)).state = .running) (kind j chain : Nat) (d : Int × Int) :
    deliver s w r kind j chain d =
      if ((s.core (coreOfRt r)).queue.filter (fun e => e.lane == laneOfRt r && e.slot == r % 2)).length ≥ 16 then
        loseEvent (coreHit s (coreOfRt r) mInOvf) r w.k
      else s.modCore (coreOfRt r) (fun x => { x with queue := x.queue ++
        [{ tick := s.now, at_ := stTick s, kind := kind, lane := laneOfRt r, slot := r % 2, rt := r, k := w.k, j := j
           chain := chain, datum := d }] }) := by
  simp [deliver, hv, hr]

/-! ### Dispatch (R165) -/

/-- The window of a dispatched event takes the event's flags and times. -/
def currentEvent (e : MvQueued) (w : MvWindow) : MvWindow :=
  { w with chain := e.chain, arrival := e.at_, trc := if e.kind = 0 then e.j else w.trc }

/-- The core that dispatches a group of the one event `e`. -/
def dispatched (e : MvQueued) (now : Nat) (x : Core) : Core :=
  { x with
    queue := x.queue.filter (fun q => groupKey q != groupKey e), wait := false, lp := 2 ^ e.lane, mask := 2 ^ e.lane
    a := tset 0 x.a 7 (groupKey e / 3 % 2), pc := cVec x.header (groupKey e % 3), cycle := max x.cycle (2 * now)
    cur := tset none x.cur e.lane (some (e.rt, e.k)), datum := tset none x.datum e.lane (some e.datum) }

theorem execMvDispatch_single {s : State} {c : Fin 24} {e : MvQueued} (hq : (s.core c).queue = [e])
    (hg : readyGroup s c = some (groupKey e)) :
    exec (.mvDispatch c) s = .next ((modWin s c e.rt e.k (currentEvent e)).modCore c (dispatched e s.now)) := by
  have hf : [e].filter (fun q => groupKey q == groupKey e) = [e] := by simp
  simp only [exec, execMvDispatch, hg, hq, hf]
  rfl

/-- Settles O42: an arrival, a dispatch and a budget check are each one equation of the window, the event or the group they
find. -/
theorem marverEvents : Obligations.MarverEvents := by
  refine ⟨fun s r j adc w h => ?trc, fun s r adc w h => ?endw, fun s r adc w l f p h hl => ?int,
    fun s r k adc h => execMvEventArrival_none h adc, fun s w r kind j chain d hv hr => ⟨fun hq => ?queued, fun hq => ?full⟩,
    fun s c e hq hg => ?dispatch, fun s c h => ?waits, fun s r w h => ?late, fun s r h => ?inBudget⟩
  case trc | endw => simp only [exec, execMvEventArrival, h]
  case int => simp only [exec, execMvEventArrival, h, hl]
  case queued =>
    rw [deliver_running hv hr, if_neg (not_le.2 hq)]
    exact State.modCore_congr rfl
  case full => rw [deliver_running hv hr, if_pos hq]
  case dispatch =>
    refine ⟨_, execMvDispatch_single hq hg, (OnlyCore.modCore ..).trans (OnlyCore.modCore ..), ?_⟩
    simp [modWin, dispatched, hq]
  case waits => simp only [exec, execMvDispatch, h]
  case late | inBudget => simp only [exec, execMvOverbudget, h, List.foldl_cons, List.foldl_nil]

end Sys2Proof.Machine
end

section
/-! SUPPORT. The lanes of a Marver core, and what one lane's instruction changes (06 R152 to R157, R163). -/

namespace Sys2Proof.Machine

/-! ### What a lane sees of its core

An instruction acts in its active lanes one after another. Each lane reads and writes registers of its own, so what it leaves
is what it would leave alone: `SameLane` says that two cores agree in a lane, and `LaneLocal` that an update of a lane is
blind to the others. -/

/-- Two cores agree in all that lane `m` keeps: V registers, accumulators with their holds, GOVL, STATE, CONF and X. -/
structure SameLane (m : Nat) (x y : Core) : Prop where
  v : ∀ r, r < 16 → vReg x m r = vReg y m r
  acc : ∀ a, a < 4 → accReg x m a = accReg y m a
  hold : ∀ a, a < 4 → tget false x.hold (4 * m + a) = tget false y.hold (4 * m + a)
  govl : bit x.govl m = bit y.govl m
  state : tget 0 x.stateL m = tget 0 y.stateL m
  conf : tget 0 x.confL m = tget 0 y.confL m
  mem : ∀ i, i < 2048 → tget 0 x.x (2048 * m + i) = tget 0 y.x (2048 * m + i)

theorem SameLane.refl (m : Nat) (x : Core) : SameLane m x x :=
  ⟨fun _ _ => rfl, fun _ _ => rfl, fun _ _ => rfl, rfl, rfl, rfl, fun _ _ => rfl⟩

theorem SameLane.trans {m : Nat} {x y z : Core} (h : SameLane m x y) (h' : SameLane m y z) : SameLane m x z where
  v r hr := (h.v r hr).trans (h'.v r hr)
  acc a ha := (h.acc a ha).trans (h'.acc a ha)
  hold a ha := (h.hold a ha).trans (h'.hold a ha)
  govl := h.govl.trans h'.govl
  state := h.state.trans h'.state
  conf := h.conf.trans h'.conf
  mem i hi := (h.mem i hi).trans (h'.mem i hi)

/-- An update of lane `l` leaves every other lane as it is, and what it leaves in lane `l` depends on lane `l` alone. -/
structure LaneLocal (g : Nat → Core → Core) : Prop where
  other : ∀ l m x, m ≠ l → SameLane m (g l x) x
  own : ∀ l x y, SameLane l x y → SameLane l (g l x) (g l y)

theorem LaneLocal.comp {f g : Nat → Core → Core} (hf : LaneLocal f) (hg : LaneLocal g) :
    LaneLocal (fun l x => g l (f l x)) where
  other l m x h := (hg.other l m _ h).trans (hf.other l m x h)
  own l x y h := hg.own l _ _ (hf.own l x y h)

/-- Lane updates of a list of lanes, one after another. -/
theorem LaneLocal.foldl {g : Nat → Core → Core} (hg : LaneLocal g) {ls : List Nat} (hn : ls.Nodup) (x : Core) (m : Nat) :
    (m ∈ ls → SameLane m (ls.foldl (fun y l => g l y) x) (g m x))
    ∧ (m ∉ ls → SameLane m (ls.foldl (fun y l => g l y) x) x) := by
  induction ls generalizing x with
  | nil => exact ⟨fun h => absurd h List.not_mem_nil, fun _ => .refl m x⟩
  | cons l ls ih =>
    obtain ⟨hl, hn⟩ := List.nodup_cons.1 hn
    obtain ⟨hin, hout⟩ := ih hn (g l x)
    refine ⟨fun h => ?_, fun h => ?_⟩
    · rcases List.mem_cons.1 h with rfl | hm
      · exact hout hl
      · have hne : m ≠ l := fun he => hl (he ▸ hm)
        exact (hin hm).trans (hg.own m _ _ (hg.other l m x hne))
    · obtain ⟨hne, hm⟩ := not_or.1 (mt List.mem_cons.2 h)
      exact (hout hm).trans (hg.other l m x hne)

/-- An update in each active lane of a core, in ascending order. -/
def coreLanes (x : Core) (g : Nat → Core → Core) : Core := (activeLanes x).foldl (fun y l => g l y) x

@[simp] theorem mem_activeLanes {x : Core} {l : Nat} : l ∈ activeLanes x ↔ l < 8 ∧ bit x.lp l = true := by simp [activeLanes]

theorem LaneLocal.active {g : Nat → Core → Core} (hg : LaneLocal g) {x : Core} {l : Nat} (hl : l < 8)
    (hb : bit x.lp l = true) : SameLane l (coreLanes x g) (g l x) :=
  (hg.foldl (List.nodup_range.filter _) x l).1 (mem_activeLanes.2 ⟨hl, hb⟩)

theorem LaneLocal.inactive {g : Nat → Core → Core} (hg : LaneLocal g) {x : Core} {l : Nat}
    (hb : bit x.lp l = false) : SameLane l (coreLanes x g) x :=
  (hg.foldl (List.nodup_range.filter _) x l).2 (by simp [hb])

/-- What no lane's update changes, the instruction does not change. -/
theorem coreLanes_keeps {α : Type} {φ : Core → α} {g : Nat → Core → Core} (h : ∀ l x, φ (g l x) = φ x) (x : Core) :
    φ (coreLanes x g) = φ x :=
  List.foldlRecOn _ _ (motive := fun y => φ y = φ x) rfl fun y hy l _ => (h l y).trans hy

/-! ### The instruction on the state -/

theorem OnlyCore.now {s t : State} {c : Nat} (h : OnlyCore s t c) : t.now = s.now := by
  obtain ⟨_, he⟩ := h
  rw [← he]
  rfl

theorem OnlyCore.refl (s : State) (c : Nat) : OnlyCore s s c := ⟨fun _ _ => rfl, rfl⟩

/-- An effect in each lane, on the core and on the rest of the state. -/
theorem inLanes_induct {s : State} {c : Nat} {f : State → Nat → State} {g : Nat → Core → Core} {P : State → Prop} (h0 : P s)
    (h : ∀ t l, P t → P (f t l) ∧ (f t l).core c = g l (t.core c)) :
    P (inLanes s c f) ∧ (inLanes s c f).core c = coreLanes (s.core c) g := by
  have hl (ls : List Nat) : P (ls.foldl f s) ∧ (ls.foldl f s).core c = ls.foldl (fun y l => g l y) (s.core c) := by
    induction ls using List.reverseRecOn with
    | nil => exact ⟨h0, rfl⟩
    | append_singleton ls l ih =>
      obtain ⟨hp, hc⟩ := ih
      obtain ⟨hp', hc'⟩ := h _ l hp
      simp only [List.foldl_append, List.foldl_cons, List.foldl_nil]
      exact ⟨hp', by rw [hc', hc]⟩
  exact hl _

/-- An effect in each lane that reads and writes its core only. -/
theorem inLanes_core {s : State} {c : Nat} {f : State → Nat → State} {g : Nat → Core → Core}
    (h : ∀ t l, t.now = s.now → f t l = t.modCore c (g l)) :
    OnlyCore s (inLanes s c f) c ∧ (inLanes s c f).core c = coreLanes (s.core c) g := by
  refine inLanes_induct (P := (OnlyCore s · c)) (.refl s c) fun t l ht => ?_
  rw [h t l ht.now]
  exact ⟨ht.trans (.modCore ..), by simp⟩

section
variable {c : Fin 24} {op w : Nat} {s : State} {act : State → Nat → Nat → State}

/-- An instruction of one cycle: its effect, then the shared registers step. -/
theorem mvOne_step (h : fetches s c w = true) (ho : iOp w = op) {u : State} (ha : act s c w = u) (hn : u.now = s.now)
    (hr : (u.core c).rpt = 0) : ∃ t, mvOne c op s act = .next t ∧ OnlyCore u t c ∧ t.core c = stepped s (u.core c) 1 := by
  subst ha
  refine ⟨_, mvRun_fetched h ho, ?_⟩
  rw [retire_single hr]
  exact ⟨(OnlyCore.modCore ..).trans (.modCore ..), by simp [stepped, hn]⟩

/-- An instruction of one cycle that acts in the lanes of its core, and then, by `post`, on the shared registers. -/
theorem mvOne_lanes (h : fetches s c w = true) (ho : iOp w = op) {f : State → Nat → State} {g : Nat → Core → Core}
    {u : State} {post : Core → Core} (ha : act s c w = u)
    (hu : OnlyCore (inLanes s c f) u c ∧ u.core c = post ((inLanes s c f).core c))
    (hf : ∀ t l, t.now = s.now → f t l = t.modCore c (g l)) (hg : ∀ l x, (g l x).rpt = x.rpt) (hp : ∀ x, (post x).rpt = x.rpt) :
    ∃ t, mvOne c op s act = .next t ∧ OnlyCore s t c ∧ t.core c = stepped s (post (coreLanes (s.core c) g)) 1 := by
  obtain ⟨hl, hc⟩ := inLanes_core hf
  obtain ⟨hlu, huc⟩ := hu
  have hsu := hl.trans hlu
  have hr : (coreLanes (s.core c) g).rpt = 0 := (coreLanes_keeps (φ := Core.rpt) hg _).trans (fetches_rpt h)
  obtain ⟨t, ht, hut, htc⟩ := mvOne_step h ho ha hsu.now (by rw [huc, hp, hc, hr])
  exact ⟨t, ht, hsu.trans hut, by rw [htc, huc, hc]⟩

end

/-! ### Entries of a lane -/

/-- Of a table with `n` entries for each lane, an entry of another lane is another entry. -/
theorem lane_entry_ne {n l m i j : Nat} (h : m ≠ l) (hi : i < n) (hj : j < n) : n * l + i ≠ n * m + j := by
  intro he
  have hl : (n * l + i) / n = l := by rw [Nat.mul_add_div (by omega), Nat.div_eq_of_lt hi, Nat.add_zero]
  have hm : (n * m + j) / n = m := by rw [Nat.mul_add_div (by omega), Nat.div_eq_of_lt hj, Nat.add_zero]
  exact h (by rw [← hm, ← he, hl])

/-! ### Lane masks -/

theorem bit_eq_testBit (n l : Nat) : bit n l = n.testBit l := by
  simp [bit, fld, Nat.testBit_eq_decide_div_mod_eq, Bool.beq_eq_decide_eq]

/-- A number, cut at bit `l`. -/
theorem exists_bit_split (n l : Nat) : ∃ p r, r < 2 ^ l ∧ n = 2 ^ l * (2 * p + b2n (bit n l)) + r := by
  refine ⟨n / 2 ^ l / 2, n % 2 ^ l, Nat.mod_lt _ (by positivity), ?_⟩
  have hb : b2n (bit n l) = n / 2 ^ l % 2 := by
    rcases Nat.mod_two_eq_zero_or_one (n / 2 ^ l) with h | h <;> simp [bit, fld, b2n, h]
  rw [hb, Nat.div_add_mod, Nat.div_add_mod]

theorem bit_split_same {l r : Nat} (hr : r < 2 ^ l) (p b : Nat) : bit (2 ^ l * (2 * p + b) + r) l = bit b 0 := by
  rw [bit_eq_testBit, bit_eq_testBit, Nat.testBit_two_pow_mul_add _ hr]
  simp

theorem bit_split_other {l m r p b b' : Nat} (hr : r < 2 ^ l) (h : m ≠ l) (hb : b < 2) (hb' : b' < 2) :
    bit (2 ^ l * (2 * p + b) + r) m = bit (2 ^ l * (2 * p + b') + r) m := by
  rw [bit_eq_testBit, bit_eq_testBit, Nat.testBit_two_pow_mul_add _ hr, Nat.testBit_two_pow_mul_add _ hr]
  split
  · rfl
  · obtain ⟨k, hk⟩ := Nat.exists_eq_add_one_of_ne_zero (show m - l ≠ 0 by omega)
    rw [hk, Nat.testBit_succ, Nat.testBit_succ]
    congr 1
    omega

theorem b2n_lt_two (b : Bool) : b2n b < 2 := by cases b <;> decide

theorem bit_clrBit (n l m : Nat) : bit (clrBit n l) m = (bit n m && decide (m ≠ l)) := by
  obtain ⟨p, r, hr, hn⟩ := exists_bit_split n l
  have hc : clrBit n l = 2 ^ l * (2 * p + 0) + r := by
    cases hb : bit n l with
    | false => simpa [clrBit, hb, b2n] using hn
    | true =>
      simp only [hb, b2n, if_true] at hn
      simp only [clrBit, hb, if_true, Nat.mul_add] at hn ⊢
      omega
  by_cases h : m = l
  · rw [h, hc, bit_split_same hr]
    simp [bit, fld]
  · rw [hc, bit_split_other hr h (by decide) (b2n_lt_two (bit n l)), ← hn]
    simp [h]

theorem bit_setBit (n l m : Nat) : bit (setBit n l) m = (bit n m || decide (m = l)) := by
  obtain ⟨p, r, hr, hn⟩ := exists_bit_split n l
  have hc : setBit n l = 2 ^ l * (2 * p + 1) + r := by
    cases hb : bit n l with
    | false =>
      simp only [hb, b2n, Bool.false_eq_true, if_false] at hn
      simp only [setBit, hb, Bool.false_eq_true, if_false, Nat.mul_add] at hn ⊢
      omega
    | true => simpa [setBit, hb, b2n] using hn
  by_cases h : m = l
  · rw [h, hc, bit_split_same hr]
    simp [bit, fld]
  · rw [hc, bit_split_other hr h (by decide) (b2n_lt_two (bit n l)), ← hn]
    simp [h]

/-! ### Accumulators (R156) -/

/-- A result is outside the 56 bits of an accumulator. -/
def beyond (z : Int × Int) : Bool :=
  decide (z.1 < -2 ^ 55 ∨ z.1 > 2 ^ 55 - 1 ∨ z.2 < -2 ^ 55 ∨ z.2 > 2 ^ 55 - 1)

/-- A result, limited to the 56 bits of an accumulator. -/
def limited (z : Int × Int) : Int × Int := (clip (-2 ^ 55) (2 ^ 55 - 1) z.1, clip (-2 ^ 55) (2 ^ 55 - 1) z.2)

/-- What `writeAcc` does to its core. -/
def putAcc (now l a : Nat) (z : Int × Int) (x : Core) : Core :=
  let held := tget false x.hold (4 * l + a)
  { x with
    acc := if held then x.acc else tset (0, 0) x.acc (4 * l + a) (limited z)
    hold := if !held && beyond z then tset false x.hold (4 * l + a) true else x.hold
    govl := if !held && beyond z then setBit x.govl l else x.govl
    flags := hitIf now (!held && beyond z) x.flags mGov }

theorem writeAcc_eq (s : State) (c l a : Nat) (z : Int × Int) : writeAcc s c l a z = s.modCore c (putAcc s.now l a z) := by
  refine State.modCore_congr ?_
  cases h : tget false (s.core c).hold (4 * l + a) <;> simp [putAcc, h, hitIf, beyond, limited]

theorem accReg_putAcc (now l a m b : Nat) (z : Int × Int) (x : Core) : accReg (putAcc now l a z x) m b =
    if 4 * l + a = 4 * m + b ∧ tget false x.hold (4 * l + a) = false then limited z else accReg x m b := by
  cases h : tget false x.hold (4 * l + a) <;> simp [putAcc, accReg, h, tget_tset]

theorem hold_putAcc (now l a i : Nat) (z : Int × Int) (x : Core) : tget false (putAcc now l a z x).hold i =
    (tget false x.hold i || (decide (4 * l + a = i) && beyond z)) := by
  by_cases hi : 4 * l + a = i
  · subst hi
    cases h : tget false x.hold (4 * l + a) <;> cases hb : beyond z <;> simp [putAcc, h, hb]
  · simp [putAcc, apply_ite (tget false · i), tget_tset_other _ _ _ hi, hi]

theorem govl_putAcc (now l a m : Nat) (z : Int × Int) (x : Core) : bit (putAcc now l a z x).govl m =
    (bit x.govl m || (decide (m = l) && !tget false x.hold (4 * l + a) && beyond z)) := by
  cases h : tget false x.hold (4 * l + a) <;> cases hb : beyond z <;> simp [putAcc, h, hb, bit_setBit]

theorem LaneLocal.putAcc {now a : Nat} {z : Nat → Core → Int × Int} (ha : a < 4)
    (hz : ∀ l x y, SameLane l x y → z l x = z l y) : LaneLocal (fun l x => putAcc now l a (z l x) x) where
  other l m x h :=
    { SameLane.refl m x with
      acc := fun b hb => (accReg_putAcc ..).trans (if_neg fun hc => lane_entry_ne h ha hb hc.1)
      hold := fun b hb => by simp [hold_putAcc, lane_entry_ne h ha hb]
      govl := by simp [govl_putAcc, h] }
  own l x y h :=
    { h with
      acc := fun b hb => by rw [accReg_putAcc, accReg_putAcc, h.hold a ha, h.acc b hb, hz l x y h]
      hold := fun b hb => by rw [hold_putAcc, hold_putAcc, h.hold b hb, hz l x y h]
      govl := by rw [govl_putAcc, govl_putAcc, h.govl, h.hold a ha, hz l x y h] }

/-- CLRA in a lane: the accumulator and its hold. -/
def clearAcc (a l : Nat) (x : Core) : Core :=
  { x with acc := tset (0, 0) x.acc (4 * l + a) (0, 0), hold := tset false x.hold (4 * l + a) false }

theorem LaneLocal.clearAcc {a : Nat} (ha : a < 4) : LaneLocal (clearAcc a) where
  other l m x h :=
    { SameLane.refl m x with
      acc := fun b hb => by simp [accReg, Machine.clearAcc, tget_tset, lane_entry_ne h ha hb]
      hold := fun b hb => by simp [Machine.clearAcc, tget_tset, lane_entry_ne h ha hb] }
  own l x y h :=
    { h with
      acc := fun b hb => by
        have := h.acc b hb
        simp only [accReg] at this
        simp [accReg, Machine.clearAcc, tget_tset, this]
      hold := fun b hb => by simp [Machine.clearAcc, tget_tset, h.hold b hb] }

/-- CLRG in a lane: GOVL and the holds of its accumulators. -/
def clearGuard (l : Nat) (x : Core) : Core :=
  { x with govl := clrBit x.govl l, hold := (List.range 4).foldl (fun h a => tset false h (4 * l + a) false) x.hold }

theorem hold_clearGuard (l m : Nat) {a : Nat} (ha : a < 4) (x : Core) :
    tget false (clearGuard l x).hold (4 * m + a) = (tget false x.hold (4 * m + a) && decide (m ≠ l)) := by
  by_cases h : m = l
  · subst h
    interval_cases a <;> simp [clearGuard, tget_tset, List.range_succ]
  · have hk : tget false (clearGuard l x).hold (4 * m + a) = tget false x.hold (4 * m + a) :=
      List.foldlRecOn _ _ (motive := fun t => tget false t (4 * m + a) = tget false x.hold (4 * m + a)) rfl
        fun t ht b hb => (tget_tset_other _ _ _ (lane_entry_ne h (List.mem_range.1 hb) ha)).trans ht
    simp [hk, h]

theorem LaneLocal.clearGuard : LaneLocal clearGuard where
  other l m x h :=
    { SameLane.refl m x with
      hold := fun b hb => by simp [hold_clearGuard, hb, h]
      govl := by simp [Machine.clearGuard, bit_clrBit, h] }
  own l x y h :=
    { h with
      hold := fun b hb => by simp [hold_clearGuard, hb]
      govl := by simp [Machine.clearGuard, bit_clrBit] }

/-! ### STATE, CONF and X -/

/-- CLS3 and STI in a lane. -/
def putClass (l st conf : Nat) (x : Core) : Core := { x with stateL := tset 0 x.stateL l st, confL := tset 0 x.confL l conf }

theorem LaneLocal.putClass {st conf : Nat → Core → Nat} (hs : ∀ l x y, SameLane l x y → st l x = st l y)
    (hc : ∀ l x y, SameLane l x y → conf l x = conf l y) : LaneLocal (fun l x => putClass l (st l x) (conf l x) x) where
  other l m x h :=
    { SameLane.refl m x with
      state := tget_tset_other _ _ _ (Ne.symm h)
      conf := tget_tset_other _ _ _ (Ne.symm h) }
  own l x y h :=
    { h with
      state := by simp [Machine.putClass, hs l x y h]
      conf := by simp [Machine.putClass, hc l x y h] }

/-- A word of a lane's X, written. -/
def putX (i : Nat) (v : Nat → Nat) (l : Nat) (x : Core) : Core :=
  { x with x := tset 0 x.x (2048 * l + i) (v l) }

theorem x_putX (i l k : Nat) (v : Nat → Nat) (x : Core) :
    tget 0 (putX i v l x).x k = if 2048 * l + i = k then v l else tget 0 x.x k := tget_tset ..

theorem LaneLocal.putX {i : Nat} (hi : i < 2048) (v : Nat → Nat) : LaneLocal (putX i v) where
  other l m x h :=
    { SameLane.refl m x with mem := fun j hj => (x_putX ..).trans (if_neg (lane_entry_ne h hi hj)) }
  own l x y h := { h with mem := fun j hj => by rw [x_putX, x_putX, h.mem j hj] }

end Sys2Proof.Machine
end

section
/-! SUPPORT. The accumulator and classification instructions of a Marver core (06 R154 to R157, R162, R163, R171): O45. -/

namespace Sys2Proof.Machine

/-! ### Shared registers -/

/-- A change of the address registers that reads the address, modifier and ring registers (R154). -/
structure AddressOnly (post : Core → Core) : Prop where
  frame : ∀ x, post x = { x with a := (post x).a }
  reads : ∀ x y, y.a = x.a → y.m = x.m → y.k = x.k → (post y).a = (post x).a

theorem AddressOnly.id : AddressOnly id := ⟨fun _ => rfl, fun _ _ h _ _ => h⟩

theorem AddressOnly.comp {f g : Core → Core} (hf : AddressOnly f) (hg : AddressOnly g) : AddressOnly (fun x => g (f x)) where
  frame x := by
    rw [hg.frame, hf.frame]
  reads x y ha hm hk := by
    refine hg.reads _ _ (hf.reads x y ha hm hk) ?_ ?_
    · rw [hf.frame x, hf.frame y]
      exact hm
    · rw [hf.frame x, hf.frame y]
      exact hk

theorem addressOnly_postMod (ar mr mode : Nat) : AddressOnly (postMod ar mr mode) where
  frame x := by
    simp only [postMod]
    split
    · rfl
    · split <;> rfl
    · rfl
  reads x y ha hm hk := by
    simp only [postMod, ha, hm, hk]
    split
    · exact ha
    · split <;> rfl
    · rfl

theorem AddressOnly.rpt {post : Core → Core} (h : AddressOnly post) (x : Core) : (post x).rpt = x.rpt := by rw [h.frame]

theorem addressOnly_postXY (w : Nat) : AddressOnly (fun x => postY w (postX w x)) :=
  .comp (addressOnly_postMod ..) (addressOnly_postMod ..)

/-! ### Fields of an instruction (R158) -/

theorem iAcc_lt (w : Nat) : iAcc w < 4 := Nat.mod_lt _ (by decide)

theorem iVa_lt (w : Nat) : iVa w < 16 := Nat.mod_lt _ (by decide)

theorem iVb_lt (w : Nat) : iVb w < 16 := Nat.mod_lt _ (by decide)

theorem nextX_lt (x : Core) (w : Nat) : nextX x w < 2048 := Nat.mod_lt _ (by decide)

/-! ### Reads of words without stored errors (R171) -/

theorem slicedEvents_clean {m : Mem} {n a : Nat} (h : ∀ j, j < n → maskOf m (a + j) = 0) : slicedEvents m n a = [] := by
  simp only [slicedEvents, List.flatMap_eq_nil_iff, List.mem_range]
  exact fun j hj => if_pos (h j hj)

theorem slicedValue_clean {m : Mem} {n a : Nat} (h : ∀ j, j < n → maskOf m (a + j) = 0) (v : Nat) :
    (slicedValue m n a v).isNone = false := by
  have hb : (List.range n).any (fun j => byteBad (maskOf m (a + j))) = false := by
    simp only [List.any_eq_false, List.mem_range]
    intro j hj
    simp [h j hj]
  simp [slicedValue, hb]

theorem noteReads_clean {s : State} {as : List (Nat × Nat)} (h : cleanReads s as = true) (c : Nat) : noteReads s c as = s := by
  have hc : ∀ a ∈ as.map (fun p => p.2), ∀ j, j < 8 → maskOf s.mem (a + j) = 0 := by
    simp only [cleanReads, List.all_eq_true, List.mem_range, beq_iff_eq] at h
    intro a ha
    obtain ⟨p, hp, rfl⟩ := List.mem_map.1 ha
    exact h p hp
  have hw : ∀ a ∈ (as.map (fun p => p.2)).eraseDups, ∀ j, j < 8 → maskOf s.mem (a + j) = 0 :=
    fun a ha => hc a (List.mem_eraseDups.1 ha)
  have he : ((as.map (fun p => p.2)).eraseDups).flatMap (slicedEvents s.mem 8) = [] :=
    List.flatMap_eq_nil_iff.2 fun a ha => slicedEvents_clean (hw a ha)
  have hf : ((as.map (fun p => p.2)).eraseDups).foldl
      (fun t a => if (slicedValue s.mem 8 a 0).isNone then coreHit t c mFetchFault else t) s = s :=
    List.foldlRecOn _ _ (motive := (· = s)) rfl fun t ht a ha => by rw [slicedValue_clean (hw a ha), ht]; rfl
  simp only [noteReads, he, memEvents, List.foldl_nil, hf]
  exact List.foldlRecOn _ _ (motive := (· = s)) rfl fun t ht p hp => by
    rw [slicedValue_clean (hc p.2 (List.mem_map_of_mem hp)), ht]; rfl

/-! ### What the multiplications have in common (R156) -/

theorem beyond_eq_false_iff {z : Int × Int} :
    beyond z = false ↔ -2 ^ 55 ≤ z.1 ∧ z.1 < 2 ^ 55 ∧ -2 ^ 55 ≤ z.2 ∧ z.2 < 2 ^ 55 := by
  simp only [beyond, decide_eq_false_iff_not]
  omega

/-- An accumulator that is not addressed, or that holds, stays as it is. -/
theorem putAcc_untouched {now l a b : Nat} {z : Int × Int} {x : Core} (h : b ≠ a ∨ tget false x.hold (4 * l + b) = true) :
    accReg (putAcc now l a z x) l b = accReg x l b
    ∧ tget false (putAcc now l a z x).hold (4 * l + b) = tget false x.hold (4 * l + b) := by
  rw [accReg_putAcc, hold_putAcc]
  by_cases he : b = a
  · subst he
    have hh := h.resolve_left (not_not.2 rfl)
    simp [hh]
  · simp [Ne.symm he]

/-- The accumulator `a` of every active lane takes the result `z` of its lane. -/
def accLanes (now a : Nat) (z : Nat → Core → Int × Int) (x : Core) : Core := coreLanes x (fun l y => putAcc now l a (z l y) y)

theorem accLanes_frame (now a : Nat) (z : Nat → Core → Int × Int) (x : Core) :
    ∃ acc hold govl flags, accLanes now a z x = { x with acc := acc, hold := hold, govl := govl, flags := flags } :=
  have h := coreLanes_keeps (φ := fun y : Core => { y with acc := [], hold := [], govl := 0, flags := [] })
    (g := fun l y => putAcc now l a (z l y) y) (fun _ _ => rfl) x
  let y := accLanes now a z x
  ⟨y.acc, y.hold, y.govl, y.flags,
    congrArg (fun u : Core => { u with acc := y.acc, hold := y.hold, govl := y.govl, flags := y.flags }) h⟩

/-- An instruction that runs the accumulators of its lanes and then modifies addresses writes as R156 says. -/
theorem writesAcc_of_accLanes {i : Instr} {s : State} {c w : Nat} {z : Nat → Core → Int × Int} {post : Core → Core}
    (hz : ∀ l x y, SameLane l x y → z l x = z l y) (hp : AddressOnly post)
    (hx : ∃ t, exec i s = .next t ∧ OnlyCore s t c
      ∧ t.core c = stepped s (post (accLanes s.now (iAcc w) z (s.core c))) 1) :
    WritesAcc i s c w (fun l => z l (s.core c)) post := by
  obtain ⟨t, ht, ho, hc⟩ := hx
  have hg : LaneLocal _ := .putAcc (now := s.now) (iAcc_lt w) hz
  have hacc (l a : Nat) : accReg (t.core c) l a = accReg (accLanes s.now (iAcc w) z (s.core c)) l a := by
    rw [hc, hp.frame]
    rfl
  have hhold : (t.core c).hold = (accLanes s.now (iAcc w) z (s.core c)).hold := by
    rw [hc, hp.frame]
    rfl
  refine ⟨t, ht, ho, fun l hl hb hh => ⟨?value, ?holds⟩, fun l a hl ha h => ?other, ?frame⟩
  case value =>
    rw [hacc, accLanes, (hg.active hl hb).acc _ (iAcc_lt w), accReg_putAcc, if_pos ⟨rfl, hh⟩]
    rfl
  case holds =>
    rw [hhold, accLanes, (hg.active hl hb).hold _ (iAcc_lt w), hold_putAcc, hh]
    simpa using beyond_eq_false_iff.symm
  case other =>
    rw [hacc, hhold, accLanes]
    cases hb : bit (s.core c).lp l with
    | false => exact ⟨(hg.inactive hb).acc a ha, (hg.inactive hb).hold a ha⟩
    | true =>
      rw [(hg.active hl hb).acc a ha, (hg.active hl hb).hold a ha]
      exact putAcc_untouched (h.resolve_left (by simp [hb]))
  case frame =>
    obtain ⟨acc, hold, govl, flags, hf⟩ := accLanes_frame s.now (iAcc w) z (s.core c)
    have ha : (post (accLanes s.now (iAcc w) z (s.core c))).a = (post (stepped s (s.core c) 1)).a := by
      rw [hf]
      exact hp.reads _ _ rfl rfl rfl
    rw [hc, hp.frame (accLanes ..), ha, hf, hp.frame (stepped s (s.core c) 1)]
    rfl

theorem writesAcc_of_inLanes {i : Instr} {op w : Nat} {s : State} {c : Fin 24} {act : State → Nat → Nat → State}
    {z : Nat → Core → Int × Int} {post : Core → Core} {u : State} (h : fetches s c w = true) (ho : iOp w = op)
    (hi : exec i s = mvOne c op s act) (ha : act s c w = u)
    (hu : OnlyCore (inLanes s c fun t l => writeAcc t c l (iAcc w) (z l (t.core c))) u c
      ∧ u.core c = post ((inLanes s c fun t l => writeAcc t c l (iAcc w) (z l (t.core c))).core c))
    (hp : AddressOnly post) (hz : ∀ l x y, SameLane l x y → z l x = z l y) : WritesAcc i s c w (fun l => z l (s.core c)) post := by
  refine writesAcc_of_accLanes hz hp ?_
  rw [hi]
  refine mvOne_lanes h ho ha hu (fun t l ht => ?_) (fun _ _ => rfl) hp.rpt
  rw [writeAcc_eq, ht]
  exact State.modCore_congr rfl

theorem SameLane.product {l w : Nat} {x y : Core} (h : SameLane l x y) :
    cmul (iConj w) (vReg x l (iVa w)) (vReg x l (iVb w)) = cmul (iConj w) (vReg y l (iVa w)) (vReg y l (iVb w)) := by
  rw [h.v _ (iVa_lt w), h.v _ (iVb_lt w)]

theorem writesAcc_cmul {s : State} {c : Fin 24} {w : Nat} (h : fetches s c w = true) (ho : iOp w = 0x20) :
    WritesAcc (.mvCmul c) s c w (fun l => cmul (iConj w) (vReg (s.core c) l (iVa w)) (vReg (s.core c) l (iVb w))) :=
  writesAcc_of_inLanes (z := fun l x => cmul (iConj w) (vReg x l (iVa w)) (vReg x l (iVb w))) h ho
    (execMvCmul.eq_def c s) rfl ⟨.refl .., rfl⟩ .id (fun _ _ _ => SameLane.product)

theorem writesAcc_cmac {s : State} {c : Fin 24} {w : Nat} (h : fetches s c w = true) (ho : iOp w = 0x21) :
    WritesAcc (.mvCmac c) s c w (fun l => addZ (accReg (s.core c) l (iAcc w))
      (cmul (iConj w) (vReg (s.core c) l (iVa w)) (vReg (s.core c) l (iVb w)))) :=
  writesAcc_of_inLanes (z := fun l x => addZ (accReg x l (iAcc w)) (cmul (iConj w) (vReg x l (iVa w)) (vReg x l (iVb w))))
    h ho (execMvCmac.eq_def c s) rfl ⟨.refl .., rfl⟩ .id (fun _ _ _ hl => by rw [hl.product, hl.acc _ (iAcc_lt w)])

theorem writesAcc_cmacy {s : State} {c : Fin 24} {w : Nat} (h : fetches s c w = true) (ho : iOp w = 0x22)
    (hy : cleanReads s (yReads s c w) = true) :
    WritesAcc (.mvCmacy c) s c w (fun l => addZ (accReg (s.core c) l (iAcc w))
      (cmul (iConj w) (vReg (s.core c) l (iVa w)) (readY s c w l))) (postY w) :=
  writesAcc_of_inLanes (z := fun l x => addZ (accReg x l (iAcc w)) (cmul (iConj w) (vReg x l (iVa w)) (readY s c w l)))
    (u := postXY _ c false true w) h ho (execMvCmacy.eq_def c s) (by rw [noteReads_clean hy]) ⟨.modCore .., by simp [postXY]⟩
    (addressOnly_postMod ..) (fun _ _ _ hl => by rw [hl.v _ (iVa_lt w), hl.acc _ (iAcc_lt w)])

/-! ### TAPM (R162) -/

/-- What TAPM does in a lane: a result into the accumulator `a`, and the word `v` into X at `i`. -/
def tapLane (now a i : Nat) (z : Nat → Core → Int × Int) (v : Nat → Nat) (l : Nat) (x : Core) : Core :=
  putX i v l (putAcc now l a (z l x) x)

section
variable {now a i : Nat} {z : Nat → Core → Int × Int} {v : Nat → Nat}

theorem laneLocal_tapLane (ha : a < 4) (hi : i < 2048) (hz : ∀ l x y, SameLane l x y → z l x = z l y) :
    LaneLocal (tapLane now a i z v) :=
  LaneLocal.comp (f := fun l x => putAcc now l a (z l x) x) (.putAcc ha hz) (.putX hi v)

theorem tapLane_frame (x : Core) : ∃ acc hold govl flags mem, coreLanes x (tapLane now a i z v) =
    { x with acc := acc, hold := hold, govl := govl, flags := flags, x := mem } :=
  have h := coreLanes_keeps (φ := fun y : Core => { y with acc := [], hold := [], govl := 0, flags := [], x := [] })
    (g := tapLane now a i z v) (fun _ _ => rfl) x
  let y := coreLanes x (tapLane now a i z v)
  ⟨y.acc, y.hold, y.govl, y.flags, y.x,
    congrArg (fun u : Core => { u with acc := y.acc, hold := y.hold, govl := y.govl, flags := y.flags, x := y.x }) h⟩

theorem rpt_tapLanes (x : Core) : (coreLanes x (tapLane now a i z v)).rpt = x.rpt := by
  obtain ⟨_, _, _, _, _, h⟩ := tapLane_frame (now := now) (a := a) (i := i) (z := z) (v := v) x
  rw [h]

end

@[simp] theorem State.core_clearErrs (s : State) (a n c : Nat) : (clearErrs s a n).core c = s.core c := rfl

theorem core_writeX (s : State) (c l i d : Nat) (z : Int × Int) : (writeX s c l i z).core d =
    if c = d then putX i (fun _ => packWord z) l (s.core c) else s.core d := by
  simp only [writeX, State.core_modCore, State.core_clearErrs, putX]

theorem now_writeX (s : State) (c l i : Nat) (z : Int × Int) : (writeX s c l i z).now = s.now := State.modCore_now ..

/-- The tick and the other cores, in which one core's lanes may change anything. -/
def OtherCores (s : State) (c : Nat) (t : State) : Prop := t.now = s.now ∧ ∀ d, d ≠ c → t.core d = s.core d

/-- One lane of TAPM, on the state. -/
theorem tap_step {s t : State} {c a i : Nat} (ht : OtherCores s c t) (l : Nat) (z : Nat → Core → Int × Int) (x : Nat → Int × Int) :
    OtherCores s c (writeX (writeAcc t c l a (z l (t.core c))) c l i (x l))
    ∧ (writeX (writeAcc t c l a (z l (t.core c))) c l i (x l)).core c =
      tapLane s.now a i z (fun l => packWord (x l)) l (t.core c) := by
  obtain ⟨hn, hd⟩ := ht
  refine ⟨⟨?_, fun d h => ?_⟩, ?_⟩
  · rw [now_writeX, writeAcc_eq, State.modCore_now, hn]
  · rw [core_writeX, if_neg h.symm, writeAcc_eq, State.core_modCore, if_neg h.symm, hd d h]
  · rw [core_writeX, if_pos rfl, writeAcc_eq, State.core_modCore, if_pos rfl, hn]
    simp only [tapLane, putX]

/-- An instruction of one cycle whose lanes each write a result and an X word, and that then modifies both addresses. -/
theorem mvOne_tap {op w a i : Nat} {s : State} {c : Fin 24} {act : State → Nat → Nat → State} {z : Nat → Core → Int × Int}
    {x : Nat → Int × Int} (h : fetches s c w = true) (ho : iOp w = op)
    (ha : act s c w = postXY (inLanes s c fun t l => writeX (writeAcc t c l a (z l (t.core c))) c l i (x l)) c true true w) :
    ∃ t, mvOne c op s act = .next t ∧ (∀ d, d ≠ c.val → t.core d = s.core d)
      ∧ t.core c = stepped s (postY w (postX w (coreLanes (s.core c) (tapLane s.now a i z (fun l => packWord (x l)))))) 1 := by
  obtain ⟨⟨hn, hd⟩, hc⟩ := inLanes_induct (s := s) (c := c) (P := OtherCores s c) ⟨rfl, fun _ _ => rfl⟩
    fun t l ht => tap_step (a := a) (i := i) ht l z x
  obtain ⟨t, ht, ⟨hut, _⟩, htc⟩ :=
    mvOne_step h ho ha hn (by simp [postXY, hc, (addressOnly_postXY w).rpt _, rpt_tapLanes, fetches_rpt h])
  refine ⟨t, ht, fun d hne => ?_, ?_⟩
  · rw [hut d hne, postXY, State.core_modCore, if_neg hne.symm, hd d hne]
  · rw [htc, postXY, State.core_modCore, if_pos rfl, hc]
    rfl

theorem execMvTapm_step {s : State} {c : Fin 24} {w : Nat} (h : fetches s c w = true) (ho : iOp w = 0x23)
    (hr : cleanReads s (xReads s c w ++ yReads s c w) = true) :
    ∃ t, exec (.mvTapm c) s = .next t ∧ (∀ d, d ≠ c.val → t.core d = s.core d)
      ∧ t.core c = stepped s (postY w (postX w (coreLanes (s.core c) (tapLane s.now (iAcc w) (nextX (s.core c) w)
        (fun l x => addZ (accReg x l (iAcc w)) (cmul (iConj w) (readX s c w l) (readY s c w l)))
        (fun l => packWord (readX s c w l)))))) 1 := by
  simp only [exec, execMvTapm]
  exact mvOne_tap h ho (by rw [noteReads_clean hr])

/-- The accumulators and the X words that TAPM leaves, and what it leaves alone. -/
theorem tapLanes_effect {s t : State} {c w a i : Nat} {z : Nat → Core → Int × Int} {v : Nat → Nat} (ha : a < 4) (hi : i < 2048)
    (hz : ∀ l x y, SameLane l x y → z l x = z l y)
    (hc : t.core c = stepped s (postY w (postX w (coreLanes (s.core c) (tapLane s.now a i z v)))) 1) :
    (∀ l, l < 8 → bit (s.core c).lp l = true →
      (tget false (s.core c).hold (4 * l + a) = false → accReg (t.core c) l a = limited (z l (s.core c)))
      ∧ tget 0 (t.core c).x (2048 * l + i) = v l)
    ∧ (t.core c).v = (s.core c).v ∧ (t.core c).y = (s.core c).y ∧ (t.core c).a = (postY w (postX w (s.core c))).a
    ∧ (t.core c).pc = ((s.core c).pc + 1) % 16384 := by
  have hp := addressOnly_postXY w
  rw [hp.frame] at hc
  refine ⟨fun l hl hb => ?_, ?_⟩
  · have hs := (laneLocal_tapLane (now := s.now) (v := v) ha hi hz).active hl hb
    refine ⟨fun hh => ?_, ?_⟩
    · calc accReg (t.core c) l a = accReg (coreLanes (s.core c) (tapLane s.now a i z v)) l a := by rw [hc]; rfl
        _ = accReg (putAcc s.now l a (z l (s.core c)) (s.core c)) l a := hs.acc a ha
        _ = limited (z l (s.core c)) := by rw [accReg_putAcc, if_pos ⟨rfl, hh⟩]
    · calc tget 0 (t.core c).x (2048 * l + i) = tget 0 (coreLanes (s.core c) (tapLane s.now a i z v)).x (2048 * l + i) := by
            rw [hc]; rfl
        _ = tget 0 (putX i v l (putAcc s.now l a (z l (s.core c)) (s.core c))).x (2048 * l + i) := hs.mem i hi
        _ = v l := by rw [x_putX, if_pos rfl]
  · obtain ⟨_, _, _, _, _, hf⟩ := tapLane_frame (now := s.now) (a := a) (i := i) (z := z) (v := v) (s.core c)
    rw [hc, hf]
    exact ⟨rfl, rfl, hp.reads _ _ rfl rfl rfl, rfl⟩

/-! ### Effects in the lanes that no result of 56 bits comes from (R156, R162, R163) -/

/-- An instruction whose one effect is `g` in each active lane. -/
def ActsInLanes (i : Instr) (s : State) (c : Nat) (g : Nat → Core → Core) : Prop :=
  ∃ t, exec i s = .next t ∧ OnlyCore s t c ∧ t.core c = stepped s (coreLanes (s.core c) g) 1

theorem actsInLanes_of_eq {i : Instr} {op w : Nat} {s : State} {c : Fin 24} {act : State → Nat → Nat → State}
    {f : State → Nat → State} {g : Nat → Core → Core} (h : fetches s c w = true) (ho : iOp w = op)
    (hi : exec i s = mvOne c op s act) (ha : act s c w = inLanes s c f) (hf : ∀ t l, f t l = t.modCore c (g l))
    (hg : ∀ l x, (g l x).rpt = x.rpt) : ActsInLanes i s c g := by
  rw [ActsInLanes, hi]
  exact mvOne_lanes (post := id) h ho ha ⟨.refl .., rfl⟩ (fun t l _ => hf t l) hg (fun _ => rfl)

theorem actsInLanes_clra {s : State} {c : Fin 24} {w : Nat} (h : fetches s c w = true) (ho : iOp w = 0x24) :
    ActsInLanes (.mvClra c) s c (clearAcc (iAcc w)) :=
  actsInLanes_of_eq h ho (execMvClra.eq_def c s) rfl (fun _ _ => rfl) (fun _ _ => rfl)

theorem actsInLanes_clrg {s : State} {c : Fin 24} {w : Nat} (h : fetches s c w = true) (ho : iOp w = 0x25) :
    ActsInLanes (.mvClrg c) s c clearGuard :=
  actsInLanes_of_eq h ho (execMvClrg.eq_def c s) rfl (fun _ _ => rfl) (fun _ _ => rfl)

/-- The thresholds and the shift of CLS3: of a V register and of the instruction. -/
def cls3Disc (w l : Nat) (x : Core) : Disc :=
  { l3 := bit w 5, thA := (vReg x l (iVb w)).1, thB := (vReg x l (iVb w)).2, confShift := iImm w 5 }

theorem actsInLanes_cls3 {s : State} {c : Fin 24} {w : Nat} (h : fetches s c w = true) (ho : iOp w = 0x28) :
    ActsInLanes (.mvCls3 c) s c (fun l x => putClass l (stateOf (cls3Disc w l x) (vReg x l (iVa w)).1)
      (confOf (cls3Disc w l x) (vReg x l (iVa w)).1) x) :=
  actsInLanes_of_eq h ho (execMvCls3.eq_def c s) rfl (fun _ _ => rfl) (fun _ _ => rfl)

theorem actsInLanes_sti {s : State} {c : Fin 24} {w : Nat} (h : fetches s c w = true) (ho : iOp w = 0x29) :
    ActsInLanes (.mvSti c) s c (fun l x => putClass l (iImm w 2) (fld w 2 8) x) :=
  actsInLanes_of_eq h ho (execMvSti.eq_def c s) rfl (fun _ _ => rfl) (fun _ _ => rfl)

/-- CLS3 and STI: STATE and CONF of the active lanes, and nothing else. -/
theorem classifies {i : Instr} {s : State} {c : Nat} {st conf : Nat → Core → Nat}
    (hs : ∀ l x y, SameLane l x y → st l x = st l y) (hc : ∀ l x y, SameLane l x y → conf l x = conf l y)
    (hx : ActsInLanes i s c (fun l x => putClass l (st l x) (conf l x) x)) :
    let x := s.core c
    ∃ t, exec i s = .next t ∧ OnlyCore s t c
      ∧ (∀ l, l < 8 → bit x.lp l = true → tget 0 (t.core c).stateL l = st l x ∧ tget 0 (t.core c).confL l = conf l x)
      ∧ (∀ l, l < 8 → bit x.lp l = false →
          tget 0 (t.core c).stateL l = tget 0 x.stateL l ∧ tget 0 (t.core c).confL l = tget 0 x.confL l)
      ∧ { t.core c with stateL := x.stateL, confL := x.confL } = stepped s x 1 := by
  obtain ⟨t, ht, ho, htc⟩ := hx
  have hg := LaneLocal.putClass hs hc
  refine ⟨t, ht, ho, fun l hl hb => ?_, fun l _ hb => ?_, ?_⟩
  · rw [htc]
    exact ⟨((hg.active hl hb).state).trans (by simp [putClass]), ((hg.active hl hb).conf).trans (by simp [putClass])⟩
  · rw [htc]
    exact ⟨(hg.inactive hb).state, (hg.inactive hb).conf⟩
  · have hf := coreLanes_keeps (φ := fun y : Core => { y with stateL := (s.core c).stateL, confL := (s.core c).confL })
      (g := fun l x => putClass l (st l x) (conf l x) x) (fun _ _ => rfl) (s.core c)
    rw [htc]
    exact congrArg (fun y => stepped s y 1) hf

theorem govl_clearGuards {x : Core} {l : Nat} (hl : l < 8) :
    bit (coreLanes x clearGuard).govl l = (bit x.govl l && !bit x.lp l) := by
  cases hb : bit x.lp l with
  | false => simpa using (LaneLocal.clearGuard.inactive hb).govl
  | true => exact ((LaneLocal.clearGuard.active hl hb).govl).trans (by simp [clearGuard, bit_clrBit])

theorem hold_clearGuards {x : Core} {l a : Nat} (hl : l < 8) (ha : a < 4) :
    tget false (coreLanes x clearGuard).hold (4 * l + a) = (tget false x.hold (4 * l + a) && !bit x.lp l) := by
  cases hb : bit x.lp l with
  | false => simpa using (LaneLocal.clearGuard.inactive hb).hold a ha
  | true => exact ((LaneLocal.clearGuard.active hl hb).hold a ha).trans (by simp [hold_clearGuard l l ha])

/-- Settles O45: each instruction is its effect in the active lanes, and no lane's effect reaches another lane. -/
theorem marverAccumulators : Obligations.MarverAccumulators := by
  refine ⟨fun s c w h => ⟨writesAcc_cmul h, writesAcc_cmac h, writesAcc_cmacy h⟩, fun s c w h ho hr => ?tapm,
    fun s c w h ho => ?clra, fun s c w h ho => ?clrg, fun s c w h ho => ?cls3, fun s c w h ho => ?sti⟩
  case tapm =>
    obtain ⟨t, ht, hd, hc⟩ := execMvTapm_step h ho hr
    exact ⟨t, ht, hd, tapLanes_effect (iAcc_lt w) (nextX_lt _ w) (fun _ _ _ hl => by rw [hl.acc _ (iAcc_lt w)]) hc⟩
  case clra =>
    obtain ⟨t, ht, hoc, hc⟩ := actsInLanes_clra h ho
    refine ⟨t, ht, hoc, fun l hl hb => ?_, ?_⟩
    · have hs := LaneLocal.active (.clearAcc (iAcc_lt w)) hl hb
      rw [hc]
      exact ⟨(hs.acc _ (iAcc_lt w)).trans (by simp [accReg, clearAcc]), (hs.hold _ (iAcc_lt w)).trans (by simp [clearAcc])⟩
    · have hf := coreLanes_keeps (φ := fun y : Core => { y with acc := (s.core c).acc, hold := (s.core c).hold })
        (g := clearAcc (iAcc w)) (fun _ _ => rfl) (s.core c)
      rw [hc]
      exact congrArg (fun y => stepped s y 1) hf
  case clrg =>
    obtain ⟨t, ht, hoc, hc⟩ := actsInLanes_clrg h ho
    refine ⟨t, ht, hoc, fun l hl => ?_, fun l a hl ha => ?_, ?_⟩
    · rw [hc]
      exact govl_clearGuards hl
    · rw [hc]
      exact hold_clearGuards hl ha
    · have hf := coreLanes_keeps (φ := fun y : Core => { y with govl := (s.core c).govl, hold := (s.core c).hold })
        (g := clearGuard) (fun _ _ => rfl) (s.core c)
      rw [hc]
      exact congrArg (fun y => stepped s y 1) hf
  case cls3 =>
    refine classifies (st := fun l x => stateOf (cls3Disc w l x) (vReg x l (iVa w)).1)
      (conf := fun l x => confOf (cls3Disc w l x) (vReg x l (iVa w)).1) ?_ ?_ (actsInLanes_cls3 h ho)
    all_goals
      intro l x y hl
      simp only [cls3Disc, hl.v _ (iVa_lt w), hl.v _ (iVb_lt w)]
  case sti => exact classifies (fun _ _ _ _ => rfl) (fun _ _ _ _ => rfl) (actsInLanes_sti h ho)

end Sys2Proof.Machine
end

section
/-! SUPPORT. STX and the hot-word tracker (06 R153, 14 R368, R384): O44. -/

namespace Sys2Proof.Machine

/-- A rewrite of whole words frees their entries of the hot-word tracker (14 R384). -/
theorem clearErrs_frees_hot {s : State} {a n : Nat} {e : Nat × HotEntry} (h : a ≤ e.2.addr) (h' : e.2.addr < a + n) :
    e ∉ (clearErrs s a n).mem.hot := by
  simp [clearErrs, h, h']

/-- STX in a single active lane rewrites one X word of that lane, and leaves the rest of memory as it is. -/
theorem execMvStx_single_lane {s : State} {c : Fin 24} {w l : Nat} (h : fetches s c w = true) (ho : iOp w = 0x15)
    (hl : activeLanes (s.core c) = [l]) :
    ∃ t, exec (.mvStx c) s = .next t ∧ t.mem = (clearErrs s (xAddr c l (xIndex (s.core c) w)) 8).mem := by
  simp only [exec, execMvStx, mvOne]
  refine ⟨_, mvRun_fetched h ho, ?_⟩
  simp only [inLanes, hl, List.foldl_cons, List.foldl_nil]
  rfl

/-- Core 0 in RUNNING in an ACTIVE tile, at an STX of lane 0 to X word 0, which has an entry in the hot-word tracker. -/
def storeToHotWord : State := { State.reset with
  cores := [(0, { state := .running, prog := [(0, 0x15 * 2 ^ 58)], lp := 1 })]
  power := { tiles := [(0, { state := .active })] }
  mem := { hot := [(0, { addr := xAddr 0 0 0 })] } }

/-- Refutes O44: STX rewrites its X word, which frees the word's entry of the hot-word tracker (14 R384), while the statement
has nothing of memory change but the stored errors. -/
theorem not_marverVectors : ¬ Obligations.MarverVectors := by
  intro h
  obtain ⟨_, hstx⟩ := h
  have hf : fetches storeToHotWord (0 : Fin 24) (0x15 * 2 ^ 58) = true := by decide
  obtain ⟨t, ht, _, _, _, _, hframe⟩ := hstx storeToHotWord 0 (0x15 * 2 ^ 58) hf (by decide)
  obtain ⟨u, hu, hmem⟩ := execMvStx_single_lane hf (by decide) (l := 0) (by decide)
  obtain rfl : t = u := by simpa [ht] using hu
  have hkept := congrArg (fun s : State => s.mem.hot) hframe
  have hin : (0, { addr := xAddr 0 0 0 }) ∈ t.mem.hot := by
    rw [show t.mem.hot = storeToHotWord.mem.hot from hkept]
    exact List.mem_singleton_self _
  rw [hmem] at hin
  exact clearErrs_frees_hot (by decide) (by decide) hin

end Sys2Proof.Machine
end

section
/-! SUPPORT. The bias commands (07 R203, R206 to R210): O47. -/

namespace Sys2Proof.Machine

/-- Where MRAM is not inhibited, the one thing that refuses a write of it is that it does not verify. -/
theorem firstFail_nvRefusal {s : State} (h : nvInhibit s = false) :
    firstFail (nvRefusal s) = if Config.nvVerifies s.now then none else some .nvFail := by
  cases hv : Config.nvVerifies s.now <;> simp [nvRefusal, firstFail, h, hv]

/-- Settles O47: each body is its rule's checks before one result, staged for APPLY_AT or a report, and BIAS_NV ends with the
checks of an MRAM write. -/
theorem biasCommands : Obligations.BiasCommands := by
  refine ⟨?groupCfg, ?cfg, ?run, ?test, ?clamp, ?nv, ?status⟩
  case groupCfg | cfg | run | test | clamp =>
    exact .of_body (fun _ _ => rfl) (fun _ _ => rfl) (fun _ _ _ => scheduled_status ..)
  case status =>
    exact .of_body (fun _ _ => rfl) (fun _ _ => rfl) (fun _ _ _ => report_status ..)
  case nv =>
    refine .of_checks (fun _ _ => rfl) (fun _ _ => rfl) (fun k t h => ?_) (fun _ _ _ => rfl) (fun _ _ _ => done_status ..)
    simp only [Bool.and_eq_true, beq_iff_eq, bne_iff_ne, Bool.not_eq_true'] at h
    obtain ⟨⟨⟨⟨⟨htid, hkind⟩, hrsv⟩, hslew⟩, howner⟩, hnv⟩ := h
    rw [← firstFail_nvRefusal hnv]
    exact firstFail_append (by simp [htid, hkind, hrsv, hslew, howner])

end Sys2Proof.Machine
end

section
/-! SUPPORT. A Loom after a change (08 R211 to R243): O39 and O40. -/

namespace Sys2Proof.Machine

@[simp] theorem State.loom_modLoom (s : State) (l m : Nat) (g : Loom → Loom) :
    (s.modLoom l g).loom m = if l = m then g (s.loom l) else s.loom m := by
  simp [State.modLoom, State.loom, tmod, tget_tset]

theorem State.modLoom_congr {s : State} {l : Nat} {f g : Loom → Loom} (h : f (s.loom l) = g (s.loom l)) :
    s.modLoom l f = s.modLoom l g :=
  congrArg (fun x => { s with looms := tset {} s.looms l x }) h

theorem looms_eq_of_unreported {s t : State} (h : unreported t = unreported s) : t.looms = s.looms :=
  (congrArg State.looms h : (unreported t).looms = (unreported s).looms)

@[simp] theorem memEvents_loom (s : State) (req : Nat) (src : Stop) (es : List MemEvt) (l : Nat) :
    (memEvents s req src es).loom l = s.loom l := by
  rw [State.loom, looms_eq_of_unreported (unreported_memEvents s req src es), State.loom]

end Sys2Proof.Machine
end

section
/-! SUPPORT. The commands of the Looms, the starts of shots and the marker outputs (08 R229 to R242): O39. -/

namespace Sys2Proof.Machine

/-! ### The shot start instant (R236 to R238) -/

/-- The start instant of the next shot of the run `r` of Loom `l` is now, and the Loom is in the run. -/
structure ShotDue (s : State) (l : Nat) (r : LoomRun) : Prop where
  active : loomActive (s.loom l) = true
  run : (s.loom l).run = some r
  goes : runOver r = false
  instant : s.st = r.at_ + 32 * r.period * r.next

/-- Loom `l` still runs a shot, or its tile, a stop or Sample Time keeps it from starting one (R238). -/
def shotHeld (s : State) (l : Nat) : Bool :=
  (s.loom l).state = .running || !tileActive s (tileOfLoom l) || stopCovers s (quadOfLoom l) || s.time.mode != .set

/-- A Loom that skips the next shot of its run `r`. -/
def skippedShot (r : LoomRun) (now : Nat) (x : Loom) : Loom :=
  let r' := { r with next := r.next + 1 }
  { x with
    flags := hit now x.flags lSkip
    state := if x.state = .armed && runOver r' then .loaded else x.state
    run := if x.state = .armed && runOver r' then none else some r' }

/-- A Loom that starts the next shot of its run `r` at ST `st`. -/
def startedShot (r : LoomRun) (st : Nat) (x : Loom) : Loom :=
  { loadRegs x (!x.started) with
    state := .running, run := some { r with next := r.next + 1 }, shot := (r.first + r.next) % 2 ^ 32, lastStart := st
    started := true, word := some (hEntry x.header, 0) }

theorem execShotStart_due {s : State} {l : Fin 96} {r : LoomRun} (h : ShotDue s l r) : exec (.shotStart l) s =
    .next (s.modLoom l (if shotHeld s l then skippedShot r s.now else startedShot r s.st)) := by
  obtain ⟨ha, hr, ho, hi⟩ := h
  have hgo : (!loomActive (s.loom l) || runOver r || s.st != r.at_ + 32 * r.period * r.next) = false := by
    simp [ha, ho, hi]
  simp only [exec, execShotStart, hr, hgo]
  cases hh : shotHeld s l with
  | true => exact congrArg Host.Outcome.next (if_pos hh)
  | false => exact congrArg Host.Outcome.next (if_neg (ne_true_of_eq_false hh))

theorem execShotStart_not_due {s : State} {l : Fin 96} (h : (s.loom l).run = none ∨ loomActive (s.loom l) = false
    ∨ ∀ r, (s.loom l).run = some r → runOver r = true ∨ s.st ≠ r.at_ + 32 * r.period * r.next) :
    exec (.shotStart l) s = .next s := by
  refine congrArg Host.Outcome.next ?_
  cases hr : (s.loom l).run with
  | none => rfl
  | some r =>
    refine if_pos ?_
    rcases h with h | h | h
    · simp [hr] at h
    · simp [h]
    · rcases h r hr with h | h <;> simp [h]

theorem skippedShot_goes {r : LoomRun} (h : runOver { r with next := r.next + 1 } = false) (now : Nat) (x : Loom) :
    skippedShot r now x = { x with flags := hit now x.flags lSkip, run := some { r with next := r.next + 1 } } := by
  simp [skippedShot, h]

/-! ### Marker outputs (R229) -/

/-- A MARK emission reaches marker `m` by device tick `now`. -/
def marksBy (now m : Nat) (e : Emission) : Bool := e.op == 8 && decide (e.tick ≤ now) && e.param % 8 == m

/-- A single MARK has no rival: as a pulse or as a level, it is the one change of the output that falls due. -/
theorem execEmitMark_single {s : State} {m : Fin 8} {e : Emission} (h : s.emits.filter (marksBy s.now m) = [e]) :
    exec (.emitMark m) s = .next { s with
      emits := s.emits.filter (fun e => !marksBy s.now m e)
      markOut := tmod {} s.markOut m (fun x => { x with
        due := x.due ++ [(s.now + 32, if e.param / 8 % 4 = 0 then 3 else e.param / 8 % 4, 32, true)] }) } := by
  unfold marksBy at h
  simp only [exec, execEmitMark, h]
  by_cases hp : e.param / 8 % 4 = 0
  · simp [hp, winner, marksBy, State.now]
  · simp [hp, winner, marksBy, State.now]

theorem execEmitMark_none {s : State} {m : Fin 8} (h : s.emits.filter (marksBy s.now m) = []) :
    exec (.emitMark m) s = .next s := by
  have hk : s.emits.filter (fun e => !marksBy s.now m e) = s.emits :=
    List.filter_eq_self.2 fun e he => by simp [List.filter_eq_nil_iff.1 h e he]
  unfold marksBy at h hk
  simp only [exec, execEmitMark, h, hk]
  rfl

/-- Settles O39: each command's body is its rule's checks before one result; a shot start instant and a marker take the branch
that the run, the Loom and the MARKs due select. -/
theorem loomRuns : Obligations.LoomRuns := by
  refine ⟨?load, ?cfg, ?run, ?stop, ?abort, ?status,
    fun s l r hr ho hi => ⟨fun ha ht hq hm => ?starts, fun hs hn => ?skips⟩,
    fun s l h => execShotStart_not_due h, fun s m e h => execEmitMark_single h, fun s m h => execEmitMark_none h⟩
  case load | cfg | stop =>
    exact .of_body (fun _ _ => rfl) (fun _ _ => rfl) (fun _ _ _ => done_status ..)
  case run | abort =>
    exact .of_body (fun _ _ => rfl) (fun _ _ => rfl) (fun _ _ _ => scheduled_status ..)
  case status =>
    exact .of_body (fun _ _ => rfl) (fun _ _ => rfl) (fun _ _ _ => report_status ..)
  case starts =>
    have hd : ShotDue s l r := ⟨by simp [loomActive, ha], hr, ho, hi⟩
    have hh : shotHeld s l = false := by simp [shotHeld, ha, ht, hq, hm]
    refine ⟨s.modLoom l (startedShot r s.st), ?_, ?_⟩
    · rw [execShotStart_due hd, hh]
      rfl
    · simp only [State.loom_modLoom, if_true]
      exact ⟨rfl, rfl, rfl, rfl, rfl, rfl, rfl, rfl, fun n hn => if_neg hn.symm, rfl⟩
  case skips =>
    have ha : loomActive (s.loom l) = true := by rcases hs with h | ⟨h, -⟩ <;> simp [loomActive, h]
    have hh : shotHeld s l = true := by rcases hs with h | ⟨-, h | h | h⟩ <;> simp [shotHeld, h]
    rw [execShotStart_due ⟨ha, hr, ho, hi⟩, hh, if_pos rfl]
    exact congrArg Host.Outcome.next (State.modLoom_congr (skippedShot_goes hn ..))

end Sys2Proof.Machine
end

section
/-! SUPPORT. The microword of a tick and the word that follows (08 R211 to R224, R233): O40. -/

namespace Sys2Proof.Machine

/-! ### The presentation (R211, R233) -/

/-- A code word of the word at `a` of Loom `l` is uncorrectable. -/
def wordUnreadable (s : State) (l a : Nat) : Bool :=
  (List.range 5).any (fun i => badWord (maskOf s.mem (draftAddr l a i)))

/-- The fetch of the word at `a`: Loom `l` presents in this tick, and the reads of the code words are reported. -/
def fetchWord (s : State) (l a : Nat) : State :=
  memEvents (s.modLoom l (fun x => { x with last := s.now + 1 })) (loomOwner s l).part (.tile (tileOfLoom l))
    ((List.range 5).flatMap (fun i => wordEvents (draftAddr l a i) (maskOf s.mem (draftAddr l a i))))

/-- A Loom in tick `j` of the word at `a`; `x` has its index registers before the word's own operation. -/
def atWord (a j : Nat) (x y : Loom) : Loom := { y with pc := a, ixPre := if j = 0 then x.index else x.ixPre }

/-- The first tick of the word `w` at `a`: its actions, and the word that follows. -/
def firstTick (s : State) (l a w : Nat) (pre : Tbl Nat) : State :=
  let p := (presentSlots s l w).modLoom l (fun y => { y with
    index := indexOp w y.counters y.index, counters := counterOp w y.counters })
  advance (pushRecord (raises (publish p l w) l w) l a w) l a w 0 pre

theorem fetchWord_loom (s : State) (l a : Nat) : (fetchWord s l a).loom l = { s.loom l with last := s.now + 1 } := by
  simp [fetchWord]

/-- The registers that the word's operations and conditions read are those from before the fetch. -/
theorem modLoom_atWord_fetchWord (s : State) (l a j : Nat) :
    (fetchWord s l a).modLoom l (fun y => atWord a j y y) = (fetchWord s l a).modLoom l (atWord a j (s.loom l)) :=
  State.modLoom_congr (by rw [fetchWord_loom]; rfl)

section
variable {s : State} {l : Fin 96} {a j : Nat} (hw : (s.loom l).word = some (a, j)) (hr : (s.loom l).state = .running)
  (hl : (s.loom l).last ≠ s.now + 1)
include hw hr hl

theorem execMicroword_running : exec (.microword l) s = .next (
    if wordUnreadable s l a then draftFault (fetchWord s l a) l
    else
      let w := tget 0 (s.loom l).words a
      let u := (fetchWord s l a).modLoom l (fun y => atWord a j y y)
      if j = 0 then firstTick u l a w (s.loom l).counters else advance u l a w j (u.loom l).counters) := by
  have hgo : ¬ ((s.loom l).state != .running || (s.loom l).last == s.now + 1) = true := by simp [hr, hl]
  simp only [exec, execMicroword, hw]
  exact congrArg Host.Outcome.next (if_neg hgo)

theorem execMicroword_unreadable (h : wordUnreadable s l a = true) :
    exec (.microword l) s = .next (draftFault (fetchWord s l a) l) := by
  rw [execMicroword_running hw hr hl, if_pos h]

theorem execMicroword_first (h : wordUnreadable s l a = false) (hj : j = 0) : exec (.microword l) s = .next (
    firstTick ((fetchWord s l a).modLoom l (atWord a j (s.loom l))) l a (tget 0 (s.loom l).words a) (s.loom l).counters) := by
  rw [execMicroword_running hw hr hl, if_neg (ne_true_of_eq_false h), modLoom_atWord_fetchWord]
  exact congrArg Host.Outcome.next (if_pos hj)

theorem execMicroword_later (h : wordUnreadable s l a = false) (hj : j ≠ 0) : exec (.microword l) s = .next (
    advance ((fetchWord s l a).modLoom l (atWord a j (s.loom l))) l a (tget 0 (s.loom l).words a) j (s.loom l).counters) := by
  have hc : (((fetchWord s l a).modLoom l (atWord a j (s.loom l))).loom l).counters = (s.loom l).counters := by
    simp [atWord, fetchWord_loom]
  rw [execMicroword_running hw hr hl, if_neg (ne_true_of_eq_false h), modLoom_atWord_fetchWord]
  exact congrArg Host.Outcome.next ((if_neg hj).trans (by rw [hc]))

end

theorem execMicroword_idle {s : State} {l : Fin 96}
    (h : (s.loom l).word = none ∨ (s.loom l).state ≠ .running ∨ (s.loom l).last = s.now + 1) :
    exec (.microword l) s = .next s := by
  refine congrArg Host.Outcome.next ?_
  cases hw : (s.loom l).word with
  | none => rfl
  | some p =>
    refine if_pos ?_
    rcases h with h | h | h
    · simp [hw] at h
    · simp [h]
    · simp [h]

/-! ### The word that follows (R220, R221) -/

/-- Loom `l` presents tick `p.2` of the word at `p.1` next. -/
def goWord (s : State) (l : Nat) (p : Nat × Nat) : State := s.modLoom l (fun x => { x with word := some p })

section
variable {w j : Nat} (s : State) (l a : Nat) (pre : Tbl Nat)

theorem advance_end (he : uEnd w = true) :
    advance s l a w j pre = if j = uHold w then endShot s l else goWord s l (a, j + 1) :=
  if_pos he

theorem advance_tested (he : uEnd w = false) (h : j = uHold w ∨ uUntil w = true) : advance s l a w j pre =
    if (testCond s l w pre).true_ then goWord (clearLatch (testCond s l w pre).next l w) l (uAlt w, 0)
    else goWord (testCond s l w pre).next l (if j = uHold w then (uNext w, 0) else (a, j + 1)) :=
  (if_neg (ne_true_of_eq_false he)).trans (if_pos (by simpa using h))

theorem advance_held (he : uEnd w = false) (hj : j ≠ uHold w) (hu : uUntil w = false) :
    advance s l a w j pre = goWord s l (a, j + 1) :=
  (if_neg (ne_true_of_eq_false he)).trans (if_neg (by simp [hj, hu]))

end

/-! ### The counter operation (R218) -/

theorem counterOp_other {w i : Nat} (h : i ≠ uCsel w) (c : Tbl Nat) : tget 0 (counterOp w c) i = tget 0 c i := by
  unfold counterOp
  split
  case h_5 => rfl
  all_goals exact tget_tset_other 0 c _ h.symm

/-- Settles O40: the fetch leaves the Loom's registers, so its ticks are those of the Loom before it; the word that follows is
chosen by END, the end of HOLD, UNTIL and the condition. -/
theorem microwords : Obligations.Microwords := by
  refine ⟨fun s l a j hw hr hl => ⟨fun h => ⟨execMicroword_first hw hr hl h, execMicroword_later hw hr hl h⟩,
    execMicroword_unreadable hw hr hl⟩, fun s l => execMicroword_idle, fun s l a w j pre => ?follows, fun w c _ => ?counter⟩
  case follows =>
    refine ⟨fun he hj => ?_, fun he hj => ?_, fun he h ht => ?_, fun he hj ht => ?_, fun he hj hu ht => ?_,
      advance_held s l a pre⟩
    · rw [advance_end s l a pre he, if_pos hj]
    · exact (advance_end s l a pre he).trans (if_neg hj)
    · exact (advance_tested s l a pre he h).trans (if_pos ht)
    · rw [advance_tested s l a pre he (.inl hj), if_neg (ne_true_of_eq_false ht), if_pos hj]
      rfl
    · rw [advance_tested s l a pre he (.inr hu), if_neg (ne_true_of_eq_false ht), if_neg hj]
      rfl
  case counter =>
    refine ⟨fun h => ?_, fun h => ?_, fun h => ?_, fun h => ?_, fun h => ?_, fun i hi => counterOp_other hi c⟩
    all_goals simp [counterOp, h]

end Sys2Proof.Machine
end

section
/-! SUPPORT. The Harness commands, marker inputs, deliveries and table checks (10 R265 to R283): O35. -/

namespace Sys2Proof.Machine

/-! ### Marker inputs (R270) -/

/-- An edge writes the level of its own input and no sample of it. -/
theorem markIn_after_edge (s : State) (m : Fin 8) (r : Bool) (n : Nat) :
    tget {} (tmod {} s.markIn m (fun x => { x with level := r })) n =
      if m.val = n then { tget {} s.markIn m with level := r } else tget {} s.markIn n := by
  rw [tmod, tget_tset]

/-! ### Deliveries (R265, R271) -/

section
variable {s : State} {ch : Fin 1024}

theorem execHarnessEventDelivery_near {c : Carry} (h : pendingDelivery s ch true = some c)
    (hf : pendingDelivery (deliverSegment (delivered_ s c true) (segmentOf ch) c) ch false = none) :
    exec (.harnessEventDelivery ch) s = .next (deliverSegment (delivered_ s c true) (segmentOf ch) c) := by
  simp only [exec, execHarnessEventDelivery, h, hf]

theorem execHarnessEventDelivery_far {c : Carry} (h : pendingDelivery s ch true = none) (hf : pendingDelivery s ch false = some c) :
    exec (.harnessEventDelivery ch) s = .next
      (((List.range 13).filter (fun g => g != segmentOf ch)).foldl (fun u g => deliverSegment u g c) (delivered_ s c false)) := by
  simp only [exec, execHarnessEventDelivery, h, hf]

theorem execHarnessEventDelivery_none (h : pendingDelivery s ch true = none) (hf : pendingDelivery s ch false = none) :
    exec (.harnessEventDelivery ch) s = .next s := by
  simp only [exec, execHarnessEventDelivery, h, hf]

end

/-! ### The table check (R283) -/

theorem State.modChan_congr {s : State} {c : Nat} {f g : Channel → Channel} (h : f (s.chan c) = g (s.chan c)) :
    s.modChan c f = s.modChan c g := by
  unfold State.chan at h
  simp only [State.modChan, tmod, h]

/-- The two bytes of a channel's enables, put together again. -/
theorem enables_of_bytes {v : Nat} (h : v < 2 ^ 16) : fld v (8 * 0) 8 * 2 ^ (8 * 0) + fld v (8 * 1) 8 * 2 ^ (8 * 1) = v := by
  have hs := sum_bytes v 2
  rw [Nat.mod_eq_of_lt h] at hs
  simpa [List.range_succ] using hs

/-- Where both bytes of the enables can be read, the registers take the stored copy, and each unreadable byte is reported. -/
theorem checkChan_of_readable_enables {s : State} {ch : Nat} (h0 : 0 ∉ badBytes s ch) (h1 : 1 ∉ badBytes s ch)
    (hw : (s.chan ch).stored < 2 ^ 16) : checkChan s ch =
      (badBytes s ch).foldl (fun u j => tblErr u ch j) (s.modChan ch (fun x => { x with pen := x.stored })) := by
  unfold checkChan
  refine congrArg (fun u => (badBytes s ch).foldl (fun u j => tblErr u ch j) u) (State.modChan_congr ?_)
  simp only [List.contains_iff_mem, h0, h1, if_false, enables_of_bytes hw]

/-- A check with one channel to look at, and no selection. -/
theorem execHarnessTableCheck_one {s : State} {ch : Nat} (h : slowNow s = true) (hc : checkNeeded s = [ch])
    (hs : selsNeeded s = []) : exec .harnessTableCheck s = .next (checkChan s ch) := by
  have hd : [ch].eraseDups = [ch] := by simp [List.eraseDups_cons]
  simp [exec, execHarnessTableCheck, h, hc, hs, hd]

theorem execHarnessTableCheck_between {s : State} (h : slowNow s = false) : exec .harnessTableCheck s = .next s := by
  simp [exec, execHarnessTableCheck, h]

theorem checkSel_unreadable {s : State} {key : Nat} (h : byteBad (maskOf s.mem (selAddr key)) = true) :
    checkSel s key = tblErr s (selChan key (selRegs s key)) (selAddr key % 2 ^ 16) := if_pos h

theorem checkSel_readable {s : State} {key : Nat} (h : byteBad (maskOf s.mem (selAddr key)) = false) :
    checkSel s key = (tget none s.harness.sels key).elim s (setSel s key) := by
  unfold checkSel
  rw [if_neg (ne_true_of_eq_false h)]
  cases tget none s.harness.sels key with
  | none => rfl
  | some w => rfl

/-- Settles O35: each command's body is its rule's checks before one result; an edge writes one level, a delivery follows what
is pending, and a table check restores the enables whose bytes can be read. -/
theorem harnessCommandsAndEvents : Obligations.HarnessCommandsAndEvents := by
  refine ⟨?cfg, ?sink, ?fire, ?status, fun s m r => ⟨_, rfl, ?level, ?samples, fun n hn => ?others, rfl⟩,
    fun s ch c h hf => execHarnessEventDelivery_near h hf,
    fun s ch h => ⟨fun c hf => execHarnessEventDelivery_far h hf, fun hf => execHarnessEventDelivery_none h hf⟩,
    fun s hn ch hc hs => ⟨fun hb hw => ?repaired, fun j hj hb hw => ?reported⟩, fun s ch j => rfl,
    fun s key w h => ⟨fun hw => ?stored, fun hw => ?empty⟩, fun s key h => checkSel_unreadable h,
    fun s h => execHarnessTableCheck_between h⟩
  case cfg | sink =>
    exact .of_body (fun _ _ => rfl) (fun _ _ => rfl) (fun _ _ _ => rfl)
  case fire =>
    exact .of_body (fun _ _ => rfl) (fun _ _ => rfl) (fun _ _ _ => scheduled_status ..)
  case status =>
    exact .of_body (fun _ _ => rfl) (fun _ _ => rfl) (fun _ _ _ => report_status ..)
  case level | samples => rw [markIn_after_edge, if_pos rfl]
  case others => rw [markIn_after_edge, if_neg hn.symm]
  case repaired =>
    rw [execHarnessTableCheck_one hn hc hs, checkChan_of_readable_enables (by simp [hb]) (by simp [hb]) hw, hb]
    rfl
  case reported =>
    have h0 : 0 ∉ badBytes s ch := by rw [hb, List.mem_singleton]; omega
    have h1 : 1 ∉ badBytes s ch := by rw [hb, List.mem_singleton]; omega
    rw [execHarnessTableCheck_one hn hc hs, checkChan_of_readable_enables h0 h1 hw, hb]
    rfl
  case stored => rw [checkSel_readable h, hw]; rfl
  case empty => rw [checkSel_readable h, hw]; rfl

end Sys2Proof.Machine
end

section
/-! SUPPORT. A Spool after entries have moved (11 R290 to R297, R307, R308): O51. -/

namespace Sys2Proof.Machine

/-! ### Writes that name no Spool -/

theorem dma_eq_of_unreported {s t : State} (h : unreported t = unreported s) : t.dma = s.dma :=
  (congrArg State.dma h : (unreported t).dma = (unreported s).dma)

@[simp] theorem spools_msix (s : State) (f v : Nat) : (msix s f v).spools = s.spools := by
  simp [msix, sendVector, apply_ite State.spools]

@[simp] theorem spools_spoolVector (s : State) (p : Spool) : (spoolVector s p).spools = s.spools := by
  unfold spoolVector
  split <;> simp

@[simp] theorem spools_assertLine (s : State) (l : Line) : (assertLine s l).spools = s.spools := rfl

@[simp] theorem spools_hostWrites (u : Nat) (relaxed : Bool) (k : Nat) (s : State) (f a : Nat) (d : List Byte)
    (bad : List Nat) (off : Nat) : (hostWrites u relaxed k s f a d bad off).spools = s.spools := by
  induction k generalizing s a d off with
  | zero => rfl
  | succ k ih => simp [hostWrites, apply_ite State.spools, ih]

@[simp] theorem spools_bitmapFix (s : State) (a : Nat) : (bitmapFix s a).1.spools = s.spools := by
  unfold bitmapFix
  split
  · dsimp only
    split <;> rfl
  · rfl

@[simp] theorem spools_openRegion (s : State) (a : Nat) : (openRegion s a).spools = s.spools := by
  unfold openRegion
  split <;> rfl

@[simp] theorem spools_setLine (s : State) (a : Nat) (v : Bool) : (setLine s a v).spools = s.spools := rfl

@[simp] theorem spools_writeLine (s : State) (a : Nat) (d : List Byte) : (writeLine s a d).1.spools = s.spools := by
  simp [writeLine, apply_ite Prod.fst, apply_ite State.spools]

@[simp] theorem spools_ddrWriteAux (k : Nat) (s : State) (a : Nat) (d : List Byte) :
    (ddrWriteAux k s a d).1.spools = s.spools := by
  induction k generalizing s a d with
  | zero => rfl
  | succ k ih => simp [ddrWriteAux, apply_ite Prod.fst, apply_ite State.spools, ih]

@[simp] theorem spools_ringWrite (s : State) (p : Spool) (i : Nat) (e : List Byte) :
    (ringWrite s p i e).1.spools = s.spools := by
  unfold ringWrite
  dsimp only
  split
  · simp [hostStore]
  · simp [ddrWrite]
  · rfl

/-! ### The notification (R287, R295) -/

/-- A notification may disarm its Spool, and changes no other field of any. -/
theorem spool_notify (s : State) (n o m : Nat) : ∃ a, (notify s n o).spool m = { s.spool m with armed := a } := by
  unfold notify
  extract_lets p u
  have hu : ∀ k, u.spool k = s.spool k := by
    intro k
    unfold u
    split <;> rfl
  split
  · split
    · rw [State.spool, spools_spoolVector, ← State.spool, State.spool_modSpool, hu, hu]
      split
      next h => exact ⟨false, by rw [h]⟩
      next => exact ⟨_, rfl⟩
    · exact ⟨_, hu m⟩
  · exact ⟨_, rfl⟩

theorem notify_of_off {s : State} {n : Nat} (h : (s.spool n).notify = 0) (o : Nat) : notify s n o = s := by
  simp [notify, notifyMet, h]

/-! ### What waits for a Spool stays, and no FAULT is cleared -/

/-- From `s` to `t` the waiting producers and the reorder window of every Spool stay, and one in FAULT remains in it. -/
structure QueuesKept (s t : State) : Prop where
  waiting : ∀ m, (t.spool m).waiting = (s.spool m).waiting
  resv : ∀ m, (t.spool m).resv = (s.spool m).resv
  fault : ∀ m, (s.spool m).fault = true → (t.spool m).fault = true

theorem QueuesKept.refl (s : State) : QueuesKept s s := ⟨fun _ => rfl, fun _ => rfl, fun _ h => h⟩

theorem QueuesKept.trans {s t u : State} (h : QueuesKept s t) (h' : QueuesKept t u) : QueuesKept s u :=
  ⟨fun m => (h'.waiting m).trans (h.waiting m), fun m => (h'.resv m).trans (h.resv m), fun m hf => h'.fault m (h.fault m hf)⟩

theorem QueuesKept.of_spools {s t : State} (h : t.spools = s.spools) : QueuesKept s t := by
  have hm : ∀ m, t.spool m = s.spool m := fun m => by rw [State.spool, h, State.spool]
  exact ⟨fun m => by rw [hm], fun m => by rw [hm], fun m hf => by rw [hm, hf]⟩

theorem QueuesKept.modSpool (s : State) (n : Nat) {g : Spool → Spool} (hw : ∀ p, (g p).waiting = p.waiting)
    (hr : ∀ p, (g p).resv = p.resv) (hf : ∀ p, p.fault = true → (g p).fault = true) : QueuesKept s (s.modSpool n g) := by
  refine ⟨fun m => ?_, fun m => ?_, fun m h => ?_⟩ <;> rw [State.spool_modSpool] <;> split
  next hm => rw [hw, hm]
  next => rfl
  next hm => rw [hr, hm]
  next => rfl
  next hm => exact hf _ (hm ▸ h)
  next => exact h

theorem QueuesKept.notify (s : State) (n o : Nat) : QueuesKept s (notify s n o) := by
  refine ⟨fun m => ?_, fun m => ?_, fun m h => ?_⟩ <;> obtain ⟨a, ha⟩ := spool_notify s n o m <;> rw [ha]
  exact h

theorem QueuesKept.putEntryE (s : State) (n : Nat) (e : List Byte) : QueuesKept s (putEntryE s n e).1 := by
  unfold Machine.putEntryE
  extract_lets p r
  have hr : QueuesKept s r.1 := .of_spools (spools_ringWrite ..)
  have hp : QueuesKept r.1 (r.1.modSpool n (fun q => { q with pi := (q.pi + 1) % idxMod })) :=
    .modSpool r.1 n (fun _ => rfl) (fun _ => rfl) (fun _ h => h)
  exact (hr.trans hp).trans (.notify _ n (occupancy p))

theorem QueuesKept.faultSpool (s : State) (n : Nat) : QueuesKept s (faultSpool s n) :=
  .modSpool s n (fun _ => rfl) (fun _ => rfl) (fun _ _ => rfl)

theorem QueuesKept.overflow (s : State) (n k : Nat) : QueuesKept s (overflow s n k) :=
  .modSpool s n (fun _ => rfl) (fun _ => rfl) (fun _ h => h)

theorem QueuesKept.errRecord (s : State) (part : Nat) (r : List Byte) : QueuesKept s (errRecord s part r) := by
  unfold Machine.errRecord
  extract_lets n p lost u
  have hu : QueuesKept s u := by
    unfold u
    split
    · exact (QueuesKept.faultSpool s n).trans (.overflow _ n 1)
    · exact .refl s
  refine hu.trans ?_
  split
  · exact (QueuesKept.putEntryE u n r).trans (.of_spools (spools_assertLine ..))
  · split
    · exact .modSpool u n (fun _ => rfl) (fun _ => rfl) (fun _ h => h)
    · exact .overflow u n _

theorem QueuesKept.readDesc (s : State) (n : Nat) : QueuesKept s (readDesc s n) := by
  unfold Machine.readDesc
  dsimp only
  split
  · exact .refl s
  · split
    · exact .refl s
    · exact (QueuesKept.faultSpool s n).trans (.errRecord ..)

theorem QueuesKept.dropEntry (s : State) (n : Nat) : QueuesKept s (dropEntry s n) := by
  unfold Machine.dropEntry
  dsimp only
  split
  · exact .overflow s n 1
  · exact (QueuesKept.overflow s n 1).trans (.errRecord ..)

/-! ### The read of a descriptor (R308) -/

theorem readDesc_of_intact {s : State} {n : Nat} (h : descBad s n = none) : readDesc s n = s := by
  simp [readDesc, h]

/-- A live Spool that stays as it is when its descriptor is read has an intact one: else it would be in FAULT. -/
theorem descBad_of_readDesc {s : State} {n : Nat} (hd : readDesc s n = s) (hl : spoolLive (s.spool n) = true) :
    descBad s n = none := by
  simp only [spoolLive, Bool.and_eq_true, Bool.not_eq_true'] at hl
  obtain ⟨hv, hf⟩ := hl
  by_contra hb
  obtain ⟨j, hj⟩ := Option.ne_none_iff_exists'.1 hb
  have hin : ((faultSpool s n).spool n).fault = true := by simp [faultSpool]
  have hkept := (QueuesKept.errRecord (faultSpool s n) (s.spool n).owner (spoolRecord 3 n j s.st 0)).fault n hin
  have hread : readDesc s n = errRecord (faultSpool s n) (s.spool n).owner (spoolRecord 3 n j s.st 0) := by
    simp [readDesc, hv, hf, hj]
  rw [← hread, hd, hf] at hkept
  exact Bool.false_ne_true hkept

/-! ### Entries in a ring (R290) -/

theorem readBytes_writeBytes_same (t : Tbl Byte) (a : Nat) (l : List Byte) : readBytes (writeBytes t a l) a l.length = l := by
  induction l generalizing t a with
  | nil => rfl
  | cons b r ih =>
    simp only [writeBytes, List.length_cons, readBytes, ih]
    rw [tget_writeBytes_other _ _ _ _ (.inl (Nat.lt_succ_self a)), tget_tset_same]

theorem fitEntry_length (p : Spool) (e : List Byte) : (fitEntry p e).length = entryBytes p := by
  simp [fitEntry]
  omega

/-- The ring memory and stored errors after an entry is written into the slot at PI of an on-chip ring. -/
def slotWritten (s : State) (n : Nat) (e : List Byte) : State :=
  let a := slotAddr (s.spool n) (s.spool n).pi
  clearErrs { s with ringMem := writeBytes s.ringMem (a - ringBase) e } a e.length

@[simp] theorem spool_slotWritten (s : State) (n : Nat) (e : List Byte) (m : Nat) : (slotWritten s n e).spool m = s.spool m := rfl

theorem ringWrite_on_chip {s : State} {n : Nat} (ht : (s.spool n).target = 2) (e : List Byte) :
    ringWrite s (s.spool n) (s.spool n).pi e = (slotWritten s n e, []) := by
  simp only [ringWrite, ht]
  rfl

/-- An entry that is put into an on-chip ring without a notification. -/
theorem putEntryE_on_chip {s : State} {n : Nat} (ht : (s.spool n).target = 2) (hn : (s.spool n).notify = 0) (e : List Byte) :
    putEntryE s n e =
      ((slotWritten s n (fitEntry (s.spool n) e)).modSpool n (fun q => { q with pi := (q.pi + 1) % idxMod }), []) := by
  unfold putEntryE
  dsimp only
  rw [ringWrite_on_chip ht, notify_of_off (by simp [hn])]

theorem putRecorded_of_not_ddr {s : State} {n : Nat} (h : (s.spool n).target ≠ 1) (e : List Byte) :
    putRecorded s n e = (putEntryE s n e).1 := by
  have hr : (putEntryE s n e).2 = [] := by
    unfold putEntryE ringWrite
    dsimp only
    split
    · rfl
    next ht => exact absurd ht h
    · rfl
  simp [putRecorded, hr, memEvents]

@[simp] theorem unreported_putRecorded (s : State) (n : Nat) (e : List Byte) :
    unreported (putRecorded s n e) = unreported s := by
  rw [putRecorded, unreported_memEvents]
  exact unreported_putEntry s n e

@[simp] theorem unreported_dropEntry (s : State) (n : Nat) : unreported (dropEntry s n) = unreported s := by
  simp [dropEntry, apply_ite unreported]

theorem consume_of_none {s : State} {n : Nat} (h : occupancy (s.spool n) = 0 ∨ spoolLive (s.spool n) = false) :
    consume s n = s := by
  refine if_pos ?_
  simpa using h

theorem consume_silent {s : State} {n : Nat} (hn : (s.spool n).notify = 0) (ho : occupancy (s.spool n) ≠ 0)
    (hl : spoolLive (s.spool n) = true) : consume s n = s.modSpool n (fun q => { q with ci := (q.ci + 1) % idxMod }) := by
  refine (if_neg (by simp [ho, hl])).trans (notify_of_off ?_ _)
  simp [hn]

/-! ### Tag order (R297) -/

theorem releaseAux_of_empty {s : State} {n : Nat} (h : (s.spool n).resv = []) (k : Nat) : releaseAux k s n = s := by
  cases k with
  | zero => rfl
  | succ k => simp [releaseAux, h]

theorem release_of_empty {s : State} {n : Nat} (h : (s.spool n).resv = []) : release s n = s := by
  unfold release
  split
  · rfl
  · exact releaseAux_of_empty h 512

/-- A reorder window of one entry is released whole, where writing it changes no window. -/
theorem release_single {s : State} {n : Nat} {r : Resv} {e : List Byte} (hz : (s.spool n).resize = none)
    (hl : spoolLive (s.spool n) = true) (hr : (s.spool n).resv = [r]) (hc : r.cancelled = false) (he : r.entry = some e)
    (hd : readDesc s n = s) {t : State}
    (ht : let u := s.modSpool n (fun q => { q with resv := [] })
      (if canPut u (u.spool n) then putRecorded u n e else dropEntry u n) = t)
    (hk : (t.spool n).resv = []) : release s n = t := by
  have hu : readDesc (s.modSpool n (fun q => { q with resv := [] })) n = s.modSpool n (fun q => { q with resv := [] }) :=
    readDesc_of_intact (descBad_of_readDesc hd hl : descBad s n = none)
  have hv : (s.spool n).valid = true := (Bool.and_eq_true_iff.1 hl).1
  have hg : ((s.spool n).resize.isSome || !(s.spool n).valid) = false := by simp [hz, hv]
  rw [release, hg, if_neg Bool.false_ne_true]
  unfold releaseAux
  simp only [hr, hc, he, hu, Bool.false_eq_true, if_false]
  dsimp only at ht
  rw [ht, releaseAux_of_empty hk]

/-! ### Producers that wait (R293, R308) -/

section
variable {s : State} {n p : Nat} {e : List Byte} {l : List (Nat × List Byte)}

/-- The first waiting producer and its entry have left the queue of the Spool. -/
def dequeued (s : State) (n : Nat) (l : List (Nat × List Byte)) : State := s.modSpool n (fun q => { q with waiting := l })

theorem canPut_not_fault {q : Spool} (h : canPut s q = true) : q.fault = false := by
  simp only [canPut, spoolLive, Bool.and_eq_true, Bool.not_eq_true'] at h
  exact h.1.1.2

/-- What goes on for the producer of an entry that has left the queue: an engine ends its descriptor. -/
def producerGoes (s : State) (n p : Nat) : State :=
  match (s.dmaEngine p).run with
  | some r => if engineWaits s n p then dmaFinish s p r else s
  | none => s

theorem producerGoes_idle (h : (s.dmaEngine p).run = none) : producerGoes s n p = s := by
  simp only [producerGoes, h]

theorem producerGoes_engine {r : DmaRun} (h : (s.dmaEngine p).run = some r) (hw : engineWaits s n p = true) :
    producerGoes s n p = dmaFinish s p r := by
  simp only [producerGoes, h, hw, if_true]

theorem dmaEngine_of_unreported {t : State} (h : unreported t = unreported s) (p : Nat) : t.dmaEngine p = s.dmaEngine p := by
  rw [State.dmaEngine, dma_eq_of_unreported h, State.dmaEngine]

theorem resumeWait_idle (hw : (s.spool n).waiting = []) : resumeWait s n = readDesc s n := by
  simp only [resumeWait, (QueuesKept.readDesc s n).waiting n, hw]

variable (hw : (s.spool n).waiting = (p, e) :: l) (hd : readDesc s n = s)
include hw hd

theorem resumeWait_free (hc : canPut s (s.spool n) = true) (hz : (s.spool n).resize = none) :
    resumeWait s n = producerGoes (putRecorded (dequeued s n l) n e) n p := by
  simp only [resumeWait, hd, hw, canPut_not_fault hc, hc, hz, Bool.false_eq_true, if_false, Option.isNone_none, Bool.and_self,
    if_true]
  rfl

theorem resumeWait_fault (hf : (s.spool n).fault = true) :
    resumeWait s n = producerGoes (dropEntry (dequeued s n l) n) n p := by
  simp only [resumeWait, hd, hw, hf, if_true]
  rfl

theorem resumeWait_full (hf : (s.spool n).fault = false) (hc : canPut s (s.spool n) = false) : resumeWait s n = s := by
  simp only [resumeWait, hd, hw, hf, hc, Bool.false_and, Bool.false_eq_true, if_false]

end

/-! ### Producers (R293) -/

section
variable {s : State} {n : Nat} (hd : readDesc s n = s) (hl : spoolLive (s.spool n) = true) (hz : (s.spool n).resize = none)
  (hw : (s.spool n).waiting = []) (p : Nat) (w : Bool) (e : List Byte)
include hd hl hz hw

theorem appendEntry_live : appendEntry s n p w e =
    if canPut s (s.spool n) then putRecorded s n e
    else if w && (s.spool n).full && (ringReady s (s.spool n) || ringHeld s (s.spool n)) then
      s.modSpool n (fun q => { q with waiting := [(p, e)] })
    else dropEntry s n := by
  simp only [spoolLive, Bool.and_eq_true, Bool.not_eq_true'] at hl
  obtain ⟨hv, hf⟩ := hl
  have hq : s.modSpool n (fun q => { q with waiting := q.waiting ++ [(p, e)] }) =
      s.modSpool n (fun q => { q with waiting := [(p, e)] }) := by
    simp only [State.spool] at hw
    simp [State.modSpool, tmod, hw]
  simp [appendEntry, hd, hv, hf, hz, hw, hq]

end

/-- In arrival order the hand-on is the reservation point. -/
theorem produce_arrival {s : State} {n : Nat} (ho : (s.spool n).order = false) (p : Nat) (w : Bool) (e : List Byte) :
    produce s n p w none e = appendEntry s n p w e := by
  simp [produce, reserve, ho, handOn]

/-- Settles O51: an append, a release, a resume and the end of a drain each take the branch that their Spool's state selects, and
what is written or dropped on the way keeps what waits for the Spool. -/
theorem spoolMovement : Obligations.SpoolMovement := by
  refine ⟨fun s n p w e hv h0 h3 ho => ?handOn, fun s n p w e h => ?noProducer,
    fun s n p w e hd hl hz hw => ⟨?put, ?drop, ?wait⟩,
    fun s n e ht hn => ?entry, fun s n h => consume_of_none h, fun s n hn ho hl => ?consumed,
    fun s n hr => congrArg Host.Outcome.next (release_of_empty hr), fun s n r e hz hl hr hc' he hd => ⟨?released, ?dropped⟩,
    fun s n p e l hw hd => ⟨fun hc hz => ⟨?resumed, ?engine⟩, ?faulted, ?full⟩,
    fun s n hw => congrArg Host.Outcome.next (resumeWait_idle hw), fun s n r hz => ⟨?drained, ?draining, ?late, ?early⟩⟩
  case handOn =>
    refine congrArg Host.Outcome.next ((if_pos (by simp [hv, h0, h3])).trans (produce_arrival ho p w e))
  case noProducer =>
    refine congrArg Host.Outcome.next (if_neg ?_)
    rcases h with h | h | h <;> simp [h]
  case put =>
    intro hc
    rw [appendEntry_live hd hl hz hw, if_pos hc]
  case drop =>
    rintro hc rfl
    rw [appendEntry_live hd hl hz hw, if_neg (ne_true_of_eq_false hc)]
    rfl
  case wait =>
    rintro hc rfl hf hr
    rw [appendEntry_live hd hl hz hw, if_neg (ne_true_of_eq_false hc), hf, hr]
    rfl
  case entry =>
    have hl := fitEntry_length (s.spool n) e
    refine ⟨_, putEntryE_on_chip ht hn e, by simp [idxMod], by simp, ?stored, fun x hx => ?bytes,
      fun m hm => by simp [hm.symm]⟩
    case stored =>
      rw [← hl]
      exact readBytes_writeBytes_same ..
    case bytes => exact tget_writeBytes_other _ _ _ _ (by rwa [hl])
  case consumed =>
    dsimp only
    rw [consume_silent hn ho hl]
    exact ⟨by simp [idxMod], by simp, rfl, fun m hm => by simp [hm.symm]⟩
  case released =>
    intro hc ht
    refine congrArg Host.Outcome.next (release_single hz hl hr hc' he hd (if_pos hc) ?_)
    rw [putRecorded_of_not_ddr (by simpa using ht), (QueuesKept.putEntryE ..).resv]
    simp
  case dropped =>
    intro hc
    refine congrArg Host.Outcome.next (release_single hz hl hr hc' he hd (if_neg (ne_true_of_eq_false hc)) ?_)
    rw [(QueuesKept.dropEntry ..).resv]
    simp
  case resumed =>
    intro hi
    refine congrArg Host.Outcome.next ((resumeWait_free hw hd hc hz).trans (producerGoes_idle ?_))
    rw [dmaEngine_of_unreported (unreported_putRecorded ..)]
    exact hi
  case engine =>
    exact fun r hi he => congrArg Host.Outcome.next ((resumeWait_free hw hd hc hz).trans (producerGoes_engine hi he))
  case faulted =>
    intro hf hi
    refine congrArg Host.Outcome.next ((resumeWait_fault hw hd hf).trans (producerGoes_idle ?_))
    rw [dmaEngine_of_unreported (unreported_dropEntry ..)]
    exact hi
  case full => exact fun hf hc => congrArg Host.Outcome.next (resumeWait_full hw hd hf hc)
  case drained =>
    intro ho
    refine congrArg Host.Outcome.next ?_
    simp only [hz, ho, ne_eq, not_true_eq_false, if_false]
  case draining =>
    intro ho
    refine congrArg Host.Outcome.next ?_
    simp only [hz, ho, ne_eq, not_false_eq_true, if_true]
  case late =>
    intro ho hd
    refine congrArg Host.Outcome.next ?_
    simp [hz, ho, Nat.not_lt.2 hd]
  case early =>
    intro hd
    refine congrArg Host.Outcome.next ?_
    simp [hz, hd]

end Sys2Proof.Machine
end

section
/-! SUPPORT. Accepted and refused doorbells (11 R291, R292, R295): O17. -/

namespace Sys2Proof.Machine

section
variable {s : State} {f : Fin 17} {n : Fin 65536} {wide : Bool} {v : BitVec 64}

theorem exec_doorbell_of_open (h : barOpen s f = true) : exec (.doorbell f n wide v) s = .next (doorbell s f n wide v.toNat) :=
  congrArg Host.Outcome.next (if_pos h)

theorem fld_index (v : Nat) : fld v 0 25 = v % 2 ^ 25 := by simp [fld]

theorem doorbell_refused {f n v d : Nat} (h : doorbellFault (readDesc s n) f n wide v = some d) :
    doorbell s f n wide v =
      errRecord ((readDesc s n).modSpool n (fun p => { p with flags := hit s.now p.flags 25 })) ((readDesc s n).spool n).owner
        (spoolRecord 2 n d s.st v) := by
  have ht : (readDesc s n).time = s.time := time_eq_of_unreported (unreported_readDesc s n)
  simp [doorbell, h, State.now, State.st, ht]

theorem doorbell_moves {f n v : Nat} (h : doorbellFault (readDesc s n) f n wide v = none) (h25 : bit v 25 = false)
    (h26 : bit v 26 = false) : doorbell s f n wide v =
      if doorbellSide (readDesc s n) n (bit v 27) = some true then
        notify ((readDesc s n).modSpool n (fun p => { p with pi := v % 2 ^ 25 })) n (occupancy ((readDesc s n).spool n))
      else notify ((readDesc s n).modSpool n (fun p => { p with ci := v % 2 ^ 25 })) n (occupancy ((readDesc s n).spool n)) := by
  simp only [doorbell, h, h25, h26, fld_index, Bool.false_eq_true, if_false]

theorem doorbell_rearms {f n v : Nat} (h : doorbellFault (readDesc s n) f n wide v = none) (h25 : bit v 25 = true)
    (h26 : bit v 26 = true) : doorbell s f n wide v = rearm (readDesc s n) n := by
  simp only [doorbell, h, h25, h26, if_true]

end

/-- Settles O17: an accepted doorbell moves the index of its side or rearms, and a refused one leaves its record. -/
theorem doorbells : Obligations.Doorbells := by
  intro s f n wide v ho
  dsimp only
  rw [exec_doorbell_of_open ho]
  refine ⟨fun h h25 h26 hs => congrArg Host.Outcome.next ?producer, fun h h25 h26 hs => congrArg Host.Outcome.next ?consumer,
    fun h h25 h26 => congrArg Host.Outcome.next (doorbell_rearms h h25 h26),
    fun d h => congrArg Host.Outcome.next (doorbell_refused h)⟩
  case producer => rw [doorbell_moves h h25 h26, if_pos hs]
  case consumer => rw [doorbell_moves h h25 h26, if_neg (by simp [hs])]

end Sys2Proof.Machine
end

section
/-! SUPPORT. The Spool commands (11 R286 to R289, R307 to R309): O50. -/

namespace Sys2Proof.Machine

/-- Settles O50: each body is its rule's checks before one result, done at once, reported, or waiting for its drain. -/
theorem spoolCommands : Obligations.SpoolCommands := by
  refine ⟨?create, ?empty, ?drain, ?discard, ?delete, ?status⟩
  case create | discard => exact .of_body (fun _ _ => rfl) (fun _ _ => rfl) (fun _ _ _ => rfl)
  case empty => exact .of_body (fun _ _ => rfl) (fun _ _ => rfl) (fun _ _ _ => done_status ..)
  case drain => exact .of_body (fun _ _ => rfl) (fun _ _ => rfl) (fun _ _ _ => waiting_status ..)
  case status => exact .of_body (fun _ _ => rfl) (fun _ _ => rfl) (fun _ _ _ => report_status ..)
  case delete =>
    refine .of_body (fun _ _ => rfl) (fun k s h => ⟨(oSpool, fld k.blk 0 16), ?_⟩) (fun _ _ _ => done_status ..)
    refine checked_ok ?_
    simp only [Bool.and_eq_true, Bool.not_eq_true', beq_iff_eq, decide_eq_true_eq] at h
    obtain ⟨⟨⟨⟨hr, hn⟩, hv⟩, hm⟩, hb⟩ := h
    simp [hr, Nat.not_lt.2 hn, hv, hm, hb]

end Sys2Proof.Machine
end

section
/-! SUPPORT. DMA descriptors, their transfers and their completion (11 R299 to R303): O52. -/

namespace Sys2Proof.Machine

section
variable {s : State} {e : Fin 32}

theorem execDmaStart_busy {f : Option (BitVec 256)} (h : (s.dmaEngine e).run.isSome = true) :
    exec (.dmaStart e f) s = .next s := by
  obtain ⟨r, hr⟩ := Option.isSome_iff_exists.1 h
  exact congrArg Host.Outcome.next (by simp only [hr])

theorem readReady_none (h : ∀ n, dmaReady s e n = false) (l : List Nat) :
    l.foldl (fun s n => if dmaReady s e n then readDesc s n else s) s = s := by
  induction l with
  | nil => rfl
  | cons n l ih => rw [List.foldl_cons, if_neg (ne_true_of_eq_false (h n)), ih]

/-- With no Spool ready no descriptor is read and none is next. -/
theorem execDmaStart_none {f : Option (BitVec 256)} (hr : (s.dmaEngine e).run = none) (h : ∀ n, dmaReady s e n = false) :
    exec (.dmaStart e f) s = .next s := by
  have hready : (s.spools.map (fun x => x.1)).filter (dmaReady s e) = [] :=
    List.filter_eq_nil_iff.2 (fun n _ => ne_true_of_eq_false (h n))
  have hnext : dmaNext s e = none := by simp only [dmaNext, hready, List.find?_nil, List.head?_nil]
  refine congrArg Host.Outcome.next ?_
  simp only [hr, readReady_none h, hnext]

theorem dmaNext_single {n : Nat} (hs : s.spools.map (fun x => x.1) = [n]) (h : dmaReady s e n = true) :
    dmaNext s e = some n := by
  have hready : (s.spools.map (fun x => x.1)).filter (dmaReady s e) = [n] := by
    rw [hs, List.filter_cons_of_pos h, List.filter_nil]
  by_cases hl : (s.dmaEngine e).last < n <;> simp [dmaNext, hready, hl]

/-- The reads of the descriptors, where one Spool exists. -/
theorem readReady_single {n : Nat} (hs : s.spools.map (fun x => x.1) = [n]) (hd : readDesc s n = s) :
    (s.spools.map (fun x => x.1)).foldl (fun s n => if dmaReady s e n then readDesc s n else s) s = s := by
  rw [hs, List.foldl_cons, List.foldl_nil, hd, ite_self]

theorem takeHeaders_of_none (h : s.mem.hdrs = []) (req : Nat) (src : Stop) (as : List Nat) :
    takeHeaders s req src as = (s, false) := by
  have hone : ∀ a, takeHeader s req src a = (s, false) := fun a => by simp only [takeHeader, h]
  induction as with
  | nil => rfl
  | cons a r ih => simpa [takeHeaders, hone a] using ih

/-- A COPY between internal ranges has both ends on the device. -/
theorem mEnds_internal {d : Nat} (h : mOp d = 1) (hs : mSrcHost d = false) (ht : mDstHost d = false) :
    mEnds d = [(false, mSrc d), (false, mDst d)] := by
  simp [mEnds, h, hs, ht]

end

/-- Settles O52: the one ready Spool gives the next descriptor, a completion ends it, waits, or holds its engine, and a COPY
inside the device passes its headers where none is wrong. -/
theorem dmaTransfers : Obligations.DmaTransfers := by
  refine ⟨fun s e f h => execDmaStart_busy h, fun s e f n hr hs h hd => ⟨fun ht => ?device, fun ht => ?host⟩,
    fun s e f hr h => execDmaStart_none hr h, fun s e h hr => ?idle, fun s e h r hr => ⟨?holds, ?silent, ?recorded, ?waits⟩,
    fun s e r => ?finish, fun s who d src h hop hsrc hdst hz hh => ?copy⟩
  case device =>
    refine congrArg Host.Outcome.next ?_
    cases hb : (ringRead s (s.spool n) (s.spool n).ci).2.1 with
    | true => simp only [hr, readReady_single hs hd, dmaNext_single hs h, ht, if_false, hb, if_true]
    | false => simp only [hr, readReady_single hs hd, dmaNext_single hs h, ht, if_false, hb, Bool.false_eq_true]
  case host =>
    refine congrArg Host.Outcome.next ?_
    cases f with
    | none => simp only [hr, readReady_single hs hd, dmaNext_single hs h, ht, if_true, Option.map_none]
    | some v => simp only [hr, readReady_single hs hd, dmaNext_single hs h, ht, if_true, Option.map_some]
  case idle => exact congrArg Host.Outcome.next (by simp only [hr])
  case holds =>
    intro hw
    refine congrArg Host.Outcome.next ?_
    simp only [hr]
    exact if_pos (by simpa using hw)
  case silent =>
    intro hw hst hn
    refine congrArg Host.Outcome.next ?_
    simp only [hr, hw, hst, hn, Bool.or_self, Bool.false_eq_true, if_false, if_true]
  case recorded =>
    intro hw hst hn hq
    refine congrArg Host.Outcome.next ?_
    simp only [hr, hw, hst, hn, Bool.or_self, Bool.false_eq_true, if_false]
    exact if_neg (of_decide_eq_false hq)
  case waits =>
    intro hw hst hn hq
    refine congrArg Host.Outcome.next ?_
    simp only [hr, hw, hst, hn, Bool.or_self, Bool.false_eq_true, if_false]
    exact if_pos (of_decide_eq_true hq)
  case finish => simp only [dmaFinish, Fin.ofNat_val_eq_self]
  case copy =>
    have hhost : ((mEnds d).any fun x => x.1) = false := by rw [mEnds_internal hop hsrc hdst]; rfl
    simp [transfer, takeHeaders_of_none hh, hop, hsrc, hdst, hz, hhost]

end Sys2Proof.Machine
end

section
/-! SUPPORT. Shuttles sent from a Spool (11 R306, 15 R412, R416): O56. -/

namespace Sys2Proof.Machine

/-! ### Routes (R412) -/

theorem route_eq_none_iff (s : State) (d : Nat) : route s d = none ↔ d = s.weave.device := by
  unfold route
  dsimp only
  split
  next h => simpa using h
  next h =>
    repeat' split
    all_goals simpa using h

theorem route_lt {s : State} {d o : Nat} (h : route s d = some o) : o < 4 := by
  unfold route at h
  dsimp only at h
  split at h
  · cases h
  · repeat' split at h
    all_goals
      cases h
      decide

/-! ### The entry at CI -/

section
variable {s : State} {n : Fin 65536} {f : Option (BitVec 512)}

/-- What a Shuttle Spool's entry at CI delivers, from the host's memory or the device's; none: it cannot be read. -/
def shuttleEntry (s : State) (n : Nat) (f : Option (BitVec 512)) : Option Nat :=
  if (s.spool n).target = 0 then f.map (fun v => v.toNat)
  else if (ringRead s (s.spool n) (s.spool n).ci).2.1 then none else some (leNat (ringRead s (s.spool n) (s.spool n).ci).1)

/-- The state once the entry at CI of a Shuttle Spool has been read and consumed. -/
def shuttleTaken (s : State) (n : Nat) : State :=
  consume (if (s.spool n).target = 0 then
      hostFetch s ((fnOfPart s (s.spool n).owner).getD 0) (slotAddr (s.spool n) (s.spool n).ci) 64
    else memEvents s (s.spool n).owner .link (ringRead s (s.spool n) (s.spool n).ci).2.2) n

/-- Link `o` sleeps, wakes or is about to sleep, or holds a Shuttle of this device, so the next one waits. -/
def shuttleHeld (x : Link) : Bool :=
  x.tx == .sleepLight || x.tx == .sleepDeep || x.tx == .wake || x.sleepReq.isSome || x.local_.isSome

/-- Where a read entry `e` of Spool `n` for a device of the view goes on its route. -/
def shuttleRouted (s : State) (n e : Nat) : Option Nat → State
  | none => arrive (shuttleTaken s n) (localShuttle s (s.spool n).owner e)
  | some o =>
    if shuttleHeld (s.link o) then s
    else if (s.link o).tx != .up || !(s.link o).peerAdm then lose (shuttleTaken s n) o 0 (localShuttle s (s.spool n).owner e) 1
    else (shuttleTaken s n).modLink o (fun x => { x with local_ := some (localShuttle s (s.spool n).owner e) })

/-- Where a read entry `e` of Spool `n` goes. -/
def shuttleGoes (s : State) (n e : Nat) : State :=
  if bit (view s) (fld e 0 6) then shuttleRouted s n e (route s (fld e 0 6))
  else errRecord (shuttleTaken s n) (s.spool n).owner
    (spoolRecord 4 n 1 s.st ((e % 2 ^ 32 + (s.spool n).owner * 2 ^ 32) % 2 ^ 36))

/-- What a Shuttle Spool's entry at CI leads to: one that cannot be read goes nowhere (log 35). -/
def shuttleEnds (s : State) (n : Nat) : Option Nat → State
  | none => shuttleTaken s n
  | some e => shuttleGoes s n e

/-- A Shuttle Spool that can give an entry, with its descriptor intact. -/
structure ShuttleReady (s : State) (n : Nat) : Prop where
  intact : readDesc s n = s
  cls : (s.spool n).cls = 3
  ring : ringReady s (s.spool n) = true
  live : spoolLive (s.spool n) = true
  holds : occupancy (s.spool n) ≠ 0

theorem exec_shuttleSend_of_ready (h : ShuttleReady s n) :
    exec (.shuttleSend n f) s = .next (shuttleEnds s n (shuttleEntry s n f)) := by
  have hgo : (!spoolLive (s.spool n) || (s.spool n).cls != 3 || occupancy (s.spool n) == 0
      || !ringReady s (s.spool n)) = false := by
    simp [h.live, h.holds, h.ring, h.cls]
  refine congrArg Host.Outcome.next ?_
  simp only [if_pos h.cls, h.intact, hgo, Bool.false_eq_true, if_false]
  have hentry : (if (s.spool n).target = 0 then f.map (fun v => v.toNat)
      else if (if (s.spool n).target = 0 then ([], false, []) else ringRead s (s.spool n) (s.spool n).ci).2.1 then none
      else some (leNat (if (s.spool n).target = 0 then ([], false, []) else ringRead s (s.spool n) (s.spool n).ci).1))
      = shuttleEntry s n f := by
    by_cases ht : (s.spool n).target = 0 <;> simp only [shuttleEntry, ht, if_true, if_false]
  have htaken : consume (if (s.spool n).target = 0 then
        hostFetch s ((fnOfPart s (s.spool n).owner).getD 0) (slotAddr (s.spool n) (s.spool n).ci) 64
      else memEvents s (s.spool n).owner .link
        (if (s.spool n).target = 0 then ([], false, []) else ringRead s (s.spool n) (s.spool n).ci).2.2) n
      = shuttleTaken s n := by
    by_cases ht : (s.spool n).target = 0 <;> simp only [shuttleTaken, ht, if_true, if_false]
  simp only [hentry, htaken]
  cases shuttleEntry s n f with
  | none => simp only [shuttleEnds]
  | some e =>
    cases hv : bit (view s) (fld e 0 6) with
    | false => simp only [shuttleEnds, shuttleGoes, hv, Bool.not_false, if_true, Bool.false_eq_true, if_false]
    | true =>
      cases hr : route s (fld e 0 6) with
      | none => simp only [shuttleEnds, shuttleGoes, shuttleRouted, hv, hr, Bool.not_true, if_true, Bool.false_eq_true, if_false]
      | some o =>
        simp only [shuttleEnds, shuttleGoes, shuttleRouted, hv, hr, Bool.not_true, if_true, Bool.false_eq_true, if_false]
        rfl

theorem exec_shuttleSend_idle (h : (s.spool n).cls ≠ 3 ∨ (readDesc s n = s
    ∧ (ringReady s (s.spool n) = false ∨ spoolLive (s.spool n) = false ∨ occupancy (s.spool n) = 0))) :
    exec (.shuttleSend n f) s = .next s := by
  have hread : (if (s.spool n).cls = 3 then readDesc s n else s) = s := by
    rcases h with h | ⟨h, _⟩
    · exact if_neg h
    · rw [h, ite_self]
  refine congrArg Host.Outcome.next ?_
  simp only [hread]
  refine if_pos ?_
  rcases h with h | ⟨_, h | h | h⟩ <;> simp [h]

end

/-! ### Where an entry goes (R306, R416) -/

section
variable {s : State} {n e : Nat}

theorem shuttleHeld_iff (x : Link) : shuttleHeld x = true ↔
    (x.tx = .sleepLight ∨ x.tx = .sleepDeep ∨ x.tx = .wake ∨ x.sleepReq.isSome = true ∨ x.local_.isSome = true) := by
  simp [shuttleHeld, or_assoc]

theorem shuttleGoes_of_unseen (h : bit (view s) (fld e 0 6) = false) : shuttleGoes s n e =
    errRecord (shuttleTaken s n) (s.spool n).owner
      (spoolRecord 4 n 1 s.st ((e % 2 ^ 32 + (s.spool n).owner * 2 ^ 32) % 2 ^ 36)) :=
  if_neg (ne_true_of_eq_false h)

theorem shuttleGoes_of_seen (h : bit (view s) (fld e 0 6) = true) :
    shuttleGoes s n e = shuttleRouted s n e (route s (fld e 0 6)) := if_pos h

end

/-- Settles O56: an entry that cannot be read is consumed and goes nowhere, one that can goes where the view, the route and its
link say. -/
theorem shuttles : Obligations.Shuttles := by
  refine ⟨fun s n f hd hc hr hl ho => ⟨fun ht hf => ?hostError, fun ht hb => ?unreadable, fun e he => ?entry⟩,
    fun s n f h => exec_shuttleSend_idle h, route_eq_none_iff, fun s d o => route_lt⟩
  case hostError =>
    have he : shuttleEntry s n f = none := by rw [shuttleEntry, if_pos ht, hf]; rfl
    rw [exec_shuttleSend_of_ready ⟨hd, hc, hr, hl, ho⟩, he]
    rfl
  case unreadable =>
    have he : shuttleEntry s n f = none := by rw [shuttleEntry, if_neg ht, if_pos hb]
    rw [exec_shuttleSend_of_ready ⟨hd, hc, hr, hl, ho⟩, he]
    rfl
  case entry =>
    have hread : shuttleEntry s n f = some e := by
      rcases he with ⟨ht, hf⟩ | ⟨ht, hb, hv⟩
      · rw [shuttleEntry, if_pos ht, hf]
      · rw [shuttleEntry, if_neg ht, if_neg (ne_true_of_eq_false hb), hv]
    rw [exec_shuttleSend_of_ready ⟨hd, hc, hr, hl, ho⟩, hread, shuttleEnds]
    refine ⟨fun h => congrArg Host.Outcome.next (shuttleGoes_of_unseen h), fun h hn => ?here, fun o h hn => ?onward⟩
    case here =>
      rw [shuttleGoes_of_seen h, hn, shuttleRouted]
      rfl
    case onward =>
      dsimp only
      rw [shuttleGoes_of_seen h, hn, shuttleRouted, ← shuttleHeld_iff]
      refine ⟨fun hh => congrArg Host.Outcome.next (if_pos hh), fun hh hu hp => congrArg Host.Outcome.next ?sent,
        fun hh hu => congrArg Host.Outcome.next ?lost⟩
      case sent =>
        rw [if_neg hh, if_neg (by simp [hu, hp])]
        rfl
      case lost =>
        rw [if_neg hh, if_pos (by simpa using hu)]
        rfl

end Sys2Proof.Machine
end

section
/-! SUPPORT. The invariant `Kept` over every command and over the step (12 R320): O9 and O10. -/

namespace Sys2Proof.Machine

/-- R320: every command keeps the reserved bits of BAR2_BASE and the form of the memories: one arm per constructor, each by the
lemma of Laws/Kept.lean on the command's meaning. -/
theorem exec_kept : ∀ (i : Instr) (s : State), Kept s → ∀ t, exec i s = .next t → Kept t
  | .mbCmdPiWrite f v, s, h => execMbCmdPiWrite_kept f v s h
  | .mbCiWrite f ring v, s, h => execMbCiWrite_kept f ring v s h
  | .mbFrameWrite f ring offset data, s, h => execMbFrameWrite_kept f ring offset data s h
  | .stNowLoRead r, s, h => execStNowLoRead_kept r s h
  | .devResetWrite v, s, h => execDevResetWrite_kept v s h
  | .bar2BaseWrite v, s, h => execBar2BaseWrite_kept v s h
  | .bar2Read offset len, s, h => execBar2Read_kept offset len s h
  | .bar2Write offset data tlp, s, h => execBar2Write_kept offset data tlp s h
  | .doorbell f spool wide v, s, h => execDoorbell_kept f spool wide v s h
  | .registerWrite f offset width v tlp, s, h => execRegisterWrite_kept f offset width v tlp s h
  | .msixUnmask f entry, s, h => execMsixUnmask_kept f entry s h
  | .flr f, s, h => execFlr_kept f s h
  | .hotReset, s, h => execHotReset_kept s h
  | .perstAssert, s, h => execPerstAssert_kept s h
  | .perstDeassert, s, h => execPerstDeassert_kept s h
  | .powerOnReset, s, h => execPowerOnReset_kept s h
  | .powerGood bootRec, s, h => execPowerGood_kept bootRec s h
  | .bootComplete, s, h => execBootComplete_kept s h
  | .coreRailReturn, s, h => execCoreRailReturn_kept s h
  | .coreUndervoltage rail, s, h => execCoreUndervoltage_kept rail s h
  | .coreOvervoltage rail, s, h => execCoreOvervoltage_kept rail s h
  | .vddAonOvervoltage, s, h => execVddAonOvervoltage_kept s h
  | .vddaRfSupplyEvent quad high isOver, s, h => execVddaRfSupplyEvent_kept quad high isOver s h
  | .vddaBiasUndervoltage negative isOver, s, h => execVddaBiasUndervoltage_kept negative isOver s h
  | .vddaBiasReturn, s, h => execVddaBiasReturn_kept s h
  | .droop rail, s, h => execDroop_kept rail s h
  | .supplyComparatorClear rail, s, h => execSupplyComparatorClear_kept rail s h
  | .nvLoadDone, s, h => execNvLoadDone_kept s h
  | .refclkLoss, s, h => execRefclkLoss_kept s h
  | .refclkReturn, s, h => execRefclkReturn_kept s h
  | .pllLoss quad, s, h => execPllLoss_kept quad s h
  | .pllRelock quad, s, h => execPllRelock_kept quad s h
  | .analogueTrip, s, h => execAnalogueTrip_kept s h
  | .gafferHalt cause, s, h => execGafferHalt_kept cause s h
  | .watchdogExpiry, s, h => execWatchdogExpiry_kept s h
  | .identify c, s, h => execIdentify_kept c s h
  | .version c, s, h => execVersion_kept c s h
  | .resetWarm c, s, h => execResetWarm_kept c s h
  | .resetQuadrant c, s, h => execResetQuadrant_kept c s h
  | .resetTile c, s, h => execResetTile_kept c s h
  | .fwStage c, s, h => execFwStage_kept c s h
  | .fwStageDone verified, s, h => execFwStageDone_kept verified s h
  | .fwActivate c, s, h => execFwActivate_kept c s h
  | .fwRunRam c, s, h => execFwRunRam_kept c s h
  | .fwCommitFloor c, s, h => execFwCommitFloor_kept c s h
  | .timeEpoch c, s, h => execTimeEpoch_kept c s h
  | .epochLoad, s, h => execEpochLoad_kept s h
  | .timeRelease c, s, h => execTimeRelease_kept c s h
  | .timeCountCheck mismatch, s, h => execTimeCountCheck_kept mismatch s h
  | .portCfg c, s, h => execPortCfg_kept c s h
  | .threadCfg c, s, h => execThreadCfg_kept c s h
  | .tsetCfg c, s, h => execTsetCfg_kept c s h
  | .listWrite c, s, h => execListWrite_kept c s h
  | .pdCoef c, s, h => execPdCoef_kept c s h
  | .portStatus c, s, h => execPortStatus_kept c s h
  | .bobbinAlloc c, s, h => execBobbinAlloc_kept c s h
  | .bobbinFree c, s, h => execBobbinFree_kept c s h
  | .bobbinWrite c, s, h => execBobbinWrite_kept c s h
  | .segmentDesc c, s, h => execSegmentDesc_kept c s h
  | .segmentDelete c, s, h => execSegmentDelete_kept c s h
  | .jumpCfg c, s, h => execJumpCfg_kept c s h
  | .bobbinStatus c, s, h => execBobbinStatus_kept c s h
  | .windowProfile c, s, h => execWindowProfile_kept c s h
  | .weightWrite c, s, h => execWeightWrite_kept c s h
  | .weightSwap c, s, h => execWeightSwap_kept c s h
  | .weightSwapEffect rt, s, h => execWeightSwapEffect_kept rt s h
  | .readpairCfg c, s, h => execReadpairCfg_kept c s h
  | .rdFirCoef c, s, h => execRdFirCoef_kept c s h
  | .readStatus c, s, h => execReadStatus_kept c s h
  | .rawCapture c, s, h => execRawCapture_kept c s h
  | .rawCaptureAbort c, s, h => execRawCaptureAbort_kept c s h
  | .captureStart quad, s, h => execCaptureStart_kept quad s h
  | .captureDone quad codes overflow, s, h => execCaptureDone_kept quad codes overflow s h
  | .captureStatus c, s, h => execCaptureStatus_kept c s h
  | .marverLoad c, s, h => execMarverLoad_kept c s h
  | .marverStart c, s, h => execMarverStart_kept c s h
  | .marverStop c, s, h => execMarverStop_kept c s h
  | .mvThreadCfg c, s, h => execMvThreadCfg_kept c s h
  | .marverStatus c, s, h => execMarverStatus_kept c s h
  | .fluxCfg c, s, h => execFluxCfg_kept c s h
  | .fluxPd c, s, h => execFluxPd_kept c s h
  | .fluxStatus c, s, h => execFluxStatus_kept c s h
  | .biasGroupCfg c, s, h => execBiasGroupCfg_kept c s h
  | .biasCfg c, s, h => execBiasCfg_kept c s h
  | .biasRun c, s, h => execBiasRun_kept c s h
  | .biasTest c, s, h => execBiasTest_kept c s h
  | .biasClamp c, s, h => execBiasClamp_kept c s h
  | .biasNv c, s, h => execBiasNv_kept c s h
  | .biasStatus c, s, h => execBiasStatus_kept c s h
  | .biasUpdate bc, s, h => execBiasUpdate_kept bc s h
  | .biasSlewStep bc, s, h => execBiasSlewStep_kept bc s h
  | .deglitchHoldEnd bc, s, h => execDeglitchHoldEnd_kept bc s h
  | .biasClampEngage bc, s, h => execBiasClampEngage_kept bc s h
  | .rangeClampRelease bc, s, h => execRangeClampRelease_kept bc s h
  | .loomLoad c, s, h => execLoomLoad_kept c s h
  | .loomCfg c, s, h => execLoomCfg_kept c s h
  | .loomRun c, s, h => execLoomRun_kept c s h
  | .loomStop c, s, h => execLoomStop_kept c s h
  | .loomAbort c, s, h => execLoomAbort_kept c s h
  | .loomStatus c, s, h => execLoomStatus_kept c s h
  | .shotStart loom, s, h => execShotStart_kept loom s h
  | .microword loom, s, h => execMicroword_kept loom s h
  | .emitTset thread, s, h => execEmitTset_kept thread s h
  | .emitPlay thread, s, h => execEmitPlay_kept thread s h
  | .emitFreq thread, s, h => execEmitFreq_kept thread s h
  | .emitPhase thread, s, h => execEmitPhase_kept thread s h
  | .emitAmp thread, s, h => execEmitAmp_kept thread s h
  | .emitWindow rt, s, h => execEmitWindow_kept rt s h
  | .emitFlux fp, s, h => execEmitFlux_kept fp s h
  | .emitBias bc, s, h => execEmitBias_kept bc s h
  | .emitMark marker, s, h => execEmitMark_kept marker s h
  | .segmentEnd thread, s, h => execSegmentEnd_kept thread s h
  | .streamFetchIssue tile, s, h => execStreamFetchIssue_kept tile s h
  | .streamFetchDone tile, s, h => execStreamFetchDone_kept tile s h
  | .underrunFill thread, s, h => execUnderrunFill_kept thread s h
  | .windowFirstSample rt, s, h => execWindowFirstSample_kept rt s h
  | .earlyDecision rt adc, s, h => execEarlyDecision_kept rt adc s h
  | .windowClose rt adc, s, h => execWindowClose_kept rt adc s h
  | .dueTick bit, s, h => execDueTick_kept bit s h
  | .mvEventArrival rt kind adc, s, h => execMvEventArrival_kept rt kind adc s h
  | .mvDispatch core, s, h => execMvDispatch_kept core s h
  | .mvOverbudget rt, s, h => execMvOverbudget_kept rt s h
  | .mvNop core, s, h => execMvNop_kept core s h
  | .mvWait core, s, h => execMvWait_kept core s h
  | .mvJmp core, s, h => execMvJmp_kept core s h
  | .mvBrz core, s, h => execMvBrz_kept core s h
  | .mvDjnz core, s, h => execMvDjnz_kept core s h
  | .mvRpt core, s, h => execMvRpt_kept core s h
  | .mvLda core, s, h => execMvLda_kept core s h
  | .mvLdm core, s, h => execMvLdm_kept core s h
  | .mvAdda core, s, h => execMvAdda_kept core s h
  | .mvSetk core, s, h => execMvSetk_kept core s h
  | .mvSetys core, s, h => execMvSetys_kept core s h
  | .mvIn core, s, h => execMvIn_kept core s h
  | .mvLdi core, s, h => execMvLdi_kept core s h
  | .mvMov core, s, h => execMvMov_kept core s h
  | .mvLdx core, s, h => execMvLdx_kept core s h
  | .mvLdy core, s, h => execMvLdy_kept core s h
  | .mvStx core, s, h => execMvStx_kept core s h
  | .mvVadd core, s, h => execMvVadd_kept core s h
  | .mvVsub core, s, h => execMvVsub_kept core s h
  | .mvVshr core, s, h => execMvVshr_kept core s h
  | .mvCmul core, s, h => execMvCmul_kept core s h
  | .mvCmac core, s, h => execMvCmac_kept core s h
  | .mvCmacy core, s, h => execMvCmacy_kept core s h
  | .mvTapm core, s, h => execMvTapm_kept core s h
  | .mvClra core, s, h => execMvClra_kept core s h
  | .mvClrg core, s, h => execMvClrg_kept core s h
  | .mvMova core, s, h => execMvMova_kept core s h
  | .mvCls3 core, s, h => execMvCls3_kept core s h
  | .mvSti core, s, h => execMvSti_kept core s h
  | .mvPge core, s, h => execMvPge_kept core s h
  | .mvPrst core, s, h => execMvPrst_kept core s h
  | .mvPub core, s, h => execMvPub_kept core s h
  | .mvRec core, s, h => execMvRec_kept core s h
  | .warpBind c, s, h => execWarpBind_kept c s h
  | .warpStatus c, s, h => execWarpStatus_kept c s h
  | .harnessCfg c, s, h => execHarnessCfg_kept c s h
  | .harnessSink c, s, h => execHarnessSink_kept c s h
  | .harnessFire c, s, h => execHarnessFire_kept c s h
  | .harnessStatus c, s, h => execHarnessStatus_kept c s h
  | .harnessEventDelivery chan, s, h => execHarnessEventDelivery_kept chan s h
  | .harnessTableCheck, s, h => execHarnessTableCheck_kept s h
  | .markerInputEdge marker rising, s, h => execMarkerInputEdge_kept marker rising s h
  | .spoolCreate c, s, h => execSpoolCreate_kept c s h
  | .spoolResizeEmpty c, s, h => execSpoolResizeEmpty_kept c s h
  | .spoolResizeDrain c, s, h => execSpoolResizeDrain_kept c s h
  | .spoolDrainDone spool, s, h => execSpoolDrainDone_kept spool s h
  | .spoolDrainTimeout spool, s, h => execSpoolDrainTimeout_kept spool s h
  | .spoolResizeDiscard c, s, h => execSpoolResizeDiscard_kept c s h
  | .spoolDelete c, s, h => execSpoolDelete_kept c s h
  | .spoolStatus c, s, h => execSpoolStatus_kept c s h
  | .spoolAppend spool producer canWait entry, s, h => execSpoolAppend_kept spool producer canWait entry s h
  | .tagOrderRelease spool, s, h => execTagOrderRelease_kept spool s h
  | .waitProducerResume spool, s, h => execWaitProducerResume_kept spool s h
  | .dmaStart engine fetched, s, h => execDmaStart_kept engine fetched s h
  | .dmaComplete engine host, s, h => execDmaComplete_kept engine host s h
  | .shuttleSend spool fetched, s, h => execShuttleSend_kept spool fetched s h
  | .vfBind c, s, h => execVfBind_kept c s h
  | .vfUnbind c, s, h => execVfUnbind_kept c s h
  | .icCfg c, s, h => execIcCfg_kept c s h
  | .memInfo c, s, h => execMemInfo_kept c s h
  | .scrubStart c, s, h => execScrubStart_kept c s h
  | .scrubAbort c, s, h => execScrubAbort_kept c s h
  | .scrubPassEnd engine, s, h => execScrubPassEnd_kept engine s h
  | .scrubStatus c, s, h => execScrubStatus_kept c s h
  | .hotwordRead c, s, h => execHotwordRead_kept c s h
  | .linkCfg c, s, h => execLinkCfg_kept c s h
  | .linkRetrain c, s, h => execLinkRetrain_kept c s h
  | .linkSleepLight c, s, h => execLinkSleepLight_kept c s h
  | .linkSleepDeep c, s, h => execLinkSleepDeep_kept c s h
  | .linkWake c, s, h => execLinkWake_kept c s h
  | .linkAdaptResume c, s, h => execLinkAdaptResume_kept c s h
  | .linkSpare c, s, h => execLinkSpare_kept c s h
  | .linkUnspare c, s, h => execLinkUnspare_kept c s h
  | .linkStatus c, s, h => execLinkStatus_kept c s h
  | .weaveAdmitRoot c, s, h => execWeaveAdmitRoot_kept c s h
  | .weaveAdmitMember c, s, h => execWeaveAdmitMember_kept c s h
  | .weaveAdmitLeave c, s, h => execWeaveAdmitLeave_kept c s h
  | .weaveStatus c, s, h => execWeaveStatus_kept c s h
  | .frameReceive link line stamp, s, h => execFrameReceive_kept link line stamp s h
  | .shuttleResendTimeout link, s, h => execShuttleResendTimeout_kept link s h
  | .sleep link deep count, s, h => execSleep_kept link deep count s h
  | .spareAt link pos unspare count, s, h => execSpareAt_kept link pos unspare count s h
  | .spareReq link pos unspare, s, h => execSpareReq_kept link pos unspare s h
  | .tstamp link txt echo rxt rxf stamp, s, h => execTstamp_kept link txt echo rxt rxf stamp s h
  | .members link view refdep hops, s, h => execMembers_kept link view refdep hops s h
  | .linkAcquireDone link, s, h => execLinkAcquireDone_kept link s h
  | .laneAlignCheck link lane found, s, h => execLaneAlignCheck_kept link lane found s h
  | .linkBringupTimeout link, s, h => execLinkBringupTimeout_kept link s h
  | .laneCdrLoss link pos, s, h => execLaneCdrLoss_kept link pos s h
  | .laneErrorWindow link pos, s, h => execLaneErrorWindow_kept link pos s h
  | .eyeMeasure link pos margin coeffs, s, h => execEyeMeasure_kept link pos margin coeffs s h
  | .memberViewAgeout, s, h => execMemberViewAgeout_kept s h
  | .trimStep due, s, h => execTrimStep_kept due s h
  | .wallCfgPort c, s, h => execWallCfgPort_kept c s h
  | .wallCfgDomain c, s, h => execWallCfgDomain_kept c s h
  | .wallSwitch c, s, h => execWallSwitch_kept c s h
  | .wallStatus c, s, h => execWallStatus_kept c s h
  | .ptpMessage dom msg, s, h => execPtpMessage_kept dom msg s h
  | .arpRequest port target sender, s, h => execArpRequest_kept port target sender s h
  | .neighborSolicitation port target sender, s, h => execNeighborSolicitation_kept port target sender s h
  | .wallSetUpdate, s, h => execWallSetUpdate_kept s h
  | .wallHoldover dom, s, h => execWallHoldover_kept dom s h
  | .wallHoldMaxExpiry, s, h => execWallHoldMaxExpiry_kept s h
  | .quadPower c, s, h => execQuadPower_kept c s h
  | .quadTrainingDone quad modules, s, h => execQuadTrainingDone_kept quad modules s h
  | .quadEntry quad, s, h => execQuadEntry_kept quad s h
  | .tilePower c, s, h => execTilePower_kept c s h
  | .tileWake tile, s, h => execTileWake_kept tile s h
  | .powerStatus c, s, h => execPowerStatus_kept c s h
  | .stagedApply, s, h => execStagedApply_kept s h
  | .tileResetApply tile, s, h => execTileResetApply_kept tile s h
  | .quadrantResetApply quad, s, h => execQuadrantResetApply_kept quad s h
  | .lehrCfg c, s, h => execLehrCfg_kept c s h
  | .lehrRelease c, s, h => execLehrRelease_kept c s h
  | .lehrReinstate c, s, h => execLehrReinstate_kept c s h
  | .lehrStatus c, s, h => execLehrStatus_kept c s h
  | .lehrRound, s, h => execLehrRound_kept s h
  | .lehrEvaluate, s, h => execLehrEvaluate_kept s h
  | .stopGraceEnd scope, s, h => execStopGraceEnd_kept scope s h
  | .ledgerCommit, s, h => execLedgerCommit_kept s h
  | .hkCfg c, s, h => execHkCfg_kept c s h
  | .hkCal c, s, h => execHkCal_kept c s h
  | .hkCalRestore c, s, h => execHkCalRestore_kept c s h
  | .hkCalDone unit, s, h => execHkCalDone_kept unit s h
  | .hkStatus c, s, h => execHkStatus_kept c s h
  | .openWire c, s, h => execOpenWire_kept c s h
  | .hkConversion raw0 raw1, s, h => execHkConversion_kept raw0 raw1 s h
  | .hkInjectTrigger, s, h => execHkInjectTrigger_kept s h
  | .hkRefok unit, s, h => execHkRefok_kept unit s h
  | .repairReport c, s, h => execRepairReport_kept c s h
  | .repairRemap item, s, h => execRepairRemap_kept item s h
  | .ledgerRead c, s, h => execLedgerRead_kept c s h
  | .partCfg c, s, h => execPartCfg_kept c s h
  | .objOwner c, s, h => execObjOwner_kept c s h
  | .keyInstall c, s, h => execKeyInstall_kept c s h
  | .keyRevoke c, s, h => execKeyRevoke_kept c s h
  | .keyStatus c, s, h => execKeyStatus_kept c s h
  | .frameTransmit link, s, h => execFrameTransmit_kept link s h
  | .configWrite f field, s, h => execConfigWrite_kept f field s h
  | .jtagWrite objType objId, s, h => execJtagWrite_kept objType objId s h
  | .delayRequestSend d, s, h => execDelayRequestSend_kept d s h
  | .biasCompliance bc, s, h => execBiasCompliance_kept bc s h

/-- Settles O9: BAR2_BASE is 0 at reset, and no memory lists an entry. -/
theorem wellKeptAtReset : Obligations.WellKeptAtReset := ⟨⟨rfl, by decide⟩, reset_memory_wf⟩

/-- Settles O10: the front command keeps the invariant, which does not speak of the queue, and so does the passing of time. -/
theorem wellKeptByEveryStep : Obligations.WellKeptByEveryStep := by
  intro s t h hs
  unfold step at hs
  split at hs
  case h_1 c rest hq => exact exec_kept c { s with pending := rest } h t hs
  case h_2 hq =>
    cases hs
    exact idle_kept s h

end Sys2Proof.Machine
end

section
/-! SUPPORT. Writes of the BAR0 registers (12 R319, R321, R324, 13 R334, 23 R565 to R567): O18. -/

namespace Sys2Proof.Machine

/-! ### Interrupt causes: a write acts on the causes that it names and on no other (R324) -/

/-- A fold that changes the keys of its list that satisfy `p`, each once. -/
theorem tget_foldl_tmod {α : Type} [DecidableEq α] (d : α) (p : Nat → Bool) (g : α → α) (k : Nat) {l : List Nat}
    (hl : l.Nodup) (t : Tbl α) (i : Nat) : tget d (l.foldl (fun u j => if p j then tmod d u (k + j) g else u) t) (k + i) =
      if i ∈ l ∧ p i = true then g (tget d t (k + i)) else tget d t (k + i) := by
  induction l generalizing t with
  | nil => simp
  | cons j r ih =>
    obtain ⟨hj, hr⟩ := List.nodup_cons.1 hl
    rw [List.foldl_cons, ih hr]
    by_cases hi : j = i
    · subst hi
      by_cases hp : p j = true <;> simp [hj, hp, tmod]
    · by_cases hp : p j = true <;> simp [hi, Ne.symm hi, hp, tmod, tget_tset]

theorem bit_mod_word {i : Nat} (h : i < 32) (v : Nat) : bit (v % 2 ^ 32) i = bit v i := by
  rw [bit_eq_testBit, bit_eq_testBit, Nat.testBit_mod_two_pow, decide_eq_true h, Bool.true_and]

/-- The causes `k` to `k + 31` after a write of `v` to their half of IC_STATUS. -/
def icWritten (s : State) (f v k : Nat) (ic : Flags) : Flags :=
  (List.range 32).foldl (fun g i => if bit v i && icAssigned s f (k + i) then tmod {} g (k + i) (w1c s.now true) else g) ic

theorem tget_icWritten (s : State) (f v : Nat) (ic : Flags) {k n : Nat} (hn : n = k + n % 32) :
    tget {} (icWritten s f v k ic) n = w1c s.now (bit v (n % 32) && icAssigned s f n) (tget {} ic n) := by
  have h := tget_foldl_tmod ({} : Flag) (fun i => bit v i && icAssigned s f (k + i)) (w1c s.now true) k
    (List.nodup_range (n := 32)) ic (n % 32)
  rw [← hn] at h
  rw [icWritten, h]
  by_cases hb : (bit v (n % 32) && icAssigned s f n) = true
  · simp [hb, Nat.mod_lt]
  · simp [hb, w1c]

/-- A write of the half of IC_STATUS that holds cause `n`. -/
theorem regWrite32_icStatus (s : State) (f v : Nat) {n : Nat} (hn : n < 64) :
    regWrite32 s f (if n < 32 then 0x108 else 0x10C) v =
      some (s.modFn f (fun x => { x with ic := icWritten s f v (n / 32 * 32) x.ic })) := by
  by_cases h : n < 32
  · have hk : n / 32 * 32 = 0 := by omega
    rw [if_pos h, hk]
    simp [regWrite32, icWritten]
  · have hk : n / 32 * 32 = 32 := by omega
    rw [if_neg h, hk]
    simp [regWrite32, icWritten]

/-- The counter field of cause `n` in the word written. -/
theorem counterField_mod_word (v n : Nat) :
    v % 2 ^ 32 / 2 ^ (16 * (n % 2)) % 65536 = v / 2 ^ (16 * (n % 2)) % 65536 := by
  rcases Nat.mod_two_eq_zero_or_one n with h | h <;> rw [h] <;> omega

/-- A write of the word of IC_CNT that holds the counter of cause `n`. -/
theorem regWrite32_icCount (s : State) (f v : Nat) {n : Nat} (hn : n < 64) :
    ∃ t, regWrite32 s f (0x200 + n / 2 * 4) v = some t ∧
      tget {} (t.fn f).ic n = cntField (v / 2 ^ (16 * (n % 2))) (tget {} (s.fn f).ic n) := by
  have hidx : n / 2 * 4 / 2 = 2 * (n / 2) := by omega
  have hlow (k : Nat) (hk : k < 0x200) : 0x200 + n / 2 * 4 ≠ k := by omega
  have hr : 0x200 + n / 2 * 4 < 0x280 := by omega
  refine ⟨s.modFn f (fun x => { x with
    ic := tmod {} (tmod {} x.ic (2 * (n / 2)) (cntField v)) (2 * (n / 2) + 1) (cntField (v / 65536)) }), ?_, ?_⟩
  · simp [regWrite32, hlow, hr, hidx]
  · rw [State.fn_modFn, if_pos rfl]
    rcases Nat.mod_two_eq_zero_or_one n with h | h
    · have heven : 2 * (n / 2) = n := by omega
      simp [tmod, tget_tset, h, heven]
    · have hodd : 2 * (n / 2) + 1 = n := by omega
      have hne : 2 * (n / 2) ≠ n := by omega
      simp [tmod, tget_tset, h, hodd, hne]

/-- A flag and its counter after a write of both their fields (R12, R567). -/
theorem cntField_w1c (now v : Nat) (b : Bool) (x : Flag) : cntField v (w1c now b x) =
    { on := x.on && (!b || x.at_ == now + 1), cnt := if v % 65536 = 0 then 0 else x.cnt
      at_ := if b && x.at_ != now + 1 then 0 else x.at_ } := by
  by_cases hb : (b && x.at_ != now + 1) = true
  · obtain ⟨rfl, ha⟩ : b = true ∧ x.at_ ≠ now + 1 := by simpa using hb
    by_cases hv : v % 65536 = 0 <;> simp [cntField, w1c, ha, hv]
  · have ho : (!b || x.at_ == now + 1) = true := by cases b <;> simp_all
    by_cases hv : v % 65536 = 0 <;> simp [cntField, w1c, hb, ho, hv]

/-! ### Accesses (R319, R321) -/

section
variable {s : State} {f : Fin 17} {off width : Nat} {v : BitVec 64} {tlp : Tlp}

/-- A write that is not one of DEV_RESET. -/
theorem exec_registerWrite_of_open (ho : barOpen s f = true)
    (hr : f.val = 0 → off = 0x400 → width = 4 → tlpFault s 0 tlp ≠ none) :
    exec (.registerWrite f off width v tlp) s = .next (registerWrite s f off width v.toNat tlp) := by
  have hd : ¬ (f.val = 0 && off = 0x400 && width = 4 && (tlpFault s 0 tlp).isNone) = true := by
    simpa [and_imp] using hr
  exact congrArg Host.Outcome.next ((if_neg (by simp [ho])).trans (if_neg hd))

/-- A write that does not arrive sound changes no register, DEV_RESET included. -/
theorem exec_registerWrite_faulty {e : AerError} (ho : barOpen s f = true) (he : tlpFault s f tlp = some e) :
    exec (.registerWrite f off width v tlp) s = .next (s.send (.aer f e)) := by
  have hr (hf : f.val = 0) : tlpFault s 0 tlp ≠ none := by
    rw [hf] at he
    simp [he]
  rw [exec_registerWrite_of_open ho (fun hf _ _ => hr hf), registerWrite, he]
  rfl

/-- Where the host does not check it, an ECRC error is not found. -/
theorem exec_registerWrite_unchecked (hc : (s.fn f).ecrcCheck = false) :
    exec (.registerWrite f off width v .ecrc) s = exec (.registerWrite f off width v .sound) s := by
  have he : tlpFault s f .ecrc = none := if_neg (ne_true_of_eq_false hc)
  have hw : registerWrite s f off width v.toNat .ecrc = registerWrite s f off width v.toNat .sound := by
    rw [registerWrite, he]
    rfl
  change execRegisterWrite f off width v .ecrc s = execRegisterWrite f off width v .sound s
  by_cases hf : f.val = 0
  · rw [hf] at he
    rw [execRegisterWrite, execRegisterWrite, hw, he]
    rfl
  · simp [execRegisterWrite, hw, hf]

/-- An access that R319 refuses below the doorbells. -/
theorem exec_registerWrite_unaligned (ho : barOpen s f = true) (hb : (width ≠ 4 ∧ width ≠ 8) ∨ off % width ≠ 0)
    (hr : off ≠ 0x400) (hd : off < 0x80000) :
    exec (.registerWrite f off width v .sound) s = .next (s.send (.aer f .unsupported)) := by
  rw [exec_registerWrite_of_open ho (fun _ h => absurd h hr)]
  simp [registerWrite, tlpFault, hb, hd, unsupported, aer]

/-- An aligned offset below the rings at which no register is 64 bits wide, and which is not DEV_RESET's. -/
abbrev wordOffset (off : Nat) : Prop := off % 4 = 0 ∧ off < 0x10000 ∧ off ≠ 0x400 ∧ off ≠ 0x408 ∧ off ≠ 0x410

theorem exec_registerWrite_word (ho : barOpen s f = true) (hw : wordOffset off) :
    exec (.registerWrite f off 4 v .sound) s =
      .next ((regWrite32 s f off (v.toNat % 2 ^ 32)).getD (s.send (.aer f .unsupported))) := by
  obtain ⟨ha, hlt, hreset, hbase, hledger⟩ := hw
  rw [exec_registerWrite_of_open ho (fun _ h => absurd h hreset)]
  have above (k : Nat) (hk : 0x10000 ≤ k) : ¬ k ≤ off := by omega
  simp [registerWrite, tlpFault, ha, above, hbase, hledger, unsupported, aer]

end

/-- Settles O18: below the rings a sound access is one write of a 32-bit word, and any other is refused as a whole. -/
theorem registerWrites : Obligations.RegisterWrites := by
  refine ⟨fun s f v ho => ?word, fun s v ho => ?pf0, fun s f v n ho => ?causes⟩
  case word =>
    have word {off : Nat} {r : State} (hw : wordOffset off)
        (hr : (regWrite32 s f off (v.toNat % 2 ^ 32)).getD (s.send (.aer f .unsupported)) = r) :
        exec (.registerWrite f off 4 v .sound) s = .next r := by
      rw [exec_registerWrite_word ho hw, hr]
    refine ⟨word (by decide) rfl, word (by decide) rfl, word (by decide) rfl, word (by decide) rfl, word (by decide) rfl,
      word (by decide) rfl, ?readOnly, ?reserved, ?misaligned, ?narrow, ?poisoned, ?checked, ?unchecked⟩
    case readOnly =>
      intro off ho
      have hr : ∀ o ∈ [0x14, 0x18, 0x20, 0x28, 0x300, 0x304, 0x30C, 0x310, 0x314], wordOffset o := by decide
      refine word (hr off ho) ?_
      simp only [List.mem_cons, List.not_mem_nil, or_false] at ho
      rcases ho with rfl | rfl | rfl | rfl | rfl | rfl | rfl | rfl | rfl <;> rfl
    case reserved =>
      intro off ho
      have hr : ∀ o ∈ [0x8, 0xC, 0x30, 0x104, 0x110, 0x280, 0x320, 0x1000], wordOffset o := by decide
      refine word (hr off ho) ?_
      simp only [List.mem_cons, List.not_mem_nil, or_false] at ho
      rcases ho with rfl | rfl | rfl | rfl | rfl | rfl | rfl | rfl <;> rfl
    case misaligned => exact exec_registerWrite_unaligned ho (.inr (by decide)) (by decide) (by decide)
    case narrow => exact exec_registerWrite_unaligned ho (.inl (by decide)) (by decide) (by decide)
    case poisoned => exact fun _ _ => exec_registerWrite_faulty ho rfl
    case checked => exact fun hc _ _ => exec_registerWrite_faulty ho (if_pos hc)
    case unchecked => exact fun hc _ _ => exec_registerWrite_unchecked hc
  case pf0 =>
    refine ⟨?_, ?_⟩
    · rw [exec_registerWrite_word ho (by decide)]
      simp only [← cntField_w1c]
      rfl
    · rw [exec_registerWrite_of_open ho (fun _ h => absurd h (by decide))]
      rfl
  case causes =>
    obtain ⟨u, hu, hc⟩ := regWrite32_icCount s f (v.toNat % 2 ^ 32) n.isLt
    refine ⟨s.modFn f (fun x => { x with ic := icWritten s f (v.toNat % 2 ^ 32) (n / 32 * 32) x.ic }), ?_, ?_, u, ?_, ?_⟩
    · rw [exec_registerWrite_word ho (by split <;> decide), regWrite32_icStatus s f _ n.isLt]
      rfl
    · rw [State.fn_modFn, if_pos rfl, tget_icWritten s f _ _ (by omega), bit_mod_word (Nat.mod_lt _ (by decide))]
      rfl
    · rw [exec_registerWrite_word ho (by have := n.isLt; unfold wordOffset; omega), hu]
      rfl
    · rw [hc, cntField, counterField_mod_word]

end Sys2Proof.Machine
end

section
/-! SUPPORT. Configuration space, FLR and Hot Reset (12 R311 to R316, R318, R322): O19. -/

namespace Sys2Proof.Machine

/-! ### Resets of configuration space (R314) -/

theorem resetConfig_resetConfig (x : Fn) : resetConfig (resetConfig x) = resetConfig x := rfl

theorem fn_foldl_resetConfig (l : List Nat) (s : State) (f : Nat) :
    (l.foldl (fun s i => s.modFn i resetConfig) s).fn f = if f ∈ l then resetConfig (s.fn f) else s.fn f := by
  induction l generalizing s with
  | nil => simp
  | cons i r ih =>
    rw [List.foldl_cons, ih, State.fn_modFn]
    by_cases hi : i = f
    · subst hi
      simp [resetConfig_resetConfig]
    · simp [hi, Ne.symm hi]

theorem foldl_modFn_frame (g : Fn → Fn) (l : List Nat) (s : State) (x : Tbl Fn) :
    { l.foldl (fun s i => s.modFn i g) s with fns := x } = { s with fns := x } := by
  induction l generalizing s with
  | nil => rfl
  | cons i r ih => exact ih _

theorem removeVfs_eq (s : State) :
    removeVfs s = ((List.range 16).map (· + 1)).foldl (fun s i => s.modFn i resetConfig) s := by
  rw [List.foldl_map, removeVfs]

theorem removeVfs_pf0 (s : State) : (removeVfs s).fn 0 = s.fn 0 := by
  rw [removeVfs_eq, fn_foldl_resetConfig, if_neg (by simp)]

theorem removeVfs_vf (s : State) {f : Nat} (h1 : 1 ≤ f) (h16 : f ≤ 16) : (removeVfs s).fn f = resetConfig (s.fn f) := by
  rw [removeVfs_eq, fn_foldl_resetConfig, if_pos]
  exact List.mem_map.2 ⟨f - 1, List.mem_range.2 (by omega), by omega⟩

theorem removeVfs_frame (s : State) (x : Tbl Fn) : { removeVfs s with fns := x } = { s with fns := x } := by
  rw [removeVfs_eq, foldl_modFn_frame]

/-- A change of PF0 that removes every VF. -/
theorem removeVfs_modFn_pf0 (s : State) (g : Fn → Fn) :
    (removeVfs (s.modFn 0 g)).fn 0 = g (s.fn 0)
    ∧ (∀ f, 1 ≤ f → f ≤ 16 → (removeVfs (s.modFn 0 g)).fn f = resetConfig (s.fn f))
    ∧ { removeVfs (s.modFn 0 g) with fns := s.fns } = s := by
  refine ⟨?_, fun f h1 h16 => ?_, removeVfs_frame _ _⟩
  · rw [removeVfs_pf0, State.fn_modFn, if_pos rfl]
  · rw [removeVfs_vf _ h1 h16, State.fn_modFn, if_neg (by omega)]

/-! ### Configuration requests (R313) -/

section
variable {s : State} {f : Fin 17} {c : CfgField}

theorem exec_configWrite_ready (hp : s.power.perst = false) (hc : s.power.core = true) (hf : fnPresent s f = true)
    (hr : configReady s = true) : exec (.configWrite f c) s = .next (configField s f c) :=
  congrArg Host.Outcome.next ((if_neg (by simp [hp, hc, hf])).trans (if_pos hr))

theorem exec_configWrite_early (hp : s.power.perst = false) (hc : s.power.core = true) (hf : fnPresent s f = true)
    (hr : configReady s = false) : exec (.configWrite f c) s = .next (s.send (.configRetry f)) :=
  congrArg Host.Outcome.next ((if_neg (by simp [hp, hc, hf])).trans (if_neg (ne_true_of_eq_false hr)))

theorem exec_configWrite_perst (hp : s.power.perst = true) : exec (.configWrite f c) s = .next s :=
  congrArg Host.Outcome.next (if_pos (by simp [hp]))

theorem exec_configWrite_vfEnable (hp : s.power.perst = false) (hc : s.power.core = true) (hr : configReady s = true)
    (on : Bool) : exec (.configWrite 0 (.vfEnable on)) s = .next (
      if on then s.modFn 0 (fun x => { x with vfEnable := on })
      else removeVfs (s.modFn 0 (fun x => { x with vfEnable := on }))) := by
  rw [exec_configWrite_ready hp hc rfl hr, configField, if_pos (by rfl)]

end

/-- Settles O19: each request is one update of its function's configuration space, or one removal of every VF. -/
theorem functionConfiguration : Obligations.FunctionConfiguration := by
  refine ⟨fun s f v adr dat mask ho hv => ?msix, fun s f hf he hg => ?flrVf, fun s => ?flrPf0, fun s => ?hotReset,
    fun x => rfl, fun s f on hp hc hr hf => ?fields, fun s hp hc hr => ?vfEnable,
    fun s f c hp hc hr hf => exec_configWrite_early hp hc hf hr, fun s f c hp => exec_configWrite_perst hp,
    fun s ty id => rfl⟩
  case msix => exact congrArg Host.Outcome.next (if_pos (by simp [ho, hv]))
  case flrVf =>
    have hpres : fnPresent s f = true := by simp [fnPresent, he, hg]
    exact congrArg Host.Outcome.next ((if_pos hpres).trans (if_neg hf))
  case flrPf0 =>
    exact ⟨_, congrArg Host.Outcome.next ((if_pos rfl).trans (if_pos rfl)),
      removeVfs_modFn_pf0 s (fun x => resetMail (resetConfig x))⟩
  case hotReset =>
    refine ⟨_, rfl, fun f hf => ?_, foldl_modFn_frame resetConfig _ s s.fns⟩
    rw [fn_foldl_resetConfig, if_pos (List.mem_range.2 hf)]
  case fields =>
    have hx (c : CfgField) := exec_configWrite_ready (c := c) hp hc hf hr
    refine ⟨hx _, hx _, hx _, hx _, hx _, hx _, fun v => ⟨hx _, hx _⟩, fun v => hx _, fun h0 v => ?barSize,
      hx _, hx _, hx _⟩
    case barSize => rw [hx, configField, if_pos h0]
  case vfEnable =>
    rw [exec_configWrite_vfEnable hp hc hr, exec_configWrite_vfEnable hp hc hr]
    exact ⟨rfl, _, rfl, removeVfs_modFn_pf0 s (fun x => { x with vfEnable := false })⟩

end Sys2Proof.Machine
end

section
/-! SUPPORT. The queue of commands (13 R340): O1. -/

namespace Sys2Proof.Machine

theorem step_front {s : State} {c : Instr} {r : List Instr} (h : s.pending = c :: r) :
    step s = exec c { s with pending := r } := by
  simp only [step, h]

theorem step_idle {s : State} (h : s.pending = []) : step s = .next (idle s) := by
  simp only [step, h]

/-- Settles O1: the step is a match on the queue, and no word spells a command. -/
theorem commandsRunInOrder : Obligations.CommandsRunInOrder :=
  ⟨fun s c => step_front (s := { s with pending := c :: s.pending }) rfl, fun _ _ _ => step_front, fun _ => step_idle,
    fun _ _ _ => ⟨rfl, rfl⟩⟩

end Sys2Proof.Machine
end

section
/-! SUPPORT. Frames taken and responses posted in a function's mailbox (12 R315, R322; 13 R334 to R343): O3, O4, O5. -/

namespace Sys2Proof.Machine

/-! ### What a vector sent leaves unchanged (12 R322) -/

section Vectors
variable (s : State) (f v : Nat)

/-- A vector leaves, or it becomes pending in its function. -/
theorem msix_cases : msix s f v = s ∨ msix s f v = sendVector s f v
    ∨ msix s f v = s.modFn f (fun x => { x with vecPend := tset false x.vecPend v true }) := by
  unfold msix
  split
  · exact .inl rfl
  · split
    · exact .inr (.inl rfl)
    · exact .inr (.inr rfl)

theorem msix_frame (a : Tbl Fn) (b : List Sent) : { msix s f v with fns := a, sent := b } = { s with fns := a, sent := b } := by
  rcases msix_cases s f v with h | h | h <;> rw [h] <;> rfl

theorem fn_msix_other {g : Nat} (hg : g ≠ f) : (msix s f v).fn g = s.fn g := by
  rcases msix_cases s f v with h | h | h <;> simp [h, sendVector, Ne.symm hg]

theorem fn_msix_frame (t : Tbl Bool) : { (msix s f v).fn f with vecPend := t } = { s.fn f with vecPend := t } := by
  rcases msix_cases s f v with h | h | h <;> simp [h, sendVector]

@[simp] theorem fn_msix_mbox : ((msix s f v).fn f).mbox = (s.fn f).mbox := (congrArg Fn.mbox (fn_msix_frame s f v []) :)
@[simp] theorem fn_msix_rspPi : ((msix s f v).fn f).rspPi = (s.fn f).rspPi := (congrArg Fn.rspPi (fn_msix_frame s f v []) :)
@[simp] theorem fn_msix_outst : ((msix s f v).fn f).outst = (s.fn f).outst := (congrArg Fn.outst (fn_msix_frame s f v []) :)

end Vectors

/-! ### Frames and responses (13 R335, R339, R342, R343) -/

theorem frameBytes_length (h : Nat) (p : List Byte) : (frameBytes h p).length = 256 := by
  simp [frameBytes]
  omega

theorem frameBytes_of_short {p : List Byte} (hp : p.length ≤ 240) (h : Nat) :
    frameBytes h p = leBytes 16 h ++ (p ++ List.replicate (240 - p.length) 0) := by
  rw [frameBytes, List.take_of_length_le]
  simp
  omega

/-- The 256 bytes of a response. -/
def responseFrame (o : Outst) (dup : Bool) (st : Status) (ap : Nat) (out : List Byte) : List Byte :=
  frameBytes (mkHeader o.opcode o.tag (16 + out.length) o.part true dup 0 st.code) (leBytes 8 o.accept ++ leBytes 8 ap ++ out)

theorem responseFrame_of_short {out : List Byte} (h : out.length ≤ 224) (o : Outst) (dup : Bool) (st : Status) (ap : Nat) :
    responseFrame o dup st ap out = leBytes 16 (mkHeader o.opcode o.tag (16 + out.length) o.part true dup 0 st.code)
      ++ leBytes 8 o.accept ++ leBytes 8 ap ++ out ++ List.replicate (224 - out.length) 0 := by
  have hpad : 240 - (leBytes 8 o.accept ++ leBytes 8 ap ++ out).length = 224 - out.length := by simp; omega
  rw [responseFrame, frameBytes_of_short (by simp; omega), hpad]
  simp only [List.append_assoc]

section Responses
variable (s : State) (f : Nat) (o : Outst) (dup : Bool) (st : Status) (ap : Nat) (out : List Byte)

theorem fn_postRsp_mbox : ((postRsp s f o dup st ap out).fn f).mbox =
    writeBytes (s.fn f).mbox (0x11000 + 256 * ((s.fn f).rspPi % 16)) (responseFrame o dup st ap out) := by
  simp [postRsp, responseFrame]

theorem fn_postRsp_rspPi : ((postRsp s f o dup st ap out).fn f).rspPi = ((s.fn f).rspPi + 1) % 65536 := by
  simp [postRsp]

theorem fn_postRsp_outst : ((postRsp s f o dup st ap out).fn f).outst =
    (s.fn f).outst ++ [{ o with resp := some (s.fn f).rspPi }] := by
  simp [postRsp]

theorem fn_postRsp_other {g : Nat} (hg : g ≠ f) : (postRsp s f o dup st ap out).fn g = s.fn g := by
  simp [postRsp, fn_msix_other _ _ _ hg, Ne.symm hg]

theorem postRsp_frame : { postRsp s f o dup st ap out with fns := s.fns, sent := s.sent } = s :=
  msix_frame _ _ _ _ _

end Responses

/-! ### How a command ends (13 R343, 10 R273) -/

theorem completed_without_entries {c : Frame} {t : State} {r : Result} (ho : outRefOf c = none) (hi : r.items = [])
    (hw : r.waits = false) : completed c t r = postRsp r.next c.func (outstOf c t) false .ok r.apply r.out := by
  simp [completed, complete, ho, hi, hw, logItems]

theorem completed_waiting {c : Frame} {t : State} {r : Result} (ho : outRefOf c = none) (hw : r.waits = true) :
    completed c t r = r.next.modFn c.func (fun x => { x with outst := x.outst ++ [outstOf c t] }) := by
  simp [completed, complete, ho, hw, outstOf]

theorem refusalLogged_eq_false {st : Status} (hd : st ≠ .partDenied) (hs : st ≠ .sigFail) (hr : st ≠ .rollback)
    (hi : st ≠ .incompatible) : refusalLogged st = false := by
  unfold refusalLogged
  split
  exacts [absurd rfl hd, absurd rfl hs, absurd rfl hr, absurd rfl hi, rfl]

theorem refuse_unlogged (s : State) (f : Nat) (w : Owner) (o : Outst) {st : Status} (b : Nat × Nat)
    (hn : st ≠ .nvTempInhibit) (hl : refusalLogged st = false) :
    refuse s f w o st b = postRsp s f o false st 0 (refusalOut o.opcode) := by
  simp [refuse, hn, hl]

theorem refusalOut_eq (op : Nat) : refusalOut op =
    if op = 0x0901 ∨ op = 0x0902 ∨ op = 0x0407 then [0, 0, 0, 0] else [] := by
  simp [refusalOut, leBytes]

/-- Settles O5: the response is one frame written at PI, and its vector touches no byte of the mailbox. -/
theorem responses : Obligations.Responses := by
  refine ⟨fun s f o dup st ap out hout => ⟨?bytes, fn_postRsp_rspPi .., fn_postRsp_outst .., fun i hi => ?others,
      fun g hg => fn_postRsp_other _ _ _ _ _ _ _ hg, postRsp_frame ..⟩,
    fun c t r ho hi => ⟨completed_without_entries ho hi, completed_waiting ho⟩,
    fun s f w o st b hn hd hs hr hi => refuse_unlogged s f w o b hn (refusalLogged_eq_false hd hs hr hi), refusalOut_eq⟩
  case bytes =>
    have hlen : (responseFrame o dup st ap out).length = 256 := frameBytes_length _ _
    rw [fn_postRsp_mbox, ← hlen, readBytes_writeBytes_same, responseFrame_of_short hout]
  case others =>
    have hlen : (responseFrame o dup st ap out).length = 256 := frameBytes_length _ _
    rw [fn_postRsp_mbox, tget_writeBytes_other _ _ _ _ (by rwa [hlen])]

/-! ### Frames that are refused before acceptance (13 R341) -/

theorem serve_refusedEarly {i : CmdInfo} {c : Frame} {s : State} {st : Status} (body : Call → State → Result)
    (hop : fld c.header.toNat 0 16 = i.op) (hb : barOpen s c.func = true) (ht : (offer s c).2 = true)
    (he : earlyFail i c (offer s c).1 = some st) : serve i c s body = refuseEarly c (offer s c).1 st := by
  simp [serve, acceptFrame, hop, hb, ht, he]

theorem refuseEarly_unlogged (c : Frame) (s : State) {st : Status} (h : st ≠ .partDenied) : refuseEarly c s st =
    postRsp s c.func { outstOf c s with accept := 0 } (st == .tagDup) st 0 (refusalOut (fld c.header.toNat 0 16)) := by
  simp [refuseEarly, h]

theorem earlyFail_tagDup {i : CmdInfo} {c : Frame} {s : State} (hh : badHeader c.header.toNat (fld c.header.toNat 32 8) = false)
    (ht : (s.fn c.func).outst.any (fun e => e.tag == fld c.header.toNat 16 16) = true) : earlyFail i c s = some .tagDup :=
  (firstFail_cons_some ..).2 (.inr ⟨hh, (firstFail_cons_some ..).2 (.inl ⟨ht, rfl⟩)⟩)

/-- Settles O4: the tag's check comes right after the header's, and a response only adds to the outstanding commands. -/
theorem tagsInUse : Obligations.TagsInUse := by
  intro i c s body t hop hb ht hh hd
  have hs : serve i c s body = postRsp t c.func { outstOf c t with accept := 0 } true .tagDup 0 (refusalOut i.op) := by
    rw [serve_refusedEarly body hop hb ht (earlyFail_tagDup hh hd), refuseEarly_unlogged c _ (by decide), hop]
    rfl
  refine ⟨hs, fun e he => ?_⟩
  rw [hs, fn_postRsp_outst]
  exact List.mem_append_left _ he

/-! ### Frames that are accepted (13 R334, R337, R339, R340) -/

@[simp] theorem ringOcc_self (n : Nat) : ringOcc n n = 0 := by
  simp [ringOcc]

theorem offer_of_empty {s : State} {c : Frame} (he : (s.fn c.func).cmdPi = (s.fn c.func).cmdCi)
    (hs : serving s c.func = true) : offer s c = (s.setFn c.func { placeFrame (s.fn c.func) (frameImage c) with
      cmdCi := ((placeFrame (s.fn c.func) (frameImage c)).cmdCi + 1) % 65536 }, true) := by
  simp [offer, he, hs]

theorem fnPart_setFn {s : State} {f : Nat} {x : Fn} (hb : x.bound = (s.fn f).bound) (hp : x.part = (s.fn f).part)
    (hs : x.secure = (s.fn f).secure) (g : Nat) : fnPart (s.setFn f x) g = fnPart s g := by
  by_cases h : f = g
  · subst h
    simp [fnPart, hb, hp, hs]
  · simp [fnPart, h]

section References
variable {c : Frame}

theorem refsFail_of_none (hi : bit c.header.toNat 48 = false) (ho : bit c.header.toNat 50 = false) (t : State) :
    refsFail c t = none := by
  simp [refsFail, inRefOf, outRefOf, hi, ho]

theorem fetchRef_of_none (hi : bit c.header.toNat 48 = false) (t : State) : fetchRef c t = (t, some []) := by
  simp [fetchRef, inRefOf, hi]

theorem callOf_blk_of_none (hi : bit c.header.toNat 48 = false) (ho : bit c.header.toNat 50 = false) (i : CmdInfo) (t : State) :
    (callOf i c t []).blk = leNat (if i.inlineF then (payloadOf c).take 16 else payloadOf c) := by
  simp [callOf, hi, ho, apply_ite leNat]

theorem callOf_data_of_none (hi : bit c.header.toNat 48 = false) (ho : bit c.header.toNat 50 = false) (i : CmdInfo) (t : State) :
    (callOf i c t []).data = if i.inlineF then (payloadOf c).drop 16 else payloadOf c := by
  simp [callOf, hi, ho]

end References

theorem earlyFail_ready {i : CmdInfo} {c : Frame} {t : State} {o : Owner} (hg : t.gaf.state = .ready)
    (hh : badHeader c.header.toNat (fld c.header.toNat 32 8) = false)
    (ht : (t.fn c.func).outst.any (fun e => e.tag == fld c.header.toNat 16 16) = false) (ho : fnPart t c.func = some o)
    (hp : fld c.header.toNat 40 4 = o.part) : earlyFail i c t = none := by
  simp only [earlyFail, firstFail_cons_none, hh, ht, ho, hp, hg]
  simp

/-- Settles O3: with an empty ring the frame is taken at once, and no check of a READY Gaffer stops it. -/
theorem acceptedFrames : Obligations.AcceptedFrames := by
  intro i c s o h x y t hop hb hg he _ hn hh hd ho hp hpf hi hr
  have hoff : offer s c = (t, true) := offer_of_empty he (by simpa [serving, hg] using hn)
  have hpart : fnPart t c.func = some o := (fnPart_setFn (by rfl) (by rfl) (by rfl) _).trans ho
  have hself : t.fn c.func = { y with cmdCi := (y.cmdCi + 1) % 65536 } := by simp [t]
  have hearly : earlyFail i c t = none := earlyFail_ready hg hh (by rwa [hself]) hpart hp
  refine ⟨?admitted, ?state, rfl, ?who, rfl, rfl, rfl, fun hl => ?plain, fun hl => ?inline⟩
  case admitted =>
    have hop' : (fld c.header.toNat 0 16 == i.op) = true := beq_iff_eq.2 hop
    have hpf0 : (!i.pf0 || c.func == 0) = true := by
      cases hv : i.pf0 with
      | false => rfl
      | true => simp [hpf hv]
    simp [admits, hoff, hop', hb, hearly, hpf0, refsFail_of_none hi hr, fetchRef_of_none hi]
  case state => rw [acceptState, hoff, fetchRef_of_none hi]
  case who => simp [callOf, hpart]
  case plain => simp [callOf_blk_of_none hi hr, callOf_data_of_none hi hr, hl]
  case inline => simp [callOf_blk_of_none hi hr, callOf_data_of_none hi hr, hl]

end Sys2Proof.Machine
end

section
/-! SUPPORT. The host's writes of the mailbox: its indexes and its frame slots (12 R319; 13 R334, R339): O14, O15. -/

namespace Sys2Proof.Machine

/-! ### Indexes (R334, R339) -/

section Indexes
variable {s : State} {f : Fin 17} {v : BitVec 32} {r : HostRing}

theorem exec_mbCmdPiWrite_of_open (h : barOpen s f = true) :
    exec (.mbCmdPiWrite f v) s = .next (cmdPiWrite s f (v.toNat % 65536)) :=
  congrArg Host.Outcome.next (if_pos h)

theorem exec_mbCiWrite_of_open (h : barOpen s f = true) :
    exec (.mbCiWrite f r v) s = .next (ciWrite s f r (v.toNat % 65536)) :=
  congrArg Host.Outcome.next (if_pos h)

end Indexes

/-- Settles O14: each index has one bound, up to which the write moves it and beyond which it is an error. -/
theorem mailboxIndexWrites : Obligations.MailboxIndexWrites := by
  intro s f v hb n x err
  simp only [exec_mbCmdPiWrite_of_open hb, exec_mbCiWrite_of_open hb]
  exact ⟨fun h => congrArg _ (if_pos h), fun h => congrArg _ (if_neg (not_le.2 h)),
    fun h => congrArg _ (if_pos h), fun h => congrArg _ (if_neg (not_le.2 h)),
    fun h => congrArg _ (if_pos h), fun h => congrArg _ (if_neg (not_le.2 h)),
    fun h => congrArg _ (if_pos h), fun h => congrArg _ (if_neg (not_le.2 h))⟩

/-! ### Frame slots (R319, R334) -/

section Slots
variable {s : State} {f off : Nat} {d : List Byte} {r : MbRing}

theorem exec_mbFrameWrite_of_open {f : Fin 17} (h : barOpen s f = true) :
    exec (.mbFrameWrite f r off d) s = .next (frameWrite s f r off d) :=
  congrArg Host.Outcome.next (if_pos h)

/-- An aligned access of 4 or 8 bytes inside its ring. -/
def SlotAccess (r : MbRing) (off : Nat) (d : List Byte) : Prop :=
  (d.length = 4 ∨ d.length = 8) ∧ off % d.length = 0 ∧ off + d.length ≤ mbRingBytes r

theorem frameWrite_of_bad_width (h4 : d.length ≠ 4) (h8 : d.length ≠ 8) :
    frameWrite s f r off d = s.send (.aer f .unsupported) := by
  simp [frameWrite, h4, h8, unsupported, aer]

theorem SlotAccess.served (h : SlotAccess r off d) : ((d.length != 4 && d.length != 8) || off % d.length != 0
    || decide (off + d.length > mbRingBytes r)) = false := by
  obtain ⟨hw, ha, hl⟩ := h
  have hwidth : (d.length != 4 && d.length != 8) = false := by simpa [Decidable.or_iff_not_imp_left] using hw
  simpa [hwidth, ha] using hl

theorem frameWrite_cmd (h : SlotAccess .cmd off d) : frameWrite s f .cmd off d =
    if slotPending (s.fn f) (off / 256) then mberr s f
    else s.modFn f (fun x => { x with mbox := writeBytes x.mbox (0x10000 + off) d }) :=
  if_neg (ne_true_of_eq_false h.served)

theorem frameWrite_waiting (h : SlotAccess .cmd off d) (hp : slotPending (s.fn f) (off / 256) = true) :
    frameWrite s f .cmd off d = mberr s f :=
  (frameWrite_cmd h).trans (if_pos hp)

theorem frameWrite_free (h : SlotAccess .cmd off d) (hp : slotPending (s.fn f) (off / 256) = false) :
    frameWrite s f .cmd off d = s.modFn f (fun x => { x with mbox := writeBytes x.mbox (0x10000 + off) d }) :=
  (frameWrite_cmd h).trans (if_neg (ne_true_of_eq_false hp))

theorem frameWrite_of_device_ring (h : SlotAccess r off d) (hr : r ≠ .cmd) : frameWrite s f r off d = mberr s f := by
  cases r with
  | cmd => exact absurd rfl hr
  | rsp => exact if_neg (ne_true_of_eq_false h.served)
  | evt => exact if_neg (ne_true_of_eq_false h.served)
  | aud => exact if_neg (ne_true_of_eq_false h.served)

end Slots

/-- Settles O15: the slot's place in the ring decides, and a write of bytes touches no other byte. -/
theorem frameWrites : Obligations.FrameWrites := by
  intro s f off d hb
  simp only [exec_mbFrameWrite_of_open hb]
  refine ⟨fun hw ha hl hfree => ⟨_, congrArg _ (frameWrite_free ⟨hw, ha, hl⟩ (decide_eq_false (not_lt.2 hfree))), rfl,
      ?stored, fun a ha => ?others⟩,
    fun hw ha hl hp => congrArg _ (frameWrite_waiting ⟨hw, ha, hl⟩ (decide_eq_true hp)),
    fun r hr hw ha hl => congrArg _ (frameWrite_of_device_ring ⟨hw, ha, hl⟩ hr),
    fun r h4 h8 => congrArg _ (frameWrite_of_bad_width h4 h8)⟩
  case stored =>
    rw [State.fn_modFn, if_pos rfl]
    exact readBytes_writeBytes_same _ _ _
  case others =>
    rw [State.fn_modFn, if_pos rfl]
    exact tget_writeBytes_other _ _ _ _ ha

end Sys2Proof.Machine
end

section
/-! SUPPORT. Identity, firmware, halts, bindings and interrupt causes (12 R317, R323; 13 R328, R351 to R356): O11, O12, O13. -/

namespace Sys2Proof.Machine

/-! ### Halts (R328) -/

theorem halt_halted {s : State} (h : s.gaf.state = .halted) (n : Nat) : halt s n = s := by
  simp [halt, h]

theorem halt_running {s : State} (h : s.gaf.state ≠ .halted) (hc : s.power.core = true) (n : Nat) :
    halt s n = (List.range 17).foldl (fun t f => if (fnPart t f).isSome then msix t f 1 else t)
      { s with gaf := { s.gaf with state := .halted, booting := false, halt := some (n, s.st) } } := by
  simp [halt, h, hc]

/-- Settles O13: both commands are the one operation `halt`. -/
theorem gafferHalts : Obligations.GafferHalts :=
  ⟨fun _ x h hc => congrArg Host.Outcome.next (halt_running h hc (haltNum x)),
    fun _ h hc => congrArg Host.Outcome.next (halt_running h hc (haltNum .watchdog)),
    fun _ x h => congrArg Host.Outcome.next (halt_halted h (haltNum x))⟩

/-! ### Identity, VF bindings and interrupt causes (R317, R323, R351, R352) -/

theorem vfBad_eq_false {k : Call} (h1 : 1 ≤ fld k.blk 0 5) (h16 : fld k.blk 0 5 ≤ 16)
    (hp : bit k.blk 5 = true → fld k.blk 6 4 ≠ 0) (hr : fld k.blk 11 53 = 0) : vfBad k = false := by
  have h0 : fld k.blk 0 5 ≠ 0 := by omega
  simpa [vfBad, h0, h16, hr] using hp

/-- Settles O11: IDENTIFY and VERSION check nothing; the other bodies are their checks before one result. -/
theorem identityBindingsAndCauses : Obligations.IdentityBindingsAndCauses := by
  refine ⟨?identify, ?version, ?vfBind, ?vfUnbind, ?icCfg⟩
  case identify => exact Completes.of_body (fun _ _ => rfl) (fun _ _ _ => ⟨_, rfl⟩) (fun _ _ _ => rfl)
  case version => exact Completes.of_body (fun _ _ => rfl) (fun _ _ _ => ⟨_, rfl⟩) (fun _ _ _ => rfl)
  case vfBind =>
    refine Completes.of_checks (fun _ _ => rfl) (fun _ _ => rfl) (fun k t h => ?_) (fun _ _ _ => rfl) (fun _ _ _ => rfl)
    simp only [Bool.and_eq_true, decide_eq_true_eq, beq_iff_eq, bne_iff_ne, Bool.not_eq_true', Option.isNone_iff_eq_none] at h
    obtain ⟨⟨⟨⟨⟨⟨h1, h16⟩, hbind⟩, hpart⟩, hrsv⟩, hbound⟩, hfree⟩ := h
    simp [vfBad_eq_false h1 h16 (fun _ => hpart) hrsv, hbind, hbound, hfree]
  case vfUnbind =>
    refine Completes.of_checks (fun _ _ => rfl) (fun _ _ => rfl) (fun k t h => ?checks) (fun k t h => ?effect) (fun _ _ _ => rfl)
    all_goals
      simp only [Bool.and_eq_true, decide_eq_true_eq, beq_iff_eq, Bool.not_eq_true'] at h
      obtain ⟨⟨⟨⟨⟨h1, h16⟩, hbind⟩, hrsv⟩, hbound⟩, hmaster⟩ := h
    case checks =>
      have hnone : ¬ bit k.blk 5 = true := ne_true_of_eq_false hbind
      simp [vfBad_eq_false h1 h16 (absurd · hnone) hrsv, hbind, hmaster]
    case effect => exact if_pos hbound
  case icCfg =>
    refine Completes.of_checks (fun _ _ => rfl) (fun _ _ => rfl) (fun k t h => ?_) (fun _ _ _ => rfl) (fun _ _ _ => rfl)
    simp only [Bool.and_eq_true, decide_eq_true_eq, beq_iff_eq] at h
    obtain ⟨⟨⟨⟨⟨⟨⟨hen, hrsv⟩, htop⟩, hf⟩, hv⟩, hpart⟩, howner⟩, hidle⟩ := h
    simpa [hen, hrsv, htop, hf, hv, hpart, Decidable.or_iff_not_imp_left] using And.intro howner hidle

/-! ### Firmware (R353 to R356) -/

theorem imageFail_of_unparsed {b : List Byte} (h : parseImage b = none) (s : State) : imageFail s b = some .badImage := by
  unfold imageFail
  simp only [h]

theorem parseImage_of_imageFail_none {s : State} {b : List Byte} (h : imageFail s b = none) : ∃ x, parseImage b = some x := by
  refine Option.ne_none_iff_exists'.1 fun hp => ?_
  rw [imageFail_of_unparsed hp] at h
  cases h

theorem execFwStageDone_verified {s : State} {f tag : Nat} {i : Image} (h : s.gaf.staging = some (f, tag, i))
    (hg : s.gaf.state ≠ .halted) :
    exec (.fwStageDone true) s = .next (answer { s with gaf := if s.gaf.activeB
        then { s.gaf with slotA := some i, staging := none, staged := true }
        else { s.gaf with slotBImg := some i, staging := none, staged := true } } f tag .ok 0 []
        [item 0x22 0 (buildOf (inactive s.gaf)) i.build]) := by
  refine congrArg Host.Outcome.next ?_
  simp [hg, h]

theorem execFwStageDone_unread {s : State} {f tag : Nat} {i : Image} (h : s.gaf.staging = some (f, tag, i))
    (hg : s.gaf.state ≠ .halted) :
    exec (.fwStageDone false) s = .next (answer (ledgerAppend { s with gaf := if s.gaf.activeB
        then { s.gaf with slotA := none, staging := none, staged := false }
        else { s.gaf with slotBImg := none, staging := none, staged := false } }
        (fromFn f ((fnPart s f).getD {})) s.st
        { objType := 0x22, objId := 0, action := 4, status := Status.nvFail.code
          oldDig := buildOf (inactive s.gaf) }) f tag .nvFail 0 [] []) := by
  refine congrArg Host.Outcome.next ?_
  simp [hg, h]

theorem execFwStageDone_halted {s : State} (ok : Bool) (h : s.gaf.state = .halted) : exec (.fwStageDone ok) s = .next s :=
  congrArg Host.Outcome.next (if_pos h)

/-- Settles O12: the bodies are their checks before one result; the image in hand is the one that passed the checks. -/
theorem firmwareUpdates : Obligations.FirmwareUpdates := by
  refine ⟨?stage, ?activate, ?runRam, ?commitFloor, fun s f tag i h hg =>
    ⟨execFwStageDone_verified h hg, execFwStageDone_unread h hg⟩, fun s ok h => execFwStageDone_halted ok h⟩
  case stage =>
    refine Completes.of_checks (fun _ _ => rfl) (fun _ _ => rfl) (fun k t h => ?checks) (fun k t h => ?effect) (fun _ _ _ => rfl)
    all_goals
      simp only [Bool.and_eq_true, beq_iff_eq, Option.isNone_iff_eq_none] at h
      obtain ⟨⟨⟨⟨hblk, href⟩, hstaging⟩, himage⟩, htested⟩ := h
      obtain ⟨x, hx⟩ := parseImage_of_imageFail_none himage
    case checks =>
      simp only [hx] at htested
      simp [fwBlock, hblk, href, hstaging, himage, hx, htested]
    case effect => simp only [hx]; rfl
  case activate =>
    refine Completes.of_checks (fun _ _ => rfl) (fun _ _ => rfl) (fun k t h => ?_) (fun _ _ _ => rfl) (fun _ _ _ => rfl)
    simpa [fwBlock] using h
  case runRam =>
    refine Completes.of_checks (fun _ _ => rfl) (fun _ _ => rfl) (fun k t h => ?checks) (fun k t h => ?effect) (fun _ _ _ => rfl)
    all_goals
      simp only [Bool.and_eq_true, beq_iff_eq] at h
      obtain ⟨⟨⟨hblk, href⟩, hstate⟩, himage⟩ := h
      obtain ⟨x, hx⟩ := parseImage_of_imageFail_none himage
    case checks => simp [fwBlock, hblk, href, hstate, himage]
    case effect => simp only [hx]; rfl
  case commitFloor =>
    refine Completes.of_checks (fun _ _ => rfl) (fun _ _ => rfl) (fun k t h => ?_) (fun _ _ _ => rfl) (fun _ _ _ => rfl)
    simp only [Bool.and_eq_true, decide_eq_true_eq, beq_iff_eq] at h
    obtain ⟨⟨hblk, hraise⟩, htop⟩ := h
    simp [fwBlock, hblk, hraise, htop]

end Sys2Proof.Machine
end

section
/-! SUPPORT. Staged blocks and power commands at their ST (02 R53, 03 R84, 13 R327, 17 R453): O24. -/

namespace Sys2Proof.Machine

theorem applyQuadPower_none {s : State} {q : Nat} (h : (s.quad q).pend = none) : applyQuadPower s q = s := by
  simp [applyQuadPower, h]

theorem applyTilePower_none {s : State} {t : Nat} (h : (s.tile t).pend = none) : applyTilePower s t = s := by
  simp [applyTilePower, h]

section Due
variable {s : State} {p : PowerCmd}

theorem applyQuadPower_from_off {q : Nat} (hp : (s.quad q).pend = some p) (hb : p.begun = false) (hd : p.at_ ≤ s.st)
    (ht : p.target = 2) (ho : (s.quad q).state = .off) : applyQuadPower s q = setQuad (s.modQuad q (fun x => { x with
      fromOff := true, pend := some { p with begun := true, entry := none } })) q .transition := by
  simp [applyQuadPower, hp, hb, hd, ht, ho]

theorem applyTilePower_wakes {t : Nat} (hp : (s.tile t).pend = some p) (hb : p.begun = false) (hd : p.at_ ≤ s.st)
    (ht : p.target = 2) (ha : (s.tile t).state ≠ .active) :
    applyTilePower s t = (setTile s t .waking).modTile t (fun x => { x with
      pend := some { p with begun := true, entry := some (slowCeil (p.at_ + 4800)) } }) := by
  simp [applyTilePower, hp, hb, hd, ht, ha, wakeSamples]

end Due

theorem filter_due_of_waiting {l : List Staged} {st : Nat} (h : l.all (fun x => decide (st < x.at_)) = true) :
    l.filter (fun x => decide (x.at_ ≤ st)) = [] := by
  simpa [List.filter_eq_nil_iff] using h

/-- With nothing due, none of the three passes does anything. -/
theorem execStagedApply_idle {s : State} (hw : s.staged.all (fun x => decide (s.st < x.at_)) = true)
    (hq : ∀ q, (s.quad q).pend = none) (ht : ∀ t, (s.tile t).pend = none) : exec .stagedApply s = .next s := by
  have hkeep : s.staged.filter (fun x => decide (s.st < x.at_)) = s.staged := List.filter_eq_self.2 (List.all_eq_true.1 hw)
  have hquads : (List.range 4).foldl applyQuadPower s = s := List.foldl_fixed' (fun q => applyQuadPower_none (hq q)) _
  have htiles : (List.range 12).foldl applyTilePower s = s := List.foldl_fixed' (fun t => applyTilePower_none (ht t)) _
  refine congrArg Host.Outcome.next ?_
  rw [filter_due_of_waiting hw, hkeep, List.foldl_nil]
  change (List.range 12).foldl applyTilePower ((List.range 4).foldl applyQuadPower s) = s
  rw [hquads, htiles]

/-- Settles O24: the command is the three passes in order, and with nothing due each pass is idle. -/
theorem stagedBlocks : Obligations.StagedBlocks :=
  ⟨fun _ => rfl, fun _ hw hq ht => execStagedApply_idle hw hq ht,
    fun _ _ _ hp hb hd ht ho => applyQuadPower_from_off hp hb hd ht ho,
    fun _ _ _ hp hb hd ht ha => applyTilePower_wakes hp hb hd ht ha⟩

end Sys2Proof.Machine
end

section
/-! SUPPORT. Reads of DDR lines, valid or not, and writes within one line (14 R373 to R379): O7 and O8. -/

namespace Sys2Proof.Machine

/-! ### Reads (R375) -/

theorem readWords_of_invalid {s : State} (k w : Nat) (h : ∀ j, j < k → lineValid s (w + 8 * j) = false) :
    readWords s w k = (List.replicate k (0, false), []) := by
  induction k generalizing w with
  | zero => rfl
  | succ k ih =>
    have hw : lineValid s w = false := h 0 (Nat.succ_pos k)
    have hr := ih (w + 8) (fun j hj => by
      have := h (j + 1) (Nat.succ_lt_succ hj)
      rwa [show w + 8 + 8 * j = w + 8 * (j + 1) by omega])
    simp [readWords, readWord, hw, hr, List.replicate_succ]

@[simp] theorem leBytes_zero (n : Nat) : leBytes n 0 = List.replicate n 0 := by
  induction n with
  | zero => rfl
  | succ n ih => simp [leBytes, ih, List.replicate_succ]

/-- The bytes of words that read 0. -/
theorem flatMap_leBytes_zero (k : Nat) :
    (List.replicate k ((0, false) : Nat × Bool)).flatMap (fun p => leBytes 8 p.1) = List.replicate (8 * k) 0 := by
  rw [List.flatMap_replicate, leBytes_zero, List.flatten_replicate_replicate, Nat.mul_comm]

theorem ddrRead_of_invalid {s : State} {a n : Nat}
    (h : ∀ i, a / 8 ≤ i → i ≤ (a + n) / 8 → lineValid s (8 * i) = false) : ddrRead s a n = (List.replicate n 0, [], []) := by
  have hw : readWords s (a / 8 * 8) ((a + n + 7) / 8 - a / 8) = (List.replicate ((a + n + 7) / 8 - a / 8) (0, false), []) := by
    refine readWords_of_invalid _ _ fun j hj => ?_
    rw [show a / 8 * 8 + 8 * j = 8 * (a / 8 + j) by omega]
    exact h _ (by omega) (by omega)
  have hn : n ≤ 8 * ((a + n + 7) / 8 - a / 8) - (a - a / 8 * 8) := by omega
  simp [ddrRead, hw, flatMap_leBytes_zero, hn]

theorem scrubLine_of_invalid {s : State} {a : Nat} (p m : Nat) (t : Tally) (ha : a < 2 ^ 40) (h : lineValid s a = false) :
    scrubLine p m (s, t) a = (s, { t with skipped := t.skipped + 1 }) :=
  if_pos (by rw [decide_eq_true ha, h]; rfl)

/-- Settles O7: every word of an invalid line reads 0 without an event, and the scrub's first test is the line's bit. -/
theorem invalidLines : Obligations.InvalidLines :=
  ⟨fun _ _ _ h => ddrRead_of_invalid h, fun _ p m _ t ha h => scrubLine_of_invalid p m t ha h⟩

/-! ### A valid word without a stored error (R366) -/

theorem leBytes_leNat_readBytes (t : Tbl Byte) (a n : Nat) : leBytes n (leNat (readBytes t a n)) = readBytes t a n := by
  induction n generalizing a with
  | zero => rfl
  | succ n ih =>
    have hb : (tget 0 t a).toNat < 256 := (tget 0 t a).isLt
    have hdiv : ((tget 0 t a).toNat + 256 * leNat (readBytes t (a + 1) n)) / 256 = leNat (readBytes t (a + 1) n) := by omega
    simp only [readBytes, leNat, leBytes, hdiv, ih]
    congr 1
    refine BitVec.eq_of_toNat_eq ?_
    simp only [BitVec.toNat_ofNat]
    omega

@[simp] theorem readBytes_length (t : Tbl Byte) (a n : Nat) : (readBytes t a n).length = n := by
  induction n generalizing a with
  | zero => rfl
  | succ n ih => simp [readBytes, ih]

theorem readWord_of_clean {s : State} {w : Nat} (hv : lineValid s w = true) (hm : maskOf s.mem w = 0) :
    readWord s w = (wordAt s.mem w, false, []) := by
  simp [readWord, hv, hm, readClass, delivered]

theorem ddrRead_word {s : State} {w : Nat} (hv : lineValid s w = true) (hm : maskOf s.mem w = 0) (hw : w % 8 = 0) :
    ddrRead s w 8 = (readBytes s.mem.ddr w 8, [], []) := by
  have hk : (w + 8 + 7) / 8 - w / 8 = 1 := by omega
  have ha : w / 8 * 8 = w := by omega
  simp [ddrRead, hk, ha, readWords, readWord_of_clean hv hm, wordAt, leBytes_leNat_readBytes, List.take_of_length_le]

/-! ### Writes (R374, R376, R379) -/

theorem bitmapFix_of_clean {s : State} {a : Nat} (h : maskOf s.mem (bitmapWord s a) = 0) : bitmapFix s a = (s, []) := by
  simp [bitmapFix, h, readClass]

theorem openRegion_of_open {s : State} {a : Nat} (h : tget false s.mem.l1 (a / 2 ^ 20) = true) : openRegion s a = s :=
  if_pos h

/-- A write that stays in its line is one write of that line. -/
theorem ddrWrite_within_line (s : State) {a : Nat} {d : List Byte} (hd : d ≠ []) (h : a % 128 + d.length ≤ 128) :
    ddrWrite s a d = writeLine s a d := by
  have hle : d.length ≤ 128 - a % 128 := by omega
  have he : d.isEmpty = false := by simpa using hd
  simp [ddrWrite, ddrWriteAux, he, List.take_of_length_le hle, List.drop_of_length_le hle]

theorem tget_writeBytes_same (t : Tbl Byte) (a : Nat) (l : List Byte) {i : Nat} (h : i < l.length) :
    tget 0 (writeBytes t a l) (a + i) = l.getD i 0 := by
  induction l generalizing t a i with
  | nil => exact absurd h (Nat.not_lt_zero i)
  | cons b r ih =>
    cases i with
    | zero => exact (tget_writeBytes_other _ _ _ _ (.inl (Nat.lt_succ_self a))).trans (tget_tset_same ..)
    | succ i =>
      rw [writeBytes, show a + (i + 1) = a + 1 + i by omega, ih _ _ (Nat.lt_of_succ_lt_succ h)]
      rfl

theorem tget_tclear {α : Type} [DecidableEq α] (d : α) (p : Nat → Bool) (t : Tbl α) (i : Nat) :
    tget d (tclear p t) i = if p i then d else tget d t i := by
  unfold tclear
  induction t with
  | nil => simp
  | cons e r ih =>
    obtain ⟨k, v⟩ := e
    by_cases hk : k = i <;> by_cases hp : p k = true <;> simp_all [tget]

theorem mergeWord_of_clean {m : Mem} {w : Nat} (h : maskOf m w = 0) (c : Nat) :
    mergeWord m w c = ({ m with errs := tset 0 m.errs w 0 }, [.freed w]) := by
  simp [mergeWord, h, readClass]

/-- A merge into words without stored errors writes no byte: it only rewrites their check bits. -/
theorem mergeWords_of_clean (f g : Nat → Nat) (l : List Nat) (m : Mem) (es : List MemEvt) (h : ∀ j ∈ l, maskOf m (f j) = 0) :
    ∃ errs, (l.foldl (fun (p : Mem × List MemEvt) j => ((mergeWord p.1 (f j) (g j)).1,
      p.2 ++ (mergeWord p.1 (f j) (g j)).2)) (m, es)).1 = { m with errs := errs } := by
  induction l generalizing m es with
  | nil => exact ⟨m.errs, rfl⟩
  | cons j r ih =>
    rw [List.foldl_cons, mergeWord_of_clean (h j List.mem_cons_self)]
    refine ih _ _ fun i hi => ?_
    have hclean := h i (List.mem_cons_of_mem j hi)
    by_cases hij : f j = f i
    · simp [maskOf, hij]
    · simpa [maskOf, tget_tset_other _ _ _ hij] using hclean

/-- A write into a valid line without stored errors: the bytes, and the check bits of the line's words. -/
theorem writeLine_of_valid {s : State} {a : Nat} (d : List Byte) (hv : lineValid s a = true)
    (hb : maskOf s.mem (bitmapWord s a) = 0) (hc : ∀ j, j < 16 → maskOf s.mem (a / 128 * 128 + 8 * j) = 0) :
    ∃ errs, (writeLine s a d).1 = { s with mem := { s.mem with ddr := writeBytes s.mem.ddr a d, errs := errs } } := by
  have hopen : tget false s.mem.l1 (a / 2 ^ 20) = true := by
    simp only [lineValid, Bool.and_eq_true] at hv
    exact hv.1
  unfold writeLine
  simp only [bitmapFix_of_clean hb, openRegion_of_open hopen, hv, if_true]
  split
  · exact ⟨_, rfl⟩
  · obtain ⟨errs, he⟩ := mergeWords_of_clean (fun j => a / 128 * 128 + 8 * j)
      (fun j => cover a d.length (a / 128 * 128 + 8 * j)) (List.range 16) s.mem [] (fun j hj => hc j (List.mem_range.1 hj))
    exact ⟨errs, by simp only [he]⟩

/-- The bytes of the line of `a`. -/
def inLineOf (a i : Nat) : Bool := decide (a / 128 * 128 ≤ i) && decide (i < a / 128 * 128 + 128)

/-- A write into an invalid line of a region in use: the rest of the line is cleared, and the line's bit set. -/
theorem writeLine_of_invalid {s : State} {a : Nat} (d : List Byte) (hv : lineValid s a = false)
    (hopen : tget false s.mem.l1 (a / 2 ^ 20) = true) (hb : maskOf s.mem (bitmapWord s a) = 0) :
    (writeLine s a d).1 = setLine { s with mem := { s.mem with
      ddr := writeBytes (tclear (inLineOf a) s.mem.ddr) a d, errs := tclear (inLineOf a) s.mem.errs } } a true := by
  simp only [writeLine, bitmapFix_of_clean hb, openRegion_of_open hopen, hv]
  rfl

theorem ddr_setLine (s : State) (a : Nat) : ∃ b : Byte, (setLine s a true).mem.ddr = tset 0 s.mem.ddr (l2Pos s a).1 b :=
  ⟨_, rfl⟩

theorem or_two_pow_bit (o : Nat) {k : Nat} (h : k < 8) : (BitVec.ofNat 8 (o ||| 2 ^ k)).toNat / 2 ^ k % 2 = 1 := by
  rw [← Nat.toNat_testBit, BitVec.toNat_ofNat, Nat.testBit_mod_two_pow]
  simp [h]

/-- A line whose bit is set is valid. -/
theorem lineValid_setLine {s : State} {a : Nat} (h : tget false s.mem.l1 (a / 2 ^ 20) = true) :
    lineValid (setLine s a true) a = true := by
  have hbit := or_two_pow_bit (tget 0 s.mem.ddr (l2Pos s a).1).toNat (show (l2Pos s a).2 < 8 from Nat.mod_lt _ (by decide))
  have hpos : l2Pos (setLine s a true) a = l2Pos s a := rfl
  simp only [lineValid, hpos]
  simp only [setLine, tget_tset_same, h, if_true, hbit]
  simp

theorem ddrWrite_in_valid_line {s : State} {a : Nat} {d : List Byte} (hd : d ≠ []) (hl : a % 128 + d.length ≤ 128)
    (hv : lineValid s a = true) (hb : maskOf s.mem (bitmapWord s a) = 0)
    (hc : ∀ j, j < 16 → maskOf s.mem (a / 128 * 128 + 8 * j) = 0) :
    let t := (ddrWrite s a d).1
    (∀ i, i < d.length → tget 0 t.mem.ddr (a + i) = d.getD i 0)
    ∧ (∀ i, i < a ∨ a + d.length ≤ i → tget 0 t.mem.ddr i = tget 0 s.mem.ddr i)
    ∧ { t with mem := { t.mem with ddr := s.mem.ddr, errs := s.mem.errs } } = s := by
  obtain ⟨errs, he⟩ := writeLine_of_valid d hv hb hc
  rw [ddrWrite_within_line s hd hl, he]
  exact ⟨fun i hi => tget_writeBytes_same _ _ _ hi, fun i hi => tget_writeBytes_other _ _ _ _ hi, rfl⟩

theorem ddrWrite_in_invalid_line {s : State} {a : Nat} {d : List Byte} (hd : d ≠ []) (hl : a % 128 + d.length ≤ 128)
    (hv : lineValid s a = false) (hopen : tget false s.mem.l1 (a / 2 ^ 20) = true)
    (hb : maskOf s.mem (bitmapWord s a) = 0)
    (hout : (l2Pos s a).1 < a / 128 * 128 ∨ a / 128 * 128 + 128 ≤ (l2Pos s a).1) :
    let t := (ddrWrite s a d).1
    (∀ i, i < d.length → tget 0 t.mem.ddr (a + i) = d.getD i 0)
    ∧ (∀ i, a / 128 * 128 ≤ i → i < a / 128 * 128 + 128 → i < a ∨ a + d.length ≤ i → tget 0 t.mem.ddr i = 0)
    ∧ (∀ i, i < a / 128 * 128 ∨ a / 128 * 128 + 128 ≤ i → i ≠ (l2Pos s a).1 → tget 0 t.mem.ddr i = tget 0 s.mem.ddr i)
    ∧ lineValid t a = true := by
  rw [ddrWrite_within_line s hd hl, writeLine_of_invalid d hv hopen hb]
  obtain ⟨b, hddr⟩ := ddr_setLine { s with mem := { s.mem with
      ddr := writeBytes (tclear (inLineOf a) s.mem.ddr) a d, errs := tclear (inLineOf a) s.mem.errs } } a
  have hpos (i : Nat) (hi : i ≠ (l2Pos s a).1) : tget 0 (tset 0 (writeBytes (tclear (inLineOf a) s.mem.ddr) a d)
      (l2Pos s a).1 b) i = tget 0 (writeBytes (tclear (inLineOf a) s.mem.ddr) a d) i := tget_tset_other _ _ _ hi.symm
  dsimp only
  rw [hddr]
  refine ⟨fun i hi => ?written, fun i h1 h2 ho => ?rest, fun i ho hn => ?frame, lineValid_setLine hopen⟩
  case written => exact (hpos _ (by omega)).trans (tget_writeBytes_same _ _ _ hi)
  case rest =>
    refine (hpos _ (by omega)).trans ((tget_writeBytes_other _ _ _ _ ho).trans ?_)
    rw [tget_tclear, if_pos (by simp [inLineOf, h1, h2])]
  case frame =>
    refine (hpos _ hn).trans ((tget_writeBytes_other _ _ _ _ (by omega)).trans ?_)
    have hnot : inLineOf a i = false := by
      simp only [inLineOf, Bool.and_eq_false_iff, decide_eq_false_iff_not]
      omega
    rw [tget_tclear, hnot]
    rfl

/-- Settles O8: a write within a line is one write of the line, whose bit decides what becomes of the rest of it. -/
theorem ddrWrites : Obligations.DdrWrites :=
  ⟨fun _ _ _ hd hl => ⟨ddrWrite_in_valid_line hd hl, ddrWrite_in_invalid_line hd hl⟩,
    fun _ _ hv hm hw => ddrRead_word hv hm hw⟩

end Sys2Proof.Machine
end

section
/-! SUPPORT. LEDGER_READ, PART_CFG and the key slots (20 R517, R518, R522 to R524): O20. -/

namespace Sys2Proof.Machine

/-- A Ledger that is given the RETAIN it has stays as it is. -/
theorem ledger_with_same_retain {l : Ledger} {b : Bool} (h : b = l.retain) : { l with retain := b } = l := by
  subst h
  rfl

/-- Settles O20: each body is its rule's checks before one result; those of an MRAM write come last, and LEDGER_READ makes
them only where it changes RETAIN. -/
theorem ledgerPartitionsAndKeys : Obligations.LedgerPartitionsAndKeys := by
  refine ⟨?read, ?retain, ?part, ?install, ?revoke, ?status⟩
  case read =>
    refine .of_checks (fun _ _ => rfl) (fun _ _ => rfl) (fun k t h => ?checks) (fun k t h => ?effect) (fun _ _ _ => report_status ..)
    all_goals
      simp only [Bool.and_eq_true, Bool.or_eq_true, Bool.not_eq_true', beq_iff_eq, decide_eq_true_eq] at h
      obtain ⟨⟨⟨⟨⟨hset, hrsv⟩, hn⟩, hold⟩, hhead⟩, hend⟩ := h
    case checks =>
      rcases hset with hset | ⟨hf, hsame⟩
      · simp [hset, hrsv, hn, hold, hhead, hend]
      · simp [hf, hsame, hrsv, hn, hold, hhead, hend]
    case effect =>
      rcases hset with hset | ⟨hf, hsame⟩
      · simp [hset, report]
      · simp [hsame, ledger_with_same_retain, report]
  case retain =>
    refine .of_checks (fun _ _ => rfl) (fun _ _ => rfl) (fun k t h => ?checks) (fun k t h => ?effect) (fun _ _ _ => rfl)
    all_goals
      simp only [Bool.and_eq_true, Bool.not_eq_true', beq_iff_eq, decide_eq_true_eq] at h
      obtain ⟨⟨⟨⟨⟨⟨⟨⟨hset, hf⟩, hchange⟩, hrsv⟩, hn⟩, hold⟩, hhead⟩, hend⟩, hnv⟩ := h
    case checks =>
      rw [← firstFail_nvRefusal hnv, firstFail_append (by simp [hset, hf, hrsv, hn, hold, hhead, hend])]
      simp [hset, hchange]
    case effect => simp [hset, hchange]
  case part =>
    refine .of_checks (fun _ _ => rfl) (fun _ _ => rfl) (fun k t h => ?_) (fun _ _ _ => rfl) (fun _ _ _ => done_status ..)
    simp only [Bool.and_eq_true, beq_iff_eq, Bool.not_eq_true'] at h
    obtain ⟨hrsv, hnv⟩ := h
    rw [← firstFail_nvRefusal hnv]
    exact firstFail_append (by simp [hrsv])
  case install =>
    refine .of_checks (fun _ _ => rfl) (fun _ _ => rfl) (fun k t h => ?_) (fun _ _ _ => rfl) (fun _ _ _ => done_status ..)
    simp only [Bool.and_eq_true, beq_iff_eq, Bool.not_eq_true'] at h
    obtain ⟨⟨⟨⟨hact, hrsv⟩, hempty⟩, hpoint⟩, hnv⟩ := h
    rw [← firstFail_nvRefusal hnv]
    exact firstFail_append (by simp [keyAt, hact, hrsv, hempty, hpoint])
  case revoke =>
    refine .of_checks (fun _ _ => rfl) (fun _ _ => rfl) (fun k t h => ?_) (fun _ _ _ => rfl) (fun _ _ _ => done_status ..)
    simp only [Bool.and_eq_true, beq_iff_eq, bne_iff_ne, Bool.not_eq_true'] at h
    obtain ⟨⟨⟨hact, hrsv⟩, hkey⟩, hnv⟩ := h
    rw [← firstFail_nvRefusal hnv]
    exact firstFail_append (by simp [keyAt, hact, hrsv, hkey])
  case status =>
    refine .of_checks (fun _ _ => rfl) (fun _ _ => rfl) (fun k t h => ?_) (fun _ _ _ => rfl) (fun _ _ _ => report_status ..)
    simpa using h

end Sys2Proof.Machine
end

section
/-! SUPPORT. REPAIR_REPORT, the remaps of marked hardware and OBJ_OWNER (13 R328; 20 R507 to R511, R519 to R521): O21. -/

namespace Sys2Proof.Machine

/-! ### Remaps (R508, R509) -/

theorem exec_repairRemap_halted {s : State} (h : s.gaf.state = .halted) (r : RepairItem) : exec (.repairRemap r) s = .next s :=
  congrArg Host.Outcome.next (if_pos (by simp [nirdinRuns, h]))

section Runs
variable {s : State} (h : s.gaf.state ≠ .halted)
include h

theorem exec_repairRemap_loom (n : Fin 96) : exec (.repairRemap (.loom n)) s = .next (remapLoom s n) :=
  congrArg Host.Outcome.next (if_neg (by simp [nirdinRuns, h]))

theorem exec_repairRemap_core (n : Fin 24) : exec (.repairRemap (.core n)) s = .next (remapCore s n) :=
  congrArg Host.Outcome.next (if_neg (by simp [nirdinRuns, h]))

theorem exec_repairRemap_array (w : BitVec 8) (a : Nat) (row : Bool) : exec (.repairRemap (.array w a row)) s =
    .next (remapArray s false { kind := if row then .row else .column, store := w.toNat, addr := a }) :=
  congrArg Host.Outcome.next (if_neg (by simp [nirdinRuns, h]))

end Runs

section Marked
variable {s : State} {n : Nat}

theorem loomQuiet_iff : loomQuiet s n = true ↔ (s.loom n).state = .empty ∨ (s.loom n).state = .loaded := by
  simp only [loomQuiet, Bool.or_eq_true, beq_iff_eq]

theorem coreQuiet_iff :
    coreQuiet s n = true ↔ (s.core n).state = .empty ∨ (s.core n).state = .stopped ∨ (s.core n).state = .fault := by
  simp only [coreQuiet, Bool.or_eq_true, beq_iff_eq, or_assoc]

theorem remapLoom_of_marked (hm : s.repair.marks.contains { kind := .loom, store := 0, addr := n } = true)
    (hq : (s.loom n).state = .empty ∨ (s.loom n).state = .loaded) :
    remapLoom s n =
      let u := dropMark s { kind := .loom, store := 0, addr := n }
      if tget false u.repair.loomSpare (tileOfLoom n) then
        repairNote ((setRepair u (fun r => { r with
            loomFailed := tset false r.loomFailed n true, unrepaired := min (r.unrepaired + 1) 0xFFFF })).modLoom n
          (fun x => { x with state := .failed })) 3 0x10 n n (loomOwner u n).part
      else
        let v := copyWhere u (fun w => decide (draftAddr n 0 0 ≤ w) && decide (w < draftAddr n 0 0 + 0x40000))
        repairNote (setRepair v (fun r => { r with loomSpare := tset false r.loomSpare (tileOfLoom n) true })) 1 0x10 n n
          (loomOwner v n).part :=
  if_neg (by rw [hm, loomQuiet_iff.2 hq]; decide)

theorem remapCore_of_marked (hm : s.repair.marks.contains { kind := .core, store := 0, addr := n } = true)
    (hq : (s.core n).state = .empty ∨ (s.core n).state = .stopped ∨ (s.core n).state = .fault) :
    remapCore s n =
      let u := dropMark s { kind := .core, store := 0, addr := n }
      if tget false u.repair.mvSpare (tileOfCore n) then
        repairNote ((setRepair u (fun r => { r with
            mvFailed := tset false r.mvFailed n true, unrepaired := min (r.unrepaired + 1) 0xFFFF })).modCore n
          (fun x => { x with state := .failed, queue := [] })) 3 0x11 n n (coreOwner u n).part
      else
        let v := copyWhere u (fun w => decide (coreBase n ≤ w) && decide (w < coreBase n + 0x80000))
        repairNote (setRepair v (fun r => { r with mvSpare := tset false r.mvSpare (tileOfCore n) true })) 1 0x11 n n
          (coreOwner v n).part :=
  if_neg (by rw [hm, coreQuiet_iff.2 hq]; decide)

theorem remapArray_of_busy {m : Mark} (h : s.repair.marks.contains m = false ∨ arrayQuiet s false m.store m.addr = false) :
    remapArray s false m = s := by
  refine if_pos ?_
  rcases h with h | h <;> simp only [h, Bool.not_false, Bool.true_or, Bool.or_true]

end Marked

/-- Settles O21: a remap is guarded by Nirdin, the mark and the quiesce, and then one test of the spare decides; the checks of
OBJ_OWNER are those of every object of the range, and of an MRAM write. -/
theorem repairAndOwners : Obligations.RepairAndOwners := by
  refine ⟨?report, fun s n hm hh hq => ⟨fun hs => ?loomMoves, fun hs => ?loomFails⟩, fun s n hm hh hq hs => ?coreFails,
    fun s n hm hh hq hs => ?coreMoves, fun s w a row hh => ⟨fun hb => ?arrayStays, fun _ _ => ?arrayMoves⟩,
    fun s r hh => exec_repairRemap_halted hh r, ?owner⟩
  case report =>
    refine .of_checks (fun _ _ => rfl) (fun _ _ => rfl) (fun k t h => ?_) (fun _ _ _ => rfl) (fun _ _ _ => report_status ..)
    simpa using h
  case loomMoves =>
    refine ⟨_, rfl, ?_⟩
    rw [exec_repairRemap_loom hh, remapLoom_of_marked hm hq]
    exact congrArg Host.Outcome.next (if_neg (ne_true_of_eq_false hs))
  case loomFails =>
    rw [exec_repairRemap_loom hh, remapLoom_of_marked hm hq]
    exact congrArg Host.Outcome.next (if_pos hs)
  case coreFails =>
    rw [exec_repairRemap_core hh, remapCore_of_marked hm hq]
    exact congrArg Host.Outcome.next (if_pos hs)
  case coreMoves =>
    refine ⟨_, rfl, ?_⟩
    rw [exec_repairRemap_core hh, remapCore_of_marked hm hq]
    exact congrArg Host.Outcome.next (if_neg (ne_true_of_eq_false hs))
  case arrayStays => rw [exec_repairRemap_array hh, remapArray_of_busy hb]
  case arrayMoves => exact exec_repairRemap_array hh w a row
  case owner =>
    refine .of_checks (fun _ _ => rfl) (fun _ _ => rfl) (fun k t h => ?checks) (fun k t h => ?effect) (fun _ _ _ => done_status ..)
    all_goals
      simp only [Bool.and_eq_true, beq_iff_eq, Bool.not_eq_true', decide_eq_true_eq] at h
      obtain ⟨⟨⟨⟨⟨⟨⟨⟨hty, htop⟩, hn⟩, hmax⟩, hrsv⟩, hrsv'⟩, hnv⟩, hobjs⟩, hlines⟩ := h
    case checks =>
      simp only [List.all_eq_true, List.mem_range, Bool.and_eq_true, Bool.not_eq_true'] at hobjs
      simp only [List.all_eq_true, List.mem_range, Bool.or_eq_true, Bool.not_eq_true', beq_iff_eq] at hlines
      have hty0 : fld k.blk 0 8 ≠ 0 := by omega
      have hn0 : fld k.blk 16 16 ≠ 0 := by omega
      have howner (j : Nat) (hj : j < 12) (hu : tileLineUsed t j = true) := (hlines j hj).resolve_left (by simp [hu])
      rw [← firstFail_nvRefusal hnv]
      refine firstFail_append ?_
      simpa [hty0, hn0, htop, hmax, hrsv, hrsv', Nat.min_eq_left hmax, List.flatMap_map] using
        ⟨fun i hi => (hobjs i hi).1, fun i hi a b hab => (hobjs i hi).2 (a, b) hab, howner⟩
    case effect => simp only [Nat.min_eq_left hmax, List.flatMap_map]

end Sys2Proof.Machine
end

section
/-! SUPPORT. The power, reset and Lehr commands (13 R358; 17 R453, R465 to R470; 18 R475, R479, R483, R484): O25. -/

namespace Sys2Proof.Machine

/-- The checks of a status command that only PF0 may clear (13 R344). -/
theorem firstFail_statusChecks {bad : Bool} {k : Call} (h : (!bad && (!k.clear || k.func == 0)) = true) :
    firstFail [(bad, .badParam), (k.clear && k.func != 0, .partDenied)] = none := by
  simp only [Bool.and_eq_true, Bool.or_eq_true, Bool.not_eq_true', beq_iff_eq] at h
  obtain ⟨hbad, hclear | hpf0⟩ := h
  · simp [hbad, hclear]
  · simp [hbad, hpf0]

/-- The checks of QUAD_POWER for a target that is not the present state (17 R468): a quadrant in OFF has a valid VDDA_RF and
no stop, and one that goes down without FORCE is quiet. -/
theorem firstFail_quadPower {k : Call} {t : State} {q tg : Nat}
    (hnew : (t.quad q).state ≠ quadTarget tg) (htarget : tg ≠ 3) (hrsv : fld k.blk 5 59 = 0)
    (htime : badTime (fld k.blk 64 64) k.accept = none) (hpend : powerPending t q = false)
    (hfree : (t.quad q).state = .off → tget false t.power.rfBad q = false ∧ stopCovers t q = false)
    (hquiet : tg = 0 ∨ tg = 1 ∧ (t.quad q).state = .active → bit k.blk 4 = false →
      runsIn t (quadTiles q) = false ∧ captureBusy t q = false) :
    firstFail ([(tg == 3 || fld k.blk 5 59 != 0, .badParam),
        ((t.quad q).state != quadTarget tg && (t.quad q).state == .off && tget false t.power.rfBad q, .notActive)]
      ++ timeFail (fld k.blk 64 64) k.accept ++ [(powerPending t q, .busy)]
      ++ (if (t.quad q).state = quadTarget tg then []
          else [((t.quad q).state == .off && stopCovers t q, .busy),
            (decide (tg = 0 || (tg = 1 && (t.quad q).state = .active)) && !bit k.blk 4
              && (runsIn t (quadTiles q) || captureBusy t q), .busy)])) = none := by
  simpa [hnew, htarget, hrsv, htime, hpend] using ⟨fun ho => (hfree ho).1, fun ho => (hfree ho).2, hquiet⟩

/-- Settles O25: each body is its rule's checks before one result; QUAD_POWER of a new target waits, and the three actions of
LEHR_CFG share the form of the block. -/
theorem powerAndLehrCommands : Obligations.PowerAndLehrCommands := by
  refine ⟨?quadPower, ?tilePower, ?resetTile, ?resetQuadrant, ?powerStatus, ?lehrCfg, ?lehrStatus⟩
  case quadPower =>
    refine .of_checks (fun _ _ => rfl) (fun _ _ => rfl) (fun k t h => ?_) (fun _ _ _ => rfl) (fun k t _ => ?_)
    · simp only [Bool.and_eq_true, Bool.or_eq_true, beq_iff_eq, bne_iff_ne, Bool.not_eq_true'] at h
      obtain ⟨⟨⟨⟨htarget, hrsv⟩, htime⟩, hpend⟩, hstate⟩ := h
      by_cases hsame : (t.quad (fld k.blk 0 2)).state = quadTarget (fld k.blk 2 2)
      · simp [hsame, htarget, hrsv, htime, hpend]
      · obtain ⟨hoff, hdown⟩ := hstate.resolve_left hsame
        have hfree : (t.quad (fld k.blk 0 2)).state = .off →
            tget false t.power.rfBad (fld k.blk 0 2) = false ∧ stopCovers t (fld k.blk 0 2) = false := by simpa using hoff
        refine firstFail_quadPower hsame htarget hrsv htime hpend hfree fun hd hforce => ?_
        rcases hdown with (⟨hup, hstay⟩ | hf) | hidle
        · refine absurd hd ?_
          simpa [hup] using hstay
        · exact absurd hf (ne_true_of_eq_false hforce)
        · exact hidle
    · split
      · exact done_status ..
      · exact waiting_status ..
  case tilePower =>
    refine .of_checks (fun _ _ => rfl) (fun _ _ => rfl) (fun k t h => ?_) (fun _ _ _ => rfl) (fun _ _ _ => scheduled_status ..)
    simp only [Bool.and_eq_true, Bool.or_eq_true, beq_iff_eq, bne_iff_ne, Bool.not_eq_true', decide_eq_true_eq] at h
    obtain ⟨⟨⟨⟨⟨⟨⟨⟨htile, htarget⟩, hrsv⟩, hquad⟩, howner⟩, htime⟩, hpend⟩, hup⟩, hdown⟩ := h
    rcases htarget with htarget | htarget
    · simp only [htarget, if_neg (show ¬ (1 = 2) by decide), Bool.not_eq_true'] at hquad
      have hquiet : bit k.blk 6 = true ∨ runsIn t [fld k.blk 0 4] = false := by simpa [htarget] using hdown
      rcases hquiet with hforce | hidle
      · simp [htarget, htile, hrsv, howner, htime, hpend, hquad, hforce]
      · simp [htarget, htile, hrsv, howner, htime, hpend, hquad, hidle]
    · simp only [htarget, if_true] at hquad
      obtain ⟨hstop, hmode⟩ := hup.resolve_left (by simp [htarget])
      simp [htarget, htile, hrsv, howner, htime, hpend, hquad, hstop, hmode, wakeSamples]
  case resetTile =>
    refine .of_checks (fun _ _ => rfl) (fun _ _ => rfl) (fun k t h => ?_) (fun _ _ _ => rfl) (fun _ _ _ => scheduled_status ..)
    simp only [Bool.and_eq_true, beq_iff_eq, bne_iff_ne, Bool.not_eq_true', decide_eq_true_eq] at h
    obtain ⟨⟨⟨⟨⟨⟨hkind, htile⟩, hrsv⟩, hon⟩, howner⟩, htime⟩, hpend⟩ := h
    simp [resetRsv, hkind, htile, hrsv, hon, howner, htime, hpend]
  case resetQuadrant =>
    refine .of_checks (fun _ _ => rfl) (fun _ _ => rfl) (fun k t h => ?_) (fun _ _ _ => rfl) (fun _ _ _ => scheduled_status ..)
    simp only [Bool.and_eq_true, beq_iff_eq, bne_iff_ne, Bool.not_eq_true', decide_eq_true_eq] at h
    obtain ⟨⟨⟨⟨⟨⟨⟨hkind, hquad⟩, hrsv⟩, hf⟩, hon⟩, howner⟩, htime⟩, hpend⟩ := h
    simp [resetRsv, hkind, hquad, hrsv, hf, hon, howner, htime, hpend]
  case powerStatus =>
    exact .of_checks (fun _ _ => rfl) (fun _ _ => rfl) (fun _ _ h => firstFail_statusChecks h) (fun _ _ _ => rfl)
      (fun _ _ _ => report_status ..)
  case lehrStatus =>
    exact .of_checks (fun _ _ => rfl) (fun _ _ => rfl) (fun _ _ h => firstFail_statusChecks h) (fun _ _ _ => rfl)
      (fun _ _ _ => report_status ..)
  case lehrCfg =>
    intro act hact
    rcases hact with rfl | rfl | rfl
    · refine .of_checks (fun _ _ => rfl) (fun _ _ => rfl) (fun k t h => ?_) (fun _ _ _ => rfl) (fun _ _ _ => done_status ..)
      simpa using h
    · refine .of_checks (fun _ _ => rfl) (fun _ _ => rfl) (fun k t h => ?_) (fun _ _ _ => rfl) (fun _ _ _ => done_status ..)
      simp only [Bool.and_eq_true, Bool.or_eq_true, beq_iff_eq, bne_self_eq_false, Bool.not_eq_true'] at h
      obtain ⟨⟨⟨hact, hform⟩, hheld⟩, -⟩ := h
      simpa [hact, hform, Decidable.or_iff_not_imp_left] using hheld
    · refine .of_checks (fun _ _ => rfl) (fun _ _ => rfl) (fun k t h => ?_) (fun _ _ _ => rfl) (fun _ _ _ => done_status ..)
      simp only [Bool.and_eq_true, Bool.or_eq_true, beq_iff_eq, bne_self_eq_false, Bool.not_eq_true'] at h
      obtain ⟨⟨⟨hact, hform⟩, -⟩, hsuspect⟩ := h
      simpa [hact, hform] using hsuspect

end Sys2Proof.Machine
end

section
/-! SUPPORT. States of tiles and quadrants after a change, and a tile that becomes ACTIVE after its reset (17 R454, R465): O26. -/

namespace Sys2Proof.Machine

section Changes
variable (s : State)

@[simp] theorem tile_stateChanged (i : Nat) : (stateChanged s).tile i = s.tile i := rfl
@[simp] theorem quad_stateChanged (i : Nat) : (stateChanged s).quad i = s.quad i := rfl
@[simp] theorem quad_modTile (t i : Nat) (g : Tile → Tile) : (s.modTile t g).quad i = s.quad i := rfl
@[simp] theorem tile_modQuad (q i : Nat) (g : Quad → Quad) : (s.modQuad q g).tile i = s.tile i := rfl

@[simp] theorem tile_setTile (t i : Nat) (x : TState) :
    (setTile s t x).tile i = if t = i then { s.tile t with state := x } else s.tile i := by
  by_cases h : (s.tile t).state = x
  · rw [setTile, if_pos h]
    split
    next hi => rw [← h, hi]
    next => rfl
  · simp [setTile, h]

@[simp] theorem quad_setTile (t i : Nat) (x : TState) : (setTile s t x).quad i = s.quad i := by
  simp [setTile, apply_ite (State.quad · i)]

@[simp] theorem quad_setQuad (q i : Nat) (x : QState) :
    (setQuad s q x).quad i = if q = i then { s.quad q with state := x } else s.quad i := by
  by_cases h : (s.quad q).state = x
  · rw [setQuad, if_pos h]
    split
    next hi => rw [← h, hi]
    next => rfl
  · simp [setQuad, h]

@[simp] theorem tile_setQuad (q i : Nat) (x : QState) : (setQuad s q x).tile i = s.tile i := by
  simp [setQuad, apply_ite (State.tile · i)]

end Changes

/-- A tile at its entry instant is ACTIVE, with no command and no reset in progress. -/
theorem execTileWake_of_due {s : State} {t : Fin 12} {e : Nat} (hw : wakeAt (s.tile t) = some e) (he : e ≤ s.st)
    (hs : (s.tile t).state = .waking) (hm : s.time.mode ≠ .lost) :
    exec (.tileWake t) s = .next ((setTile s t .active).modTile t (fun y => { y with
      pend := none, entry := none, rst := false, everActive := true, wasOff := false })) := by
  refine congrArg Host.Outcome.next ?_
  simp [hw, hs, hm, Nat.not_lt.2 he]

/-- Tile 0 wakes, as a tile reset leaves it (`tileReset`): its RST is set, and its entry instant has come. -/
def wakingAfterReset : State :=
  State.reset.modTile 0 (fun x => { x with state := .waking, rst := true, entry := some 0 })

theorem tile_wakingAfterReset : wakingAfterReset.tile 0 = { state := .waking, rst := true, entry := some 0 } := rfl

/-- Refutes O26: a tile that wakes after a tile reset is no longer in that reset, so RST clears, while the statement keeps it. The
witness is tile 0 as its reset leaves it, at its entry instant. -/
theorem not_powerTransitions : ¬ Obligations.PowerTransitions := by
  rintro ⟨-, -, hwake, -⟩
  have hw : wakeAt (wakingAfterReset.tile 0) = some 0 := rfl
  have hm : wakingAfterReset.time.mode ≠ .lost := by decide
  have hstate := (hwake wakingAfterReset 0 0 hw (Nat.zero_le _) rfl hm).symm.trans
    (execTileWake_of_due (t := 0) hw (Nat.zero_le _) rfl hm)
  have hrst := congrArg (fun u => (u.tile 0).rst) (Host.Outcome.next.inj hstate)
  simp [tile_wakingAfterReset] at hrst

end Sys2Proof.Machine
end

section
/-! SUPPORT. Supply events, droops and the NV load of the bias channels (07 R192, R202; 17 R461; 18 R477, R480): O27. -/

namespace Sys2Proof.Machine

/-- A supply event is its record on the state in which SUPPLY, the rail's bit and UL15 are set. -/
theorem supplyEvent_eq (s : State) (rail cause : Nat) (isOver : Bool) :
    ∃ u, supplyEvent s rail cause isOver = lehrRecord u (if isOver then 0x66 else 0x65) rail cause 0
      ∧ u.lehr.flags = hit s.now s.lehr.flags 67
      ∧ u.lehr.uv = (if isOver || bit s.lehr.uv rail then s.lehr.uv else s.lehr.uv + 2 ^ rail)
      ∧ u.lehr.ov = (if !isOver || bit s.lehr.ov rail then s.lehr.ov else s.lehr.ov + 2 ^ rail)
      ∧ u.harness.asserts = { line := .uncore 15, tick := s.now, hop := 1 } :: s.harness.asserts := by
  refine ⟨_, rfl, rfl, ?_, ?_, rfl⟩
  · cases isOver <;> rfl
  · cases isOver <;> rfl

theorem execDroop_of_droopRail {s : State} {rail : Fin 17} (h : droopRail rail = true) :
    let u := uncore (lehrHit (lehrHit s hSupply) hDroop) 15
    let last := tget 0 s.lehr.droopAt rail
    exec (.droop rail) s = .next (if last ≠ 0 ∧ s.now < last - 1 + 750000 then u
      else lehrRecord { u with lehr := { u.lehr with droopAt := tset 0 u.lehr.droopAt rail (s.now + 1) } } 0x67 rail 0 0) := by
  simp only [droopRail, Bool.or_eq_true, beq_iff_eq, Bool.and_eq_true, decide_eq_true_eq] at h
  have hrail : ¬ (rail.val ≠ 0 && !(decide (7 ≤ rail.val) && decide (rail.val < 15))) = true := by
    simp only [Bool.and_eq_true, decide_eq_true_eq, Bool.not_eq_true', Bool.and_eq_false_iff, decide_eq_false_iff_not]
    omega
  refine congrArg Host.Outcome.next ((if_neg hrail).trans ?_)
  refine if_congr ?_ rfl rfl
  simp only [Bool.and_eq_true, bne_iff_ne, decide_eq_true_eq]
  exact Iff.rfl

theorem supplyComparatorClear_frame (s : State) (rail : Fin 17) : ∃ t, exec (.supplyComparatorClear rail) s = .next t
    ∧ t.lehr.uv = (if bit s.lehr.uv rail then s.lehr.uv - 2 ^ rail.val else s.lehr.uv)
    ∧ t.lehr.ov = (if bit s.lehr.ov rail then s.lehr.ov - 2 ^ rail.val else s.lehr.ov)
    ∧ { t with lehr := s.lehr, power := s.power } = s
    ∧ ((rail.val < 7 ∨ 15 ≤ rail.val) → t.power = s.power) := by
  refine ⟨_, rfl, ?_⟩
  split
  next h =>
    simp only [Bool.and_eq_true, decide_eq_true_eq] at h
    exact ⟨rfl, rfl, rfl, fun hr => by omega⟩
  next => exact ⟨rfl, rfl, rfl, fun _ => rfl⟩

/-- Settles O27: each event is one composition of the record, the stop and the rail's state; only a rail with a droop count and a
VDDA_RF rail make a case of their own. -/
theorem supplyEvents : Obligations.SupplyEvents :=
  ⟨fun _ _ => rfl, fun _ => rfl, fun _ _ _ _ => rfl, fun _ _ _ => rfl, fun _ => rfl,
    fun _ h => congrArg Host.Outcome.next (if_pos h), fun _ _ h => execDroop_of_droopRail h, supplyComparatorClear_frame,
    supplyEvent_eq⟩

end Sys2Proof.Machine
end

section
/-! SUPPORT. Orderly stops, the trip and the loss of a PLL (17 R457; 18 R477 to R482): O28. -/

namespace Sys2Proof.Machine

/-! ### Notices leave Lehr alone -/

@[simp] theorem lehr_msix (s : State) (f v : Nat) : (msix s f v).lehr = s.lehr := by
  simp only [msix, sendVector]
  split
  · rfl
  · split <;> rfl

@[simp] theorem lehr_notice (s : State) (f : Nat) (aud : Bool) (kind : Nat) (p : List Byte) :
    (notice s f aud kind p).lehr = s.lehr := by
  simp [notice, apply_ite State.lehr, State.setFn]

@[simp] theorem lehr_event (s : State) (owner kind : Nat) (p : List Byte) : (event s owner kind p).lehr = s.lehr := by
  simp only [event]
  split <;> simp

@[simp] theorem lehr_stopNotice (s : State) (scope : Option Nat) (cause b g : Nat) :
    (stopNotice s scope cause b g).lehr = s.lehr := lehr_event ..

/-! ### The stop of a scope (R477) -/

theorem stopOf_eq_of_lehr {s t : State} (h : t.lehr = s.lehr) (scope : Option Nat) : stopOf t scope = stopOf s scope := by
  cases scope <;> simp [stopOf, quadStop, h]

@[simp] theorem stopOf_setStop (s : State) (scope : Option Nat) (r : Option StopRun) : stopOf (setStop s scope r) scope = r := by
  cases scope <;> simp [stopOf, setStop, setLehr, quadStop]

@[simp] theorem quad_setStop (s : State) (scope : Option Nat) (r : Option StopRun) (i : Nat) :
    (setStop s scope r).quad i = s.quad i := rfl

/-- G of a stop: shots have ended, which takes no time, the stop notes G, and the second notice is out. -/
theorem atGrace_eq (s : State) (scope : Option Nat) (r : StopRun) : ∃ u : State, u.time = s.time ∧ atGrace s scope r =
    stopNotice (setStop u scope (some { r with grace := some s.now, step := 1 })) scope (r.causes.getLastD 0) r.st u.st := by
  obtain ⟨u, hu⟩ : ∃ u, u = ((List.range 96).filter (fun l => inScope scope l && (s.loom l).state == .running)).foldl
    (fun s l => cutRun s l false lRunLost) s := ⟨_, rfl⟩
  have ht : u.time = s.time := by
    rw [hu]
    exact time_eq_of_timeWeave (timeWeave_foldl (fun _ _ => timeWeave_cutRun ..) ..)
  have hn : u.now = s.now := congrArg TimeSt.tick ht
  refine ⟨u, ht, ?_⟩
  rw [← hn, atGrace, ← hu]

theorem time_atGrace (s : State) (scope : Option Nat) (r : StopRun) : (atGrace s scope r).time = s.time := by
  obtain ⟨u, ht, he⟩ := atGrace_eq s scope r
  have hn : timeWeave (stopNotice (setStop u scope (some { r with grace := some s.now, step := 1 })) scope
      (r.causes.getLastD 0) r.st u.st) = timeWeave u := by simp [stopNotice, setStop]
  rw [he, time_eq_of_timeWeave hn, ht]

theorem stopOf_atGrace (s : State) (scope : Option Nat) (r : StopRun) :
    stopOf (atGrace s scope r) scope = some { r with grace := some s.now, step := 1 } := by
  obtain ⟨u, -, he⟩ := atGrace_eq s scope r
  rw [he, stopOf_eq_of_lehr (lehr_stopNotice ..), stopOf_setStop]

/-- G of a quadrant's stop: its later steps are due 16 and 32 ticks after it. -/
theorem stopSteps_atGrace {s : State} {q : Nat} {r : StopRun} (hr : quadStop s q = some r) (h0 : r.step = 0)
    (hg : graceOver s (some q) r = true) : stopSteps s (some q) = atGrace s (some q) r := by
  have hs : stopOf s (some q) = some r := hr
  have ha := stopOf_atGrace s (some q) r
  have hn : (atGrace s (some q) r).now = s.now := congrArg TimeSt.tick (time_atGrace s (some q) r)
  simp [stopSteps, hs, h0, hg, ha, hn]

theorem execStopGraceEnd_quad {s : State} {q : Fin 4} {r : StopRun} (hr : quadStop s q = some r) (h0 : r.step = 0)
    (hg : graceOver s (some q.val) r = true) :
    exec (.stopGraceEnd ⟨1 + q.val, by omega⟩) s = .next (atGrace s (some q.val) r) := by
  have hscope : scopeOf (1 + q.val) = some q.val := by simp [scopeOf]
  rw [← stopSteps_atGrace hr h0 hg, ← hscope]
  rfl

/-- G + 32 of the device's stop, when the bias channels are in SAFE. -/
theorem stopSteps_off {s : State} {r : StopRun} {g : Nat} (hr : s.lehr.dev = some r) (h2 : r.step = 2) (hsafe : r.safe = true)
    (hg : r.grace = some g) (hdue : g + 32 ≤ s.now) :
    stopSteps s none = setStop (stopOff s none r) none (some { r with step := 3 }) := by
  have hs : stopOf s none = some r := hr
  simp [stopSteps, hs, h2, hsafe, hg, hdue]

theorem beginStop_begins {s : State} {scope : Option Nat} (cause : Nat) (ht : s.lehr.tripped = false) (hd : s.lehr.dev = none)
    (hs : stopOf s scope = none) : beginStop s scope cause = stopNotice (uncore (stopLogged (markLooms
      (setStop s scope (some { begin_ := s.now, st := s.st, causes := [cause] })) (inScope scope) cStop) scope cause) 14)
      scope cause s.st 0 := by
  simp only [beginStop, ht, hd, Option.isSome_none, Bool.false_eq_true, if_false, hs]
  rfl

/-! ### The PLL (R457) -/

theorem execPllLoss_of_locked {s : State} {q : Fin 4} (hp : (s.quad q).pll = true) (ho : quadOff s q = false) :
    let u := s.modQuad q (fun x => { x with pll := false, pllStop := true })
    exec (.pllLoss q) s = .next (beginStop { u with power := { u.power with flags := hit s.now u.power.flags 41 } } (some q.val) 8) :=
  congrArg Host.Outcome.next (if_neg (by simp [hp, ho]))

section Relock
variable {s : State} {q : Fin 4} (hp : (s.quad q).pllStop = true) (hn : nirdinRuns s = true)
include hp hn

theorem execPllRelock_eq : exec (.pllRelock q) s = .next (if pllStopOver s q then pllReturn s q else s.modQuad q (fun x => { x with
    pll := x.state != .off, pllStop := x.state != .off && (quadStop s q).isSome })) :=
  congrArg Host.Outcome.next (if_neg (by simp [hp, hn]))

theorem execPllRelock_no_stop (h : quadStop s q = none) : exec (.pllRelock q) s = .next (s.modQuad q (fun x => { x with
    pll := x.state != .off, pllStop := false })) := by
  rw [execPllRelock_eq hp hn]
  simp [pllStopOver, h]

theorem execPllRelock_stopping {r : StopRun} (h : quadStop s q = some r) (h3 : r.step ≠ 3) :
    exec (.pllRelock q) s = .next (s.modQuad q (fun x => { x with pll := x.state != .off, pllStop := x.state != .off })) := by
  rw [execPllRelock_eq hp hn]
  simp [pllStopOver, h, h3]

theorem execPllRelock_held {r : StopRun} (h : quadStop s q = some r) (h3 : r.step = 3) (hd : s.lehr.dev = none)
    (ht : s.lehr.tripped = false) (hc : ∀ c ∈ r.causes, c = 8) : exec (.pllRelock q) s = .next (pllReturn s q) := by
  have hover : pllStopOver s q = true := by
    have hall : r.causes.all (fun c => c == 8 || !causeHolds s (some q) c) = true :=
      List.all_eq_true.2 fun c hm => by simp [hc c hm]
    simp [pllStopOver, h, h3, hd, ht, hall]
  rw [execPllRelock_eq hp hn, if_pos hover]

end Relock

@[simp] theorem lehr_setTile (s : State) (t : Nat) (x : TState) : (setTile s t x).lehr = s.lehr := by
  simp [setTile, apply_ite State.lehr, stateChanged]

@[simp] theorem lehr_setQuad (s : State) (q : Nat) (x : QState) : (setQuad s q x).lehr = s.lehr := by
  simp [setQuad, apply_ite State.lehr, stateChanged]

/-- The quadrant that Nirdin returns to STANDBY is locked, free of its stop, and its tiles are in STANDBY too. -/
theorem pllReturn_state (s : State) (q : Nat) :
    let t := pllReturn s q
    (t.quad q).pll = true ∧ (t.quad q).pllStop = false ∧ (t.quad q).state = .standby ∧ quadStop t q = none
      ∧ ∀ i ∈ quadTiles q, (t.tile i).state = .standby := by
  have hstop : stopOf (pllReturn s q) (some q) = none :=
    (stopOf_eq_of_lehr (by simp [pllReturn, quadTiles]) (some q)).trans
      (stopOf_setStop (s.modQuad q (fun x => { x with pll := true, pllStop := false })) (some q) none)
  refine ⟨?_, ?_, ?_, hstop, ?_⟩
  all_goals simp [pllReturn, quadTiles]

/-- Settles O28: of the steps of a stop only the due one acts, a stop that no other covers begins, and the return of the PLL is
one of three cases by the stop of its quadrant. -/
theorem stopsAndTrips : Obligations.StopsAndTrips :=
  ⟨fun s q r hr h0 hg => ⟨_, execStopGraceEnd_quad hr h0 hg, stopOf_atGrace s (some q.val) r, rfl⟩,
    fun _ _ _ hr h2 hsafe hg hdue => congrArg Host.Outcome.next (stopSteps_off hr h2 hsafe hg hdue),
    fun _ h => congrArg Host.Outcome.next (if_neg (ne_true_of_eq_false h)),
    fun _ h => congrArg Host.Outcome.next (if_pos h),
    fun _ _ hp ho => execPllLoss_of_locked hp ho,
    fun _ _ hp hn => ⟨execPllRelock_no_stop hp hn, fun _ h h3 _ => execPllRelock_stopping hp hn h h3,
      fun _ h h3 hd ht hc => ⟨_, execPllRelock_held hp hn h h3 hd ht hc, pllReturn_state ..⟩⟩,
    fun _ => rfl, fun _ _ cause ht hd hs => beginStop_begins cause ht hd hs⟩

end Sys2Proof.Machine
end

section
/-! SUPPORT. The Ledger's newest entry, and WEAVE_ADMIT MEMBER where a row of R419 fails (15 R419; 20 R512 to R516): O53. -/

namespace Sys2Proof.Machine

/-! ### Notices and responses leave the Ledger and the Spools alone -/

def ledgerSpools (s : State) : Ledger × Tbl Spool := (s.ledger, s.spools)

@[simp] theorem ledgerSpools_msix (s : State) (f v : Nat) : ledgerSpools (msix s f v) = ledgerSpools s := by
  simp only [msix, sendVector]
  split
  · rfl
  · split <;> rfl

@[simp] theorem ledgerSpools_setFn (s : State) (f : Nat) (x : Fn) : ledgerSpools (s.setFn f x) = ledgerSpools s := rfl

@[simp] theorem ledgerSpools_notice (s : State) (f : Nat) (aud : Bool) (kind : Nat) (p : List Byte) :
    ledgerSpools (notice s f aud kind p) = ledgerSpools s := by
  simp [notice, apply_ite ledgerSpools]

@[simp] theorem ledgerSpools_postRsp (s : State) (f : Nat) (o : Outst) (dup : Bool) (st : Status) (ap : Nat) (out : List Byte) :
    ledgerSpools (postRsp s f o dup st ap out) = ledgerSpools s := by
  simp [postRsp]

theorem ledgerSpools_foldl {α : Type} {f : State → α → State} (h : ∀ s a, ledgerSpools (f s a) = ledgerSpools s) (l : List α)
    (s : State) : ledgerSpools (l.foldl f s) = ledgerSpools s := by
  induction l generalizing s with
  | nil => rfl
  | cons a r ih => rw [List.foldl_cons, ih, h]

@[simp] theorem ledgerSpools_auditNotices (s : State) (o : Origin) (e : Entry) :
    ledgerSpools (auditNotices s o e) = ledgerSpools s := by
  simp [auditNotices, ledgerSpools_foldl, apply_ite ledgerSpools]

/-! ### The newest entry (R516) -/

/-- Without SP46 nothing is spilled, and the buffer keeps its entries. -/
theorem entries_spill_of_invalid {s : State} (h : (s.spool 46).valid = false) : (spill s).ledger.entries = s.ledger.entries := by
  have aux (k : Nat) (u : State) (hu : (u.spool 46).valid = false) : (spillAux k u).ledger.entries = u.ledger.entries := by
    induction k generalizing u with
    | zero => rfl
    | succ k ih =>
      have hnone (d : List Byte) : spillEntry u d = none := by simp [spillEntry, readDesc, canPut, spoolLive, hu]
      unfold spillAux
      split
      · split
        · exact ih _ hu
        · simp [hnone]
      · rfl
  exact aux _ s h

theorem appendOne_newest (s : State) (o : Origin) (st : Nat) (x : LedgerItem) :
    ∃ e : Entry, (appendOne s o st x).ledger.entries.head? = some e ∧ e.objType = x.objType :=
  ⟨_, rfl, rfl⟩

theorem spools_appendOne (s : State) (o : Origin) (st : Nat) (x : LedgerItem) : (appendOne s o st x).spools = s.spools := by
  simp only [appendOne]
  split <;> rfl

/-- Where the append overwrites no unspilled entry, the newest entry is of the item's object type. -/
theorem newest_ledgerAppend {s : State} (hl : losesEntry s.ledger = false) (hv : (s.spool 46).valid = false) (o : Origin) (st : Nat)
    (x : LedgerItem) : ((ledgerAppend s o st x).ledger.entries.head?).map Entry.objType = some x.objType := by
  obtain ⟨e, hhead, htype⟩ := appendOne_newest s o st x
  have hu : (uncore (appendOne s o st x) 23).ledger.entries.head? = some e := hhead
  have happ : ledgerAppend s o st x = spill (auditNotices (uncore (appendOne s o st x) 23) o e) := by
    simp only [ledgerAppend, hl, Bool.false_eq_true, if_false, hu]
  have hkeep := ledgerSpools_auditNotices (uncore (appendOne s o st x) 23) o e
  obtain ⟨hledger, hspools⟩ := Prod.mk.inj hkeep
  have hspool : (auditNotices (uncore (appendOne s o st x) 23) o e).spool 46 = s.spool 46 := by
    have hsame : (auditNotices (uncore (appendOne s o st x) 23) o e).spools = s.spools := hspools.trans (spools_appendOne s o st x)
    simp only [State.spool, hsame]
  rw [happ, entries_spill_of_invalid (by rw [hspool, hv]), hledger, hu, Option.map_some, htype]

/-- The entry of a refusal that the Ledger keeps names the object that the refusal names. -/
theorem newest_refuse {s : State} (hl : losesEntry s.ledger = false) (hv : (s.spool 46).valid = false) (f : Nat) (w : Owner)
    (o : Outst) (obj : Nat × Nat) :
    ((refuse s f w o .incompatible obj).ledger.entries.head?).map Entry.objType = some obj.1 := by
  have he : refuse s f w o .incompatible obj = postRsp (ledgerAppend s (fromFn f w) o.accept
      { objType := obj.1, objId := obj.2, action := o.opcode, status := Status.incompatible.code }) f o false .incompatible 0
      (refusalOut o.opcode) := by
    simp [refuse, refusalLogged]
  obtain ⟨hledger, -⟩ := Prod.mk.inj (ledgerSpools_postRsp (ledgerAppend s (fromFn f w) o.accept
      { objType := obj.1, objId := obj.2, action := o.opcode, status := Status.incompatible.code }) f o false .incompatible 0
      (refusalOut o.opcode))
  rw [he, hledger, newest_ledgerAppend hl hv]

/-- Refusals that are equal name objects of one type. -/
theorem objType_eq_of_refuse_eq {s : State} {f : Nat} {w : Owner} {o : Outst} {a b : Nat × Nat}
    (h : refuse s f w o .incompatible a = refuse s f w o .incompatible b) (hl : losesEntry s.ledger = false)
    (hv : (s.spool 46).valid = false) : a.1 = b.1 := by
  have hnew := congrArg (fun u => (u.ledger.entries.head?).map Entry.objType) h
  rw [newest_refuse hl hv, newest_refuse hl hv] at hnew
  exact Option.some.inj hnew

/-! ### WEAVE_ADMIT MEMBER (R419) -/

theorem admitMemberBody_of_fail {k : Call} {t : State} {r : Nat} {st : Status} (hact : fld k.blk 0 2 = 1)
    (hform : admitForm k.blk = false) (hfree : t.weave.admission = none) (hclk : t.time.refclk = true)
    (hf : memberFail t k.blk = some (r, st)) :
    admitMemberBody k t = { status := st, next := { t with weave := { t.weave with reason := r } }, obj := weaveObj } := by
  unfold admitMemberBody
  rw [checked_ok (by simp [hact, hform, hfree, hclk]), hf]

/-- An admission that fails with a row of R419 keeps REASON, and its refusal names the Weave. -/
theorem execWeaveAdmitMember_refused {c : Frame} {s : State} {rb : List Byte} {r : Nat} {st : Status}
    (h : admits { op := 0x0D04, pf0 := true } c s rb = true)
    (hb : admitMemberBody (callOf { op := 0x0D04, pf0 := true } c (acceptState c s) rb) (acceptState c s) =
      { status := st, next := { acceptState c s with weave := { (acceptState c s).weave with reason := r } }, obj := weaveObj })
    (hst : st ≠ .ok) (hl : ledgerBlocked (acceptState c s) = false) :
    exec (.weaveAdmitMember c) s = .next (refuse
      { acceptState c s with weave := { (acceptState c s).weave with reason := r } } c.func
      ((fnPart (acceptState c s) c.func).getD {}) (outstOf c (acceptState c s)) st weaveObj) := by
  refine congrArg Host.Outcome.next ?_
  simp only [serve, admit_of_admits h, hb, finish, finalStatus, hst, hl, decide_false, Bool.false_and, if_false,
    Bool.false_eq_true]
  rfl

theorem refuse_weaveObj_ne {t : State} (hl : losesEntry t.ledger = false) (hv : (t.spool 46).valid = false) {w : Weave} {f : Nat}
    {u : Owner} {o : Outst} : refuse { t with weave := w } f u o .incompatible weaveObj ≠
      refuse { t with weave := w } f u o .incompatible (0, 0) :=
  fun h => absurd (objType_eq_of_refuse_eq h hl hv) (by decide)

/-- The device waits in FREE, link 0 is trained, and its peer speaks a protocol that no image has tested. -/
def untestedPeer : State := { State.reset with
  gaf := { State.reset.gaf with state := .ready }
  links := [(0, { tx := .up, rx := .up, peerDev := 1, peerLink := 1, peerAdm := true })] }

/-- WEAVE_ADMIT MEMBER: device 0 of a ring of two, its uplink link 0, with itself as the one member listed. -/
def memberFrame : Frame :=
  { func := 0, header := BitVec.ofNat 128 (0x0D04 + 16 * 2 ^ 32), payload := leBytes 16 (1 + 2 * 2 ^ 9 + 2 ^ 64), refBytes := none }

theorem untestedPeer_admits : admits { op := 0x0D04, pf0 := true } memberFrame untestedPeer [] = true := by decide +kernel

/-- The frame passes the checks of its form, its peer's protocol is untested (REASON 4), and the Ledger takes the entry. -/
theorem untestedPeer_fails :
    let t := acceptState memberFrame untestedPeer
    let k := callOf { op := 0x0D04, pf0 := true } memberFrame t []
    fld k.blk 0 2 = 1 ∧ admitForm k.blk = false ∧ t.weave.admission = none ∧ t.time.refclk = true ∧ ledgerBlocked t = false
      ∧ memberFail t k.blk = some (4, .incompatible) ∧ losesEntry t.ledger = false ∧ (t.spool 46).valid = false := by
  decide +kernel

/-- Refutes O53: an admission that fails with INCOMPATIBLE enters the Ledger (20 R512), and its entry names the Weave as its object
(type 0x2A), as WEAVE_ADMIT does in every refusal, while the statement has the entry of an object of type 0. -/
theorem not_linkAndWeaveCommands : ¬ Obligations.LinkAndWeaveCommands := by
  rintro ⟨-, -, -, -, -, -, -, -, -, -, -, -, -, h⟩
  obtain ⟨hact, hform, hfree, hclk, hblocked, hfail, hlose, hspill⟩ := untestedPeer_fails
  have hstated := h memberFrame untestedPeer [] untestedPeer_admits hact hform hfree hclk hblocked 4 .incompatible hfail
  have hmodel := execWeaveAdmitMember_refused untestedPeer_admits (admitMemberBody_of_fail hact hform hfree hclk hfail)
    (by decide) hblocked
  have hsame := Host.Outcome.next.inj (hmodel.symm.trans hstated)
  exact refuse_weaveObj_ne hlose hspill hsame

end Sys2Proof.Machine
end

section
/-! SUPPORT. Frames received and sent on a Weave link (15 R396 to R401, R406, R413): O54. -/

namespace Sys2Proof.Machine

/-! ### Frames received (R397, R398, R401) -/

/-- A receive direction that decodes data frames: past step 3, or in DESKEW once a training frame has come. -/
def decodes (x : Link) : Prop := (x.rx = .deskew ∧ x.rxok = true) ∨ x.rx = .up ∨ x.rx = .aligned ∨ x.rx = .sleep

section Receive
variable {s : State} {k : Fin 4} (line : BitVec 600) (stamp : Int)

theorem execFrameReceive_not_aligned
    (h : (s.link k).rx = .off ∨ (s.link k).rx = .acquire ∨ (s.link k).rx = .align ∨ (s.link k).rx = .down) :
    exec (.frameReceive k line stamp) s = .next s := by
  refine congrArg Host.Outcome.next (if_pos ?_)
  rcases h with h | h | h | h <;> simp only [h] <;> decide

theorem execFrameReceive_training
    (h : (s.link k).rx = .deskew ∨ (s.link k).rx = .up ∨ (s.link k).rx = .aligned ∨ (s.link k).rx = .sleep)
    (ht : isTraining line.toNat = true) : exec (.frameReceive k line stamp) s = .next (takeTraining s k line.toNat) := by
  refine congrArg Host.Outcome.next ((if_neg ?_).trans (if_pos ht))
  rcases h with h | h | h | h <;> simp only [h] <;> decide

theorem execFrameReceive_before_training (h : (s.link k).rx = .deskew) (hr : (s.link k).rxok = false)
    (ht : isTraining line.toNat = false) : exec (.frameReceive k line stamp) s = .next s := by
  refine congrArg Host.Outcome.next ((if_neg ?_).trans ((if_neg (ne_true_of_eq_false ht)).trans (if_pos ?_)))
  · simp only [h]
    decide
  · simp [h, hr]

/-- A data frame goes on by its class. -/
theorem execFrameReceive_data (h : decodes (s.link k)) (ht : isTraining line.toNat = false) :
    let d := descramble (s.link k) line.toNat
    let u := s.modLink k (fun x => { x with descr := d.2, okRun := 0 })
    (bchClass d.1 = .clean → exec (.frameReceive k line stamp) s = .next (takeFrame u k d.1 stamp))
    ∧ (∀ m, bchClass d.1 = .corrected m →
      exec (.frameReceive k line stamp) s = .next (takeFrame (countCorrected u k m) k (d.1 ^^^ m) stamp))
    ∧ (bchClass d.1 = .ue →
      exec (.frameReceive k line stamp) s = .next (if (s.link k).rx = .up ∨ (s.link k).rx = .aligned then frameUe u k else u)) := by
  have hpast : ¬ ((s.link k).rx == .off || (s.link k).rx == .acquire || (s.link k).rx == .align || (s.link k).rx == .down) = true := by
    rcases h with ⟨h, -⟩ | h | h | h <;> simp only [h] <;> decide
  have htrained : ¬ ((s.link k).rx == .deskew && !(s.link k).rxok) = true := by
    rcases h with ⟨-, hr⟩ | h | h | h
    · simp [hr]
    all_goals simp [h]
  have heq : exec (.frameReceive k line stamp) s = execFrameReceive k line stamp s := rfl
  rw [heq]
  unfold execFrameReceive
  dsimp only
  rw [if_neg hpast, if_neg (ne_true_of_eq_false ht), if_neg htrained]
  refine ⟨fun hc => ?_, fun m hc => ?_, fun hc => ?_⟩
  · rw [hc]
  · rw [hc]
  · rw [hc]
    refine congrArg Host.Outcome.next (if_congr ?_ rfl rfl)
    simp only [Bool.or_eq_true, beq_iff_eq]

end Receive

/-! ### Frames sent (R396, R406) -/

/-- What a transmit direction sends in a tick, by its state. -/
theorem execFrameTransmit_of_state (s : State) (k : Fin 4) :
    ((s.link k).tx = .train → exec (.frameTransmit k) s = .next (sendLine s k none))
    ∧ ((s.link k).tx = .wake → s.now < (s.link k).wakeAt → exec (.frameTransmit k) s = .next (sendLine s k none))
    ∧ ((s.link k).tx = .wake → (s.link k).wakeAt ≤ s.now → exec (.frameTransmit k) s = .next (sendFrame (setTx s k .up) k))
    ∧ ((s.link k).tx = .up → exec (.frameTransmit k) s = .next (sendFrame s k))
    ∧ (((s.link k).tx = .off ∨ (s.link k).tx = .sleepLight ∨ (s.link k).tx = .sleepDeep) →
      exec (.frameTransmit k) s = .next s) := by
  have heq : exec (.frameTransmit k) s = execFrameTransmit k s := rfl
  rw [heq]
  unfold execFrameTransmit
  dsimp only
  refine ⟨fun h => ?_, fun h hw => ?_, fun h hw => ?_, fun h => ?_, fun h => ?_⟩
  · rw [h]
  · rw [h]
    exact congrArg Host.Outcome.next (if_pos hw)
  · rw [h]
    exact congrArg Host.Outcome.next (if_neg (Nat.not_lt.2 hw))
  · rw [h]
  · rcases h with h | h | h <;> rw [h]

/-! ### The resend time-out (R413) -/

section Resend
variable {s : State} {k : Fin 4}

theorem execShuttleResendTimeout_due (hu : (s.link k).unacked ≠ []) (hr : (s.link k).rx ≠ .sleep) (ht : (s.link k).tx = .up)
    (h : (s.link k).progress + 256 ≤ s.now) : exec (.shuttleResendTimeout k) s = .next
      (retryLimit (s.modLink k (fun x => { x with cursor := 0, resends := x.resends + 1, progress := s.now })) k) :=
  congrArg Host.Outcome.next (if_neg (by simp [hu, hr, ht, Nat.not_lt.2 h]))

theorem execShuttleResendTimeout_waits (h : s.now < (s.link k).progress + 256) :
    exec (.shuttleResendTimeout k) s = .next s :=
  congrArg Host.Outcome.next (if_pos (by simp [h]))

end Resend

/-- Settles O54: a frame is training or data, and a data frame goes on by its class; what is sent is one case of TX_STATE. -/
theorem linkFrames : Obligations.LinkFrames := by
  refine ⟨fun s k line stamp => ⟨fun h => execFrameReceive_not_aligned line stamp h,
      fun h ht => execFrameReceive_training line stamp h ht,
      fun h hr ht => execFrameReceive_before_training line stamp h hr ht,
      fun h ht => (execFrameReceive_data line stamp h ht).1,
      fun m h ht => (execFrameReceive_data line stamp h ht).2.1 m,
      fun h ht => (execFrameReceive_data line stamp h ht).2.2⟩,
    execFrameTransmit_of_state,
    fun s k hu hr ht => ⟨execShuttleResendTimeout_due hu hr ht, execShuttleResendTimeout_waits⟩⟩

end Sys2Proof.Machine
end

section
/-! SUPPORT. Control messages and the events of the lanes of a Weave link (15 R401 to R405, R407, R410, R414, R417, R423): O55. -/

namespace Sys2Proof.Machine

/-! ### A link after a change -/

@[simp] theorem State.link_modLink (s : State) (k i : Nat) (g : Link → Link) :
    (s.modLink k g).link i = if k = i then g (s.link k) else s.link i := by
  simp [State.modLink, State.link, tmod, tget_tset]

theorem State.modLane_congr {s : State} {k l : Nat} {f g : Lane → Lane} (h : f (s.lane k l) = g (s.lane k l)) :
    s.modLane k l f = s.modLane k l g := by
  have hl : tmod {} (s.link k).lanes l f = tmod {} (s.link k).lanes l g := congrArg (tset ({} : Lane) (s.link k).lanes l) h
  refine congrArg (fun x => { s with links := tset {} s.links k x }) ?_
  exact congrArg (fun t => { s.link k with lanes := t }) hl

/-! ### Control messages (R407, R410, R414, R417) -/

section Messages
variable {s : State} {k : Fin 4}

theorem execSleep_last (deep : Bool) {n : Fin 16} (hn : n.val = 0) (h : (s.link k).rx = .up ∨ (s.link k).rx = .aligned) :
    exec (.sleep k deep n) s = .next (setRx
      (s.modLink k (fun x => { x with wasAligned := x.rx == .aligned, ueRun := 0 })) k .sleep) :=
  congrArg Host.Outcome.next (if_pos (by simpa [hn] using h))

theorem execSleep_counting (deep : Bool) {n : Fin 16} (hn : n.val ≠ 0) : exec (.sleep k deep n) s = .next s :=
  congrArg Host.Outcome.next (if_neg (by simp [hn]))

theorem execSpareAt_last (p : Fin 4) (un : Bool) {n : Fin 8} (h : (s.link k).spareEn = true) (hn : n.val = 0) :
    exec (.spareAt k p un n) s = .next (spareSwitch s k p un true) :=
  congrArg Host.Outcome.next (if_pos (by simp [hn, h]))

theorem execSpareAt_counting (p : Fin 4) (un : Bool) {n : Fin 8} (hn : n.val ≠ 0) : exec (.spareAt k p un n) s = .next s :=
  congrArg Host.Outcome.next (if_neg (by simp [hn]))

/-- The transmitter counts down where its spare can serve: a free one takes a position, and the one that serves it leaves it. -/
theorem execSpareReq_serves {p : Fin 4} {un : Bool} (h : (s.link k).spareEn = true) (ha : (s.link k).spareAt = none)
    (ht : (s.link k).txSpare = if un then some p.val else none) : exec (.spareReq k p un) s = .next
      (s.modLink k (fun x => { x with spareAt := some { pos := p, unspare := un } })) := by
  refine congrArg Host.Outcome.next (if_pos ?_)
  cases un <;> simp [h, ha, ht]

theorem execSpareReq_taken {p : Fin 4} {q : Nat} (ht : (s.link k).txSpare = some q) : exec (.spareReq k p false) s = .next s :=
  congrArg Host.Outcome.next (if_neg (by simp [ht]))

theorem takeTstamp_begins {s : State} {k : Nat} (h : (s.link k).stamped = none) (a b c f : Nat) (stamp : Int) :
    takeTstamp s k a b c f stamp = s.modLink k (fun x => { x with stamped := some (a, stamp) }) := by
  simp only [takeTstamp, h]

/-- A TSTAMP that echoes nothing only begins an exchange. -/
theorem takeTstamp_no_echo (s : State) (k a : Nat) (stamp : Int) :
    takeTstamp s k a 0 0 0 stamp = s.modLink k (fun x => { x with stamped := some (a, stamp) }) := by
  unfold takeTstamp
  dsimp only
  split
  · rfl
  · rfl

/-- An exchange of a device that takes its time from no link: its DELAY, and the direction may become ALIGNED. -/
theorem takeTstamp_completes {s : State} {k t1 : Nat} {t2 : Int} (h : (s.link k).stamped = some (t1, t2))
    (ha : s.weave.admission = none) (hr : s.weave.role = .none) {a b c f : Nat} (stamp : Int) (he : b ≠ 0 ∨ c ≠ 0 ∨ f ≠ 0) :
    let e := exchange (s.link k).asym (ballTime k t1) t2 (ballTime k b) ((c : Int) * 64 + f)
    takeTstamp s k a b c f stamp = tryAlign ((s.modLink k (fun x => { x with
      delay := some (e.2.1.toNat % 2 ^ 32) })).modLink k (fun x => { x with stamped := some (a, stamp) })) k := by
  have hecho : ¬ (b = 0 && c = 0 && f = 0) = true := by
    simp only [Bool.and_eq_true, decide_eq_true_eq]
    omega
  simp only [takeTstamp, h, if_neg hecho]
  have hw : ∀ g, (s.modLink k g).weave = s.weave := fun _ => rfl
  simp [hw, ha, hr]

end Messages

/-! ### Views that age out (R414, R421) -/

theorem links_eq_of_unreported {s t : State} (h : unreported t = unreported s) : t.links = s.links :=
  (congrArg State.links h : (unreported t).links = (unreported s).links)

@[simp] theorem unreported_linkChanged (s : State) (k : Nat) : unreported (linkChanged s k) = unreported s := by
  simp [linkChanged, linkNote, linkEvt, apply_ite unreported]

@[simp] theorem link_linkChanged (s : State) (k i : Nat) : (linkChanged s k).link i = s.link i := by
  simp only [State.link, links_eq_of_unreported (unreported_linkChanged s k)]

/-- Among the links, a change of RX_STATE changes that state only. -/
theorem link_setRx (s : State) (k i : Nat) (r : RxState) :
    (setRx s k r).link i = if k = i then { s.link k with rx := r } else s.link i := by
  unfold setRx
  split
  next h =>
    split
    next hi => rw [← h, hi]
    next => rfl
  next =>
    dsimp only
    rw [link_linkChanged]
    split <;> split <;> exact State.link_modLink s k i (fun x => { x with rx := r })

/-- A change of links, one after the other, where a second change of the same link does nothing. -/
theorem link_foldl {f : State → Nat → State} {g : Link → Link}
    (hf : ∀ s k i, (f s k).link i = if k = i then g (s.link k) else s.link i) (hg : ∀ x, g (g x) = g x) (l : List Nat)
    (s : State) (i : Nat) : (l.foldl f s).link i = if i ∈ l then g (s.link i) else s.link i := by
  induction l generalizing s with
  | nil => simp
  | cons k r ih =>
    rw [List.foldl_cons, ih, hf]
    by_cases hk : k = i
    · subst hk
      by_cases hr : k ∈ r <;> simp [hr, hg]
    · simp [hk, Ne.symm hk]

/-- A link whose peer's view is too old: no view, and no member (R414). -/
def agedOut (x : Link) : Link := { x with view := none, peerAdm := false }

/-- A link that is not ALIGNED (R421). -/
def unaligned (x : Link) : Link := if x.rx = .aligned then { x with rx := .up } else x

theorem rx_unaligned (x : Link) : (unaligned x).rx ≠ .aligned := by
  unfold unaligned
  split
  · exact RxState.noConfusion
  · assumption

theorem unaligned_unaligned (x : Link) : unaligned (unaligned x) = unaligned x := if_neg (rx_unaligned x)

theorem view_unaligned (x : Link) : (unaligned x).view = x.view := by
  simp [unaligned, apply_ite Link.view]

theorem peerAdm_unaligned (x : Link) : (unaligned x).peerAdm = x.peerAdm := by
  simp [unaligned, apply_ite Link.peerAdm]

/-- The links whose views are older than 4 ms. -/
def agedLinks (s : State) : List Nat := (s.links.filter (fun e => viewAged s e.2)).map (fun e => e.1)

theorem listed_of_ne_default {α : Type} {d : α} {t : Tbl α} {k : Nat} (h : tget d t k ≠ d) : ∃ e ∈ t, e.1 = k := by
  induction t with
  | nil => exact absurd rfl h
  | cons e r ih =>
    by_cases he : e.1 = k
    · exact ⟨e, List.mem_cons_self, he⟩
    · have hr : tget d r k ≠ d := by simpa [tget, he] using h
      obtain ⟨x, hx, hk⟩ := ih hr
      exact ⟨x, List.mem_cons_of_mem e hx, hk⟩

theorem mem_agedLinks {s : State} (h : ∀ e ∈ s.links, s.link e.1 = e.2) (k : Nat) :
    k ∈ agedLinks s ↔ viewAged s (s.link k) = true := by
  simp only [agedLinks, List.mem_map, List.mem_filter]
  constructor
  · rintro ⟨e, ⟨he, ha⟩, rfl⟩
    rwa [h e he]
  · intro ha
    obtain ⟨e, he, rfl⟩ : ∃ e ∈ s.links, e.1 = k := listed_of_ne_default fun hd => by
      rw [State.link, hd] at ha
      exact Bool.false_ne_true ha
    exact ⟨e, ⟨he, by rwa [← h e he]⟩, rfl⟩

/-- The refresh of HOPS changes HOPS only, and of a member only. -/
theorem refreshHops_eq (s : State) : ∃ n, refreshHops s = { s with weave := { s.weave with hops := n } } ∧
    (s.weave.role ≠ .member → n = s.weave.hops) := by
  unfold refreshHops
  dsimp only
  split
  next h _ => exact ⟨_, rfl, fun hn => absurd h hn⟩
  next => exact ⟨_, rfl, fun _ => rfl⟩

/-- The state in which the old views are gone and no link of theirs is ALIGNED. -/
def viewsDropped (s : State) : State :=
  (agedLinks s).foldl (fun s k => if (s.link k).rx = .aligned then setRx s k .up else s)
    ((agedLinks s).foldl (fun s k => s.modLink k agedOut) s)

theorem execMemberViewAgeout_eq (s : State) : exec .memberViewAgeout s = .next (refreshHops (viewsDropped s)) := rfl

theorem link_viewsDropped {s : State} (h : ∀ e ∈ s.links, s.link e.1 = e.2) (k : Nat) :
    (viewsDropped s).link k = if viewAged s (s.link k) then unaligned (agedOut (s.link k)) else s.link k := by
  have hdrop (u : State) (i j : Nat) : (if (u.link i).rx = .aligned then setRx u i .up else u).link j =
      if i = j then unaligned (u.link i) else u.link j := by
    split
    next ha =>
      rw [link_setRx, unaligned, if_pos ha]
    next ha =>
      rw [unaligned, if_neg ha]
      split
      next hij => rw [hij]
      next => rfl
  rw [viewsDropped, link_foldl hdrop unaligned_unaligned,
    link_foldl (fun u i j => State.link_modLink u i j agedOut) (fun _ => rfl)]
  by_cases ha : k ∈ agedLinks s
  · rw [if_pos ha, if_pos ha, if_pos ((mem_agedLinks h k).1 ha)]
  · rw [if_neg ha, if_neg ha, if_neg (mt (mem_agedLinks h k).2 ha)]

/-- Where no old view's link is ALIGNED, only links change. -/
theorem viewsDropped_frame {s : State} (h : ∀ k, viewAged s (s.link k) = true → (s.link k).rx ≠ .aligned)
    (hl : ∀ e ∈ s.links, s.link e.1 = e.2) : { viewsDropped s with links := s.links } = s := by
  have hmod (l : List Nat) (u : State) :
      { l.foldl (fun s k => s.modLink k agedOut) u with links := s.links } = { u with links := s.links } := by
    induction l generalizing u with
    | nil => rfl
    | cons k r ih => exact ih (u.modLink k agedOut)
  have hstay (l : List Nat) (u : State) (hu : ∀ k ∈ l, (u.link k).rx ≠ .aligned) :
      l.foldl (fun s k => if (s.link k).rx = .aligned then setRx s k .up else s) u = u := by
    induction l with
    | nil => rfl
    | cons k r ih =>
      rw [List.foldl_cons, if_neg (hu k List.mem_cons_self)]
      exact ih fun i hi => hu i (List.mem_cons_of_mem k hi)
  have hrx (k : Nat) (hk : k ∈ agedLinks s) : (((agedLinks s).foldl (fun s k => s.modLink k agedOut) s).link k).rx ≠ .aligned := by
    rw [link_foldl (fun u i j => State.link_modLink u i j agedOut) (fun _ => rfl), if_pos hk]
    exact h k ((mem_agedLinks hl k).1 hk)
  rw [viewsDropped, hstay _ _ hrx, hmod]

theorem execMemberViewAgeout_spec {s : State} (h : ∀ e ∈ s.links, s.link e.1 = e.2) : ∃ t, exec .memberViewAgeout s = .next t
    ∧ (∀ k v, (s.link k).view = some v → (t.link k).view = if s.now ≤ v.tick + fourMs then some v else none)
    ∧ (∀ k, (s.link k).view = none → (t.link k).view = none)
    ∧ (∀ k, viewAged s (s.link k) = true → (t.link k).peerAdm = false ∧ (t.link k).rx ≠ .aligned)
    ∧ (s.weave.role ≠ .member → (∀ k, viewAged s (s.link k) = true → (s.link k).rx ≠ .aligned) →
      { t with links := s.links } = s) := by
  obtain ⟨n, hhops, hsame⟩ := refreshHops_eq (viewsDropped s)
  refine ⟨_, execMemberViewAgeout_eq s, ?_⟩
  rw [hhops]
  have hlink (k : Nat) : ({ viewsDropped s with weave := { (viewsDropped s).weave with hops := n } } : State).link k =
    if viewAged s (s.link k) then unaligned (agedOut (s.link k)) else s.link k := link_viewsDropped h k
  simp only [hlink]
  refine ⟨fun k v hv => ?fresh, fun k hv => ?none, fun k ha => ?aged, fun hr ha => ?frame⟩
  case fresh =>
    have haged : viewAged s (s.link k) = decide (v.tick + fourMs < s.now) := by simp only [viewAged, hv]
    by_cases hnow : s.now ≤ v.tick + fourMs
    · simp [haged, hnow, Nat.not_lt.2 hnow, hv]
    · simp [haged, hnow, Nat.lt_of_not_le hnow, view_unaligned, agedOut]
  case none =>
    have haged : viewAged s (s.link k) = false := by simp only [viewAged, hv]
    simp [haged, hv]
  case aged =>
    rw [if_pos ha]
    exact ⟨peerAdm_unaligned _, rx_unaligned _⟩
  case frame =>
    have hf := viewsDropped_frame ha h
    have hweave := congrArg State.weave hf
    have hw : (viewsDropped s).weave = s.weave := hweave
    rw [hsame (by rwa [hw])]
    exact hf

/-! ### Bring-up (R401 to R403) -/

section Lanes
variable {s : State} {k : Fin 4}

theorem execLinkAcquireDone_cases (s : State) (k : Fin 4) :
    ((s.link k).rx = .acquire → exec (.linkAcquireDone k) s = .next (setRx s k .align))
    ∧ ((s.link k).rx ≠ .acquire → exec (.linkAcquireDone k) s = .next s) :=
  ⟨fun h => congrArg Host.Outcome.next (if_pos h), fun h => congrArg Host.Outcome.next (if_neg h)⟩

/-- A lane that searches slips one bit, fails at the last position, or has found its marker; the last lane to find it ends the
search. -/
theorem execLaneAlignCheck_cases {l : Fin 5} (hr : (s.link k).rx = .align) (hs : (searched (s.link k)).contains l.val = true)
    (hf : (s.lane k l).found = false) :
    ((s.lane k l).slips < 149 → exec (.laneAlignCheck k l false) s = .next
      (s.modLane k l (fun y => { y with slips := y.slips + 1 })))
    ∧ (149 ≤ (s.lane k l).slips → exec (.laneAlignCheck k l false) s = .next (failStart s k 3))
    ∧ (let u := s.modLane k l (fun y => { y with found := true })
       ((searched (s.link k)).all (fun l => (u.lane k l).found) = false → exec (.laneAlignCheck k l true) s = .next u)
       ∧ ((searched (s.link k)).all (fun l => (u.lane k l).found) = true →
         let w := Config.laneSkew s.freeCtr
         let v := { u with freeCtr := s.freeCtr + 1 }
         exec (.laneAlignCheck k l true) s = .next
           (if 449 < w then failStart v k 4 else setRx (v.modLink k (fun x => { x with skew := w })) k .deskew))) := by
  have hg : ¬ ((s.link k).rx != .align || !(searched (s.link k)).contains l.val || (s.lane k l).found) = true := by
    rw [hr, hs, hf]
    decide
  have hslip : exec (.laneAlignCheck k l false) s = .next (if (s.lane k l).slips ≥ 149 then failStart s k 3
    else s.modLane k l (fun y => { y with slips := y.slips + 1 })) := congrArg Host.Outcome.next (if_neg hg)
  refine ⟨fun h => ?_, fun h => ?_, fun h => ?_, fun h => ?_⟩
  · rw [hslip, if_neg (Nat.not_le.2 h)]
  · rw [hslip, if_pos h]
  · exact congrArg Host.Outcome.next ((if_neg hg).trans (if_neg (ne_true_of_eq_false h)))
  · exact congrArg Host.Outcome.next ((if_neg hg).trans (if_pos h))

theorem execLinkBringupTimeout_cases (hen : (s.link k).en = true) :
    (comingUp (s.link k) = true → (s.link k).startAt + 75000000 ≤ s.now → exec (.linkBringupTimeout k) s = .next (failStart s k 5))
    ∧ (comingUp (s.link k) = false ∨ s.now < (s.link k).startAt + 75000000 → exec (.linkBringupTimeout k) s = .next s) := by
  refine ⟨fun hc ht => congrArg Host.Outcome.next (if_pos ?_), fun h => congrArg Host.Outcome.next (if_neg ?_)⟩
  · simp [hen, hc, bringupTicks, ht]
  · rcases h with h | h
    · simp [h]
    · simp [bringupTicks, Nat.not_le.2 h]

/-! ### Lanes in use (R404, R405, R410, R411) -/

theorem badLane_without_spare {p : Nat} (h : spareFree (s.link k) = false) : badLane s k p = linkHit s k kLaneFail :=
  if_neg (ne_true_of_eq_false h)

theorem execLaneCdrLoss_cases {p : Fin 5} (hr : (s.link k).rx = .up ∨ (s.link k).rx = .aligned) :
    (p.val ≠ 4 → spareFree (s.link k) = true → exec (.laneCdrLoss k p) s = .next (badLane s k p))
    ∧ (p.val ≠ 4 → spareFree (s.link k) = false → exec (.laneCdrLoss k p) s = .next (linkDown (linkHit s k kLaneFail) k 1))
    ∧ (p.val = 4 → (s.link k).sparePos.isSome = true →
      exec (.laneCdrLoss k p) s = .next (linkDown (linkHit s k kLaneFail) k 1))
    ∧ (p.val = 4 → (s.link k).sparePos = none → exec (.laneCdrLoss k p) s = .next s) := by
  have hg : ¬ (!((s.link k).rx == .up || (s.link k).rx == .aligned)) = true := by
    rcases hr with h | h <;> simp [h]
  refine ⟨fun hp hs => ?_, fun hp hs => ?_, fun hp hs => ?_, fun hp hs => ?_⟩
  all_goals refine congrArg Host.Outcome.next ((if_neg hg).trans ?_)
  · exact (if_neg hp).trans (if_pos hs)
  · rw [if_neg hp, if_neg (ne_true_of_eq_false hs), badLane_without_spare hs]
  · exact (if_pos hp).trans (if_pos hs)
  · exact (if_pos hp).trans (if_neg (by simp [hs]))

/-- Without a spare in use a position is served by its own lane. -/
theorem find_position_of_lane {x : Link} (h : x.sparePos = none) (p : Fin 4) :
    (List.range 4).find? (fun i => rxLane x i == p.castSucc.val) = some p.val := by
  have hlane (i : Nat) : rxLane x i = i := if_neg (by simp [h])
  simp only [hlane]
  revert p
  decide

theorem execLaneErrorWindow_cases {p : Fin 4} (hn : (s.link k).sparePos = none) (hr : (s.link k).rx = .up ∨ (s.link k).rx = .aligned) :
    let u := s.modLane k p (fun y => { y with window := 0 })
    ((s.link k).laneErr < (s.lane k p).window → exec (.laneErrorWindow k (p.castSucc)) s = .next (badLane u k p))
    ∧ ((s.lane k p).window ≤ (s.link k).laneErr → exec (.laneErrorWindow k (p.castSucc)) s = .next u) := by
  intro u
  have hexec : exec (.laneErrorWindow k p.castSucc) s = .next
      (if decide ((s.link k).laneErr < (s.lane k p).window) && ((s.link k).rx == .up || (s.link k).rx == .aligned) then
        badLane u k p else u) := by
    change execLaneErrorWindow k p.castSucc s = _
    simp only [execLaneErrorWindow, find_position_of_lane hn p]
    rfl
  rw [hexec]
  refine ⟨fun h => congrArg Host.Outcome.next (if_pos ?_), fun h => congrArg Host.Outcome.next (if_neg ?_)⟩
  · rcases hr with hr | hr <;> simp [h, hr]
  · simp [Nat.not_lt.2 h]

theorem execEyeMeasure_cases {p : Fin 4} (m : BitVec 8) (c : BitVec 64) (hr : (s.link k).rx = .up ∨ (s.link k).rx = .aligned) :
    let l := rxLane (s.link k) p
    ((s.link k).eyeMin ≤ m.toNat → (s.link k).adapt = true → (s.lane k l).frozen = false →
      exec (.eyeMeasure k p m c) s = .next (s.modLane k l (fun y => { y with margin := m.toNat, coeffs := c, good := c })))
    ∧ (m.toNat < (s.link k).eyeMin → exec (.eyeMeasure k p m c) s = .next (linkEvt (linkRecord (linkHit
        (s.modLane k l (fun y => { y with margin := m.toNat, coeffs := y.good, frozen := true })) k kAdaptGuard)
        0x43 k 1 (plane k l) p 0 0) k)) := by
  have hg : ¬ (!((s.link k).rx == .up || (s.link k).rx == .aligned || (s.link k).rx == .deskew)) = true := by
    rcases hr with h | h <;> simp [h]
  refine ⟨fun hm ha hf => ?_, fun hm => ?_⟩
  all_goals refine congrArg Host.Outcome.next ((if_neg hg).trans ?_)
  · refine (if_pos hm).trans (State.modLane_congr ?_)
    simp [ha, hf]
  · exact if_neg (Nat.not_le.2 hm)

end Lanes

/-! ### REF_TRIM (R423) -/

theorem execTrimStep_not_tracking {s : State} (h : s.weave.role ≠ .member ∨ wTrack s.weave.config = false) :
    exec (.trimStep ()) s = .next s := by
  refine congrArg Host.Outcome.next (if_pos ?_)
  rcases h with h | h <;> simp [h]

/-- One step of REF_TRIM by `d`, the sign of OFFSET (R423). -/
theorem execTrimStep_tracking {s : State} (hm : s.weave.role = .member) (ht : wTrack s.weave.config = true) {d : Int}
    (hd : (if s.weave.offset < 0 then -1 else if 0 < s.weave.offset then 1 else 0) = d) :
    ((s.weave.refTrim : Int) - d < 0 ∨ 6143 < (s.weave.refTrim : Int) - d → exec (.trimStep ()) s = .next (weaveHit s kTrimLimit))
    ∧ (∀ n : Nat, (s.weave.refTrim : Int) - d = n → n ≤ 6143 →
      exec (.trimStep ()) s = .next { s with weave := { s.weave with refTrim := n } }) := by
  have hexec : exec (.trimStep ()) s = .next (if (s.weave.refTrim : Int) - d < 0 || (s.weave.refTrim : Int) - d > 6143 then
      weaveHit s kTrimLimit else { s with weave := { s.weave with refTrim := ((s.weave.refTrim : Int) - d).toNat } }) := by
    subst hd
    exact congrArg Host.Outcome.next (if_neg (by simp [hm, ht]))
  rw [hexec]
  refine ⟨fun h => congrArg Host.Outcome.next (if_pos ?_), fun n hn h => congrArg Host.Outcome.next ?_⟩
  · simpa using h
  · rw [hn, if_neg (by simp; omega)]
    rfl

theorem execTrimStep_cases {s : State} (hm : s.weave.role = .member) (ht : wTrack s.weave.config = true) :
    (0 < s.weave.offset → 0 < s.weave.refTrim → s.weave.refTrim ≤ 6143 → exec (.trimStep ()) s = .next
      { s with weave := { s.weave with refTrim := s.weave.refTrim - 1 } })
    ∧ (0 < s.weave.offset → s.weave.refTrim = 0 → exec (.trimStep ()) s = .next (weaveHit s kTrimLimit))
    ∧ (s.weave.offset < 0 → s.weave.refTrim < 6143 → exec (.trimStep ()) s = .next
      { s with weave := { s.weave with refTrim := s.weave.refTrim + 1 } })
    ∧ (s.weave.offset < 0 → s.weave.refTrim = 6143 → exec (.trimStep ()) s = .next (weaveHit s kTrimLimit)) := by
  have hahead (h : 0 < s.weave.offset) := execTrimStep_tracking hm ht (d := 1) (by rw [if_neg (by omega), if_pos h])
  have hbehind (h : s.weave.offset < 0) := execTrimStep_tracking hm ht (d := -1) (if_pos h)
  refine ⟨fun ho hp hl => (hahead ho).2 _ ?_ ?_, fun ho hz => (hahead ho).1 ?_, fun ho hl => (hbehind ho).2 _ ?_ ?_,
    fun ho hl => (hbehind ho).1 ?_⟩
  all_goals omega

theorem execTrimStep_no_offset {s : State} (hm : s.weave.role = .member) (ho : s.weave.offset = 0) (hl : s.weave.refTrim ≤ 6143) :
    exec (.trimStep ()) s = .next s := by
  cases ht : wTrack s.weave.config with
  | false => exact execTrimStep_not_tracking (.inr ht)
  | true => exact (execTrimStep_tracking hm ht (d := 0) (by simp [ho])).2 _ (Int.sub_zero _) hl

/-- Settles O55: the messages one by one, where a message whose COUNT is not 0 changes nothing; then the events of the lanes,
where in each the guard of the event is decided and its cases are the branches; REF_TRIM moves by the sign of OFFSET. -/
theorem linkMessagesAndLanes : Obligations.LinkMessagesAndLanes := by
  unfold Obligations.LinkMessagesAndLanes
  refine ⟨fun s k deep n => ⟨execSleep_last deep, execSleep_counting deep⟩,
    fun s k p un n hen => ⟨execSpareAt_last p un hen, execSpareAt_counting p un⟩,
    fun s k p hen ha => ⟨fun h => execSpareReq_serves hen ha h, fun h => execSpareReq_serves hen ha h, fun q h => execSpareReq_taken h⟩,
    fun s k a b c f stamp h => congrArg Host.Outcome.next (takeTstamp_begins h ..),
    fun s k a b c f stamp t2 t1 h ha hr he => congrArg Host.Outcome.next (takeTstamp_completes h ha hr stamp he),
    fun s k a stamp => congrArg Host.Outcome.next (takeTstamp_no_echo s k a.toNat stamp),
    fun asym t1 t2 t3 t4 => ⟨rfl, rfl, rfl⟩,
    fun s k v r h => rfl,
    fun s h => execMemberViewAgeout_spec h,
    execLinkAcquireDone_cases,
    fun s k l hr hs hf => execLaneAlignCheck_cases hr hs hf,
    fun s k hen => execLinkBringupTimeout_cases hen,
    fun s k p hr => execLaneCdrLoss_cases hr,
    fun s k p hn hr => execLaneErrorWindow_cases hn hr,
    fun s k p m c hr => execEyeMeasure_cases m c hr,
    fun s hm ht => execTrimStep_cases hm ht,
    fun s hm ho hl => execTrimStep_no_offset hm ho hl,
    fun s h => execTrimStep_not_tracking h⟩

end Sys2Proof.Machine
end

section
/-! SUPPORT. PTP, ARP and neighbour messages (16 R433 to R435, R441, R445): O59. -/

namespace Sys2Proof.Machine

/-! ### A domain after a change -/

@[simp] theorem State.dom_modDom (s : State) (d i : Nat) (g : Domain → Domain) :
    (s.modDom d g).dom i = if d = i then g (s.dom d) else s.dom i := by
  simp [State.modDom, State.dom, tmod, tget_tset]

theorem dom_eq_of_doms {s t : State} (h : t.wallTime.doms = s.wallTime.doms) (d : Nat) : t.dom d = s.dom d := by
  rw [State.dom, State.dom, h]

@[simp] theorem doms_wallHit (s : State) (f : Nat) : (wallHit s f).wallTime.doms = s.wallTime.doms := rfl

@[simp] theorem doms_wallEvt (s : State) : (wallEvt s).wallTime.doms = s.wallTime.doms := by
  unfold wallEvt
  split <;> rfl

@[simp] theorem doms_refreshValid (s : State) : (refreshValid s).wallTime.doms = s.wallTime.doms := by
  unfold refreshValid
  dsimp only
  split
  · rfl
  · rw [doms_wallEvt]
    split <;> rfl

@[simp] theorem doms_leftLocked (s : State) (d : Nat) : (leftLocked s d).wallTime.doms = s.wallTime.doms := by
  unfold leftLocked
  dsimp only
  split <;> rfl

theorem doms_ite {c : Prop} [Decidable c] {s a b : State} (ha : a.wallTime.doms = s.wallTime.doms)
    (hb : b.wallTime.doms = s.wallTime.doms) : (if c then a else b).wallTime.doms = s.wallTime.doms :=
  iteInduction (motive := fun t : State => t.wallTime.doms = s.wallTime.doms) (fun _ => ha) fun _ => hb

/-- A change of state keeps the domain's last Sync. -/
theorem syncAt_setDom (s : State) (d : Nat) (st : DomState) : ((setDom s d st).dom d).syncAt = (s.dom d).syncAt := by
  unfold setDom
  dsimp only
  split
  next => rfl
  next =>
    generalize hu : s.modDom d _ = u
    have hsync : (u.dom d).syncAt = (s.dom d).syncAt := by
      rw [← hu, State.dom_modDom, if_pos rfl]
    rw [← hsync]
    refine congrArg Domain.syncAt (dom_eq_of_doms ((doms_refreshValid _).trans (doms_ite ((doms_leftLocked _ d).trans ?_) ?_)) d)
    all_goals exact doms_ite (doms_ite rfl rfl) (doms_ite rfl rfl)

theorem syncAt_checkLock (s : State) (d : Nat) : ((checkLock s d).dom d).syncAt = (s.dom d).syncAt := by
  unfold checkLock
  dsimp only
  split
  · exact syncAt_setDom s d .locked
  · rfl

/-- The stamp of a usable Sync is the domain's last one (R435, R441). -/
theorem syncAt_takeSync (s : State) (d : Nat) (t : Int) : ((takeSync s d t).dom d).syncAt = some t := by
  unfold takeSync
  dsimp only
  generalize hu : State.modDom _ d _ = u
  have hsync : (u.dom d).syncAt = some t := by
    rw [← hu, State.dom_modDom, if_pos rfl]
  have hlock : ∀ c : Bool, ((if c then setDom u d .acquire else checkLock u d).dom d).syncAt = some t := by
    rintro (_ | _)
    · exact (syncAt_checkLock u d).trans hsync
    · exact (syncAt_setDom u d .acquire).trans hsync
  exact iteInduction (motive := fun v : State => (v.dom d).syncAt = some t) (fun _ => hlock _) fun _ => hlock _

theorem checkLock_cases {s : State} {d : Nat} (h : (s.dom d).state = .acquire) :
    (16 ≤ (s.dom d).syncs → 16 ≤ (s.dom d).delays → checkLock s d = setDom s d .locked)
    ∧ (((s.dom d).syncs < 16 ∨ (s.dom d).delays < 16) → checkLock s d = s) := by
  refine ⟨fun hs hd => if_pos ?_, fun hn => if_neg ?_⟩
  · simp [h, hs, hd]
  · simp only [Bool.and_eq_true, decide_eq_true_eq]
    omega

/-! ### PTP messages (R434, R441) -/

/-- The domain takes no messages: it or its port is not enabled, VDD_CORE is down, or Nirdin does not run. -/
def deaf (s : State) (d : Nat) : Bool := !(s.dom d).en || !(s.tport (s.dom d).port).en || !s.power.core || !nirdinRuns s

theorem deaf_iff (s : State) (d : Nat) : deaf s d = true ↔
    (s.dom d).en = false ∨ (s.tport (s.dom d).port).en = false ∨ s.power.core = false ∨ nirdinRuns s = false := by
  simp [deaf, or_assoc]

/-- What a message does to a domain that takes it. -/
def ptpEffect (s : State) (d : Nat) : PtpMessage → State
  | .announce a => if a.steps.toNat ≥ 255 then s else selectMaster
      (s.modDom d (fun x => { x with masters := x.masters.filter (fun b => b.identity != a.identity) ++ [a] })) d
  | .announceTimeout => selectMaster (s.modDom d (fun x => { x with
      masters := x.masters.filter (fun b => some b.identity != x.master.map (fun a => a.identity)) })) d
  | .sync usable i => if (s.dom d).master.isSome && usable then takeSync s d (ingress (s.tport (s.dom d).port) (stampAt s i)) else s
  | .delayExchange i => if (s.dom d).master.isSome && (s.dom d).reqAt.isSome then checkLock (s.modDom d (fun x => { x with
      delays := x.delays + 1
      respAt := if x.peer then some (ingress (s.tport (s.dom d).port) (stampAt s i)) else none })) d else s
  | .pdelayReq i => if (s.dom d).peer then answerPdelay s (s.dom d).port (stampAt s i) else s
  | .management => s

theorem execPtpMessage_eq (s : State) (d : Fin 2) (m : PtpMessage) :
    exec (.ptpMessage d m) s = .next (if deaf s d then s else ptpEffect s d m) := by
  cases m <;> rfl

theorem execPtpMessage_hearing {s : State} {d : Fin 2} (h : deaf s d = false) (m : PtpMessage) :
    exec (.ptpMessage d m) s = .next (ptpEffect s d m) := by
  rw [execPtpMessage_eq, h]
  rfl

/-- A domain that takes no messages sends no request either. -/
theorem execPtp_deaf {s : State} {d : Fin 2} (h : deaf s d = true) (m : PtpMessage) :
    exec (.ptpMessage d m) s = .next s ∧ ∀ i, exec (.delayRequestSend ⟨d, i⟩) s = .next s := by
  refine ⟨by rw [execPtpMessage_eq, if_pos h], fun i => congrArg Host.Outcome.next (if_neg ?_)⟩
  rcases (deaf_iff s d).1 h with h | h | h | h <;> simp [h]

theorem execDelayRequestSend_master {s : State} {d : Fin 2} (i : Fin 32) (hen : (s.dom d).en = true)
    (hm : (s.dom d).master.isSome = true) (hp : (s.tport (s.dom d).port).en = true) (hc : s.power.core = true)
    (hr : nirdinRuns s = true) :
    let u := s.modDom d (fun x => { x with reqAt := some (egress (s.tport (s.dom d).port) (stampAt s i)) })
    exec (.delayRequestSend ⟨d, i⟩) s = .next { u with sent := .delayReq d (stampAt s i) :: u.sent } :=
  congrArg Host.Outcome.next (if_pos (by simp [hen, hm, hp, hc, hr]))

theorem execWallHoldover_cases (s : State) (d : Fin 2) :
    ((s.dom d).state = .locked → nirdinRuns s = true → exec (.wallHoldover d) s = .next (setDom s d .holdover))
    ∧ ((s.dom d).state ≠ .locked → exec (.wallHoldover d) s = .next s) :=
  ⟨fun h hr => congrArg Host.Outcome.next (if_pos (by simp [h, hr])), fun h => congrArg Host.Outcome.next (if_neg (by simp [h]))⟩

/-! ### Requests for an address of the port (R433) -/

/-- A port answers for its own address, where it has one. -/
theorem answersFor_iff {n : Nat} {en core : Bool} {own target : BitVec n} (he : en = true) (hc : core = true) :
    (en && own == target && own != 0 && core) = true ↔ own = target ∧ target ≠ 0 := by
  subst he hc
  simp only [Bool.true_and, Bool.and_true, Bool.and_eq_true, beq_iff_eq, bne_iff_ne]
  exact and_congr_right fun h => by rw [h]

theorem not_answersFor {n : Nat} {own target : BitVec n} (h : own ≠ target ∨ target = 0) : ¬ (own = target ∧ target ≠ 0) :=
  fun ⟨he, hz⟩ => h.elim (fun hne => hne he) hz

theorem execArpRequest_cases {s : State} {p : Fin 2} (t : BitVec 32) (m : BitVec 48) (he : (s.tport p).en = true)
    (hc : s.power.core = true) :
    ((s.tport p).ipv4 = t → t ≠ 0 → exec (.arpRequest p t m) s = .next { s with sent := .arpReply p (s.tport p).mac m :: s.sent })
    ∧ ((s.tport p).ipv4 ≠ t ∨ t = 0 → exec (.arpRequest p t m) s = .next s) :=
  ⟨fun h hz => congrArg Host.Outcome.next (if_pos ((answersFor_iff he hc).2 ⟨h, hz⟩)),
    fun h => congrArg Host.Outcome.next (if_neg (mt (answersFor_iff he hc).1 (not_answersFor h)))⟩

theorem execNeighborSolicitation_cases {s : State} {p : Fin 2} (t : BitVec 128) (m : BitVec 48) (he : (s.tport p).en = true)
    (hc : s.power.core = true) :
    ((s.tport p).ipv6 = t → t ≠ 0 →
      exec (.neighborSolicitation p t m) s = .next { s with sent := .neighborAdvert p (s.tport p).mac m :: s.sent })
    ∧ ((s.tport p).ipv6 ≠ t ∨ t = 0 → exec (.neighborSolicitation p t m) s = .next s) :=
  ⟨fun h hz => congrArg Host.Outcome.next (if_pos ((answersFor_iff he hc).2 ⟨h, hz⟩)),
    fun h => congrArg Host.Outcome.next (if_neg (mt (answersFor_iff he hc).1 (not_answersFor h)))⟩

/-- Settles O59: `ptpEffect` says message by message what a domain that takes messages does, a deaf one
is left alone, and the lemmas above give the other messages; the stamp of a Sync stays through the state change it may cause. -/
theorem wallMessages : Obligations.WallMessages := by
  unfold Obligations.WallMessages
  refine ⟨fun s d hen hp hc hr => ?_, fun s d m h => execPtp_deaf ((deaf_iff s d).2 h) m, fun s d h => checkLock_cases h,
    execWallHoldover_cases, fun s d i hen hm hp hc hr => execDelayRequestSend_master i hen hm hp hc hr, syncAt_takeSync,
    fun p t => ⟨rfl, rfl⟩, fun s p t m he hc => execArpRequest_cases t m he hc,
    fun s p t m he hc => execNeighborSolicitation_cases t m he hc⟩
  have hears : deaf s d = false := by simp [deaf, hen, hp, hc, hr]
  simp only [execPtpMessage_hearing hears]
  refine ⟨fun a h => congrArg Host.Outcome.next (if_neg (Nat.not_le.2 h)), fun a h => congrArg Host.Outcome.next (if_pos h.ge),
    rfl, fun i hm => congrArg Host.Outcome.next (if_pos (by simp [hm])),
    fun i => congrArg Host.Outcome.next (if_neg (by simp)),
    fun i hm hq => congrArg Host.Outcome.next (if_pos (by simp [hm, hq])),
    fun i h => congrArg Host.Outcome.next (if_neg ?_),
    fun i => ⟨fun h => congrArg Host.Outcome.next (if_pos h), fun h => congrArg Host.Outcome.next (if_neg (ne_true_of_eq_false h))⟩,
    rfl⟩
  rcases h with h | h <;> simp [h]

end Sys2Proof.Machine
end

section
/-! SUPPORT. Housekeeping converters (19 R486 to R495, R499 to R503): O60. -/

namespace Sys2Proof.Machine

/-! ### A unit after a change -/

@[simp] theorem State.hku_modHku (s : State) (u i : Nat) (g : HkUnit → HkUnit) :
    (s.modHku u g).hku i = if u = i then g (s.hku u) else s.hku i := by
  simp [State.modHku, State.hku, tmod, tget_tset]

/-! ### Late answers leave time alone -/

@[simp] theorem unreported_refMove (s : State) : unreported (refMove s) = unreported s := rfl

@[simp] theorem unreported_takeHeader (s : State) (req : Nat) (src : Stop) (a : Nat) :
    unreported (takeHeader s req src a).1 = unreported s := by
  unfold takeHeader
  split
  · rfl
  · simp [apply_ite Prod.fst, apply_ite unreported]

@[simp] theorem unreported_refStore (s : State) (f : Nat) (who : Owner) (r : Nat) (out : List Byte) :
    unreported (refStore s f who r out).1 = unreported s := by
  simp [refStore, apply_ite Prod.fst, apply_ite unreported]

@[simp] theorem unreported_logItems (s : State) (o : Origin) (st op : Nat) (l : List LedgerItem) :
    unreported (logItems s o st op l) = unreported s :=
  unreported_foldl (fun s _ => unreported_ledgerAppend s o st _) l s

@[simp] theorem unreported_postRsp (s : State) (f : Nat) (o : Outst) (dup : Bool) (st : Status) (ap : Nat) (out : List Byte) :
    unreported (postRsp s f o dup st ap out) = unreported s := by
  simp [postRsp]

@[simp] theorem unreported_answer (s : State) (f tag : Nat) (st : Status) (ap : Nat) (out : List Byte) (items : List LedgerItem) :
    unreported (answer s f tag st ap out items) = unreported s := by
  unfold answer
  split
  · rfl
  · split
    · rfl
    · dsimp only
      split <;> simp [apply_ite unreported]

/-- Whether this is a slot boundary is read from the time only. -/
theorem slotNow_of_time {s t : State} (h : t.time = s.time) : slotNow t = slotNow s := by
  simp only [slotNow, counting, State.st, h]

theorem slotNow_answer (s : State) (f tag : Nat) (st : Status) (ap : Nat) (out : List Byte) (items : List LedgerItem) :
    slotNow (answer s f tag st ap out items) = slotNow s :=
  slotNow_of_time (time_eq_of_unreported (unreported_answer s f tag st ap out items))

theorem slotNow_hkEvent (s : State) (u i : Nat) : slotNow (hkEvent s u i) = slotNow s := by
  unfold hkEvent
  split <;> rfl

/-! ### The slot (R488 to R493) -/

theorem execHkConversion_cases (s : State) (a b : BitVec 18) :
    (slotNow s = true → exec (.hkConversion a b) s = .next (hkSlot (hkSlot (wireWait (hkDrain (hkDrain s 0) 1)) 0 a) 1 b))
    ∧ (slotNow s = false → exec (.hkConversion a b) s = .next s) :=
  ⟨fun h => congrArg Host.Outcome.next (if_neg (by simp [h])), fun h => congrArg Host.Outcome.next (if_pos (by simp [h]))⟩

/-- What ran ends and the next conversion starts; one that a cut slot left short goes on (02 R39). -/
theorem hkSlot_cases (s : State) (u : Nat) (raw : BitVec 18) :
    (∀ v, (s.hku u).running = some v → v.tick + 750 ≤ s.now →
      hkSlot s u raw = startConv (fallDue (endConv s u v raw.toInt) u) u)
    ∧ (∀ v, (s.hku u).running = some v → s.now < v.tick + 750 → hkSlot s u raw = s)
    ∧ ((s.hku u).running = none → (s.hku u).calRun ≠ some 192 → hkSlot s u raw = startConv (fallDue s u) u) := by
  refine ⟨fun v hv h => ?_, fun v hv h => ?_, fun hv h => ?_⟩
  all_goals simp only [hkSlot, hv]
  · exact if_neg (Nat.not_lt.2 h)
  · exact if_pos h
  · exact if_neg h

theorem clip_bounds {lo hi : Int} (h : lo ≤ hi) (v : Int) : lo ≤ clip lo hi v ∧ clip lo hi v ≤ hi := by
  unfold clip
  split
  · omega
  · split <;> omega

/-! ### Injected sequences and REFOK (R490, R492) -/

theorem execHkInjectTrigger_cases (s : State) :
    (slotNow s = true → exec .hkInjectTrigger s = .next (injectUnit (injectUnit s 0) 1))
    ∧ (slotNow s = false → exec .hkInjectTrigger s = .next s) :=
  ⟨fun h => congrArg Host.Outcome.next (if_pos h), fun h => congrArg Host.Outcome.next (if_neg (ne_true_of_eq_false h))⟩

theorem injectUnit_early {s : State} {u t : Nat} (hn : (s.hku u).injNext = some t) (h : s.st < t) : injectUnit s u = s := by
  simp only [injectUnit, hn]
  exact if_pos h

/-- The single trigger of a sequence starts it, held where a calibration waits. -/
theorem injectUnit_starts {s : State} {u t : Nat} (hn : (s.hku u).injNext = some t) (h : t ≤ s.st) (hi : (s.hku u).inj = none)
    (hl : cInjLen (s.hku u).cfg ≠ 0) (hp : fld (s.hku u).cfg 352 32 = 0) :
    injectUnit s u = (s.modHku u (fun y => { y with injNext := none })).modHku u
      (fun y => { y with inj := some 0, injHeld := y.cal.isSome }) := by
  simp only [injectUnit, hn, if_neg (Nat.not_lt.2 h), if_pos hp, hi, if_neg hl]
  rfl

theorem execHkRefok_cases {s : State} {u : Fin 2} (hr : (s.hku u).refok = false) :
    (slotNow s = true → (s.hku u).refAt + 750000 ≤ s.now →
      exec (.hkRefok u) s = .next (s.modHku u (fun x => { x with refok := true })))
    ∧ (s.now < (s.hku u).refAt + 750000 → exec (.hkRefok u) s = .next s) :=
  ⟨fun hs h => congrArg Host.Outcome.next (if_pos (by simp [hs, hr, h])),
    fun h => congrArg Host.Outcome.next (if_neg (by simp [Nat.not_le.2 h]))⟩

/-! ### The end of a calibration (R494, R495) -/

/-- The state after a calibration has ended, before its values are taken. -/
def calEnded (s : State) (u : Nat) : State := hkEvent (s.modHku u (fun y => { y with cal := none, calRun := none })) u 1

/-- The state in which a calibration without STORE is answered: with new values, or with CALFAIL and the old ones. -/
def calTaken (s : State) (u : Nat) : State :=
  let v := calValues (s.hku u)
  if calGood v then (calEnded s u).modHku u (fun y => { y with offset := v.1, gain := v.2.toNat, uncal := false })
  else hkHit (calEnded s u) u hkCalFail

theorem slotNow_calTaken (s : State) (u : Nat) : slotNow (calTaken s u) = slotNow s := by
  have hended : slotNow (calEnded s u) = slotNow s := slotNow_hkEvent _ u 1
  rw [← hended]
  unfold calTaken
  dsimp only
  split <;> rfl

/-- A calibration without STORE that ends between slot boundaries starts no conversion. -/
theorem execHkCalDone_ends {s : State} {u : Fin 2} {f tag : Nat} (hc : (s.hku u).cal = some (f, tag, false))
    (hr : (s.hku u).calRun = some 192) (hs : slotNow s = false) :
    exec (.hkCalDone u) s = .next (releaseHeld (answer (calTaken s u) f tag
      (if calGood (calValues (s.hku u)) then .ok else .internal) 0 (calOut ((calTaken s u).hku u)) [item oHk u]) u) := by
  have hslot (st : Status) (out : List Byte) (items : List LedgerItem) :
      ¬ slotNow (releaseHeld (answer (calTaken s u) f tag st 0 out items) u) = true := by
    have hrel (t : State) : slotNow (releaseHeld t u) = slotNow t := rfl
    rw [hrel, slotNow_answer, slotNow_calTaken, hs]
    exact Bool.false_ne_true
  change execHkCalDone u s = _
  simp only [execHkCalDone, hc, hr]
  refine congrArg Host.Outcome.next ((if_neg (fun h => h rfl)).trans ?_)
  exact if_neg (hslot _ _ _)

theorem execHkCalDone_none {s : State} {u : Fin 2} (h : (s.hku u).cal = none ∨ (s.hku u).calRun ≠ some 192) :
    exec (.hkCalDone u) s = .next s := by
  change execHkCalDone u s = _
  cases hc : (s.hku u).cal with
  | none => simp only [execHkCalDone, hc]
  | some c =>
    have hr : (s.hku u).calRun ≠ some 192 := h.resolve_left (by simp [hc])
    simp only [execHkCalDone, hc]
    exact congrArg Host.Outcome.next (if_pos hr)

/-- Settles O60: each body is its rule's checks before one result; then the events, where a slot boundary is decided first, and
the end of a calibration, which leaves the time as it is. -/
theorem housekeeping : Obligations.Housekeeping := by
  unfold Obligations.Housekeeping
  refine ⟨.of_body (fun _ _ => rfl) (fun _ _ => rfl) (fun _ _ _ => scheduled_status ..),
    .of_body (fun _ _ => rfl) (fun _ _ => rfl) (fun _ _ _ => waiting_status _),
    .of_body (fun _ _ => rfl) (fun _ _ => rfl) (fun _ _ _ => rfl),
    .of_body (fun _ _ => rfl) (fun _ _ => rfl) (fun _ _ _ => report_status ..),
    .of_body (fun _ _ => rfl) (fun _ _ => rfl) (fun _ _ _ => waiting_status _),
    execHkConversion_cases, hkSlot_cases, fun x raw => ⟨rfl, clip_bounds (by decide) _⟩, execHkInjectTrigger_cases,
    fun s u t hn => ⟨injectUnit_early hn, fun h hi hl hp => ⟨_, injectUnit_starts hn h hi hl hp, ?_⟩⟩,
    fun s u hr => execHkRefok_cases hr, fun s u f tag hc hr hs => ?_, fun s u h => execHkCalDone_none h⟩
  · simp
  · have hends := execHkCalDone_ends hc hr hs
    refine ⟨fun hg => ?_, fun hg => ?_⟩
    · simp only [hends, calTaken, hg, if_true]
      rfl
    · simp only [hends, calTaken, hg]
      rfl

end Sys2Proof.Machine
end
